-- ==== Sys2Proof/Word.lean ====
section
/-! DEFINITION. The byte, the one machine word the manual treats as bits, and the set of inputs kept in one. -/

namespace Sys2Proof

/-- A byte of the control link, of the panel's key codes and of a stored record. -/
abbrev Byte := BitVec 8

/-- A set of inputs as the manual codes it (10.6): input k is the bit of weight 2^(k - 1). -/
abbrev InputSet := BitVec 8

/-- An input of the hall's video switch. The manual numbers them 1 to 8; `i` here is input `i + 1`. -/
abbrev Input := Fin 8

/-- A geometry preset, numbered 0 to 7 (R142). -/
abbrev PresetNo := Fin 8

end Sys2Proof
end

