-- ==== Sys2Proof/Syntax.lean ====
section
/-! DEFINITION. The commands: one constructor of `Instr` per row of spec/opcode_table.json, and the operands they carry. -/

namespace Sys2Proof

/-- The standing of a requester, PANEL < CONTROL < SERVICE (R97). -/
inductive Class where
  | panel | control | service
  deriving DecidableEq, Repr

/-- A lamp position (R55). -/
inductive Pos where
  | a | b
  deriving DecidableEq, Repr

/-- The engine's thermal state (R59, R168). -/
inductive Thermal where
  | normal | warn | over
  deriving DecidableEq, Repr

/-- The messages the engine strobes into the inbound latch (R168). -/
inductive EngineMsg where
  | lampSense (p : Pos) (lit : Bool)
  | thermal (t : Thermal)
  | door (isOpen : Bool)
  | statusReport (litA litB : Bool) (t : Thermal) (doorOpen : Bool)
  deriving DecidableEq, Repr

/-- The messages the video switch strobes into the matrix latch (6.3). -/
inductive MatrixMsg where
  | takeAck (input : Input)
  | presence (inputs : InputSet)
  deriving DecidableEq, Repr

/-- The given fields of a booking as the link carries them, 15 bytes (R193). -/
structure GivenRaw where
  tag : BitVec 16
  start : BitVec 32
  fin : BitVec 32
  plan : Byte
  opening : Byte
  preset : Byte
  exam : Byte
  examInputs : Byte
  deriving DecidableEq, Repr

/-- The parameters of HOLD, 9 bytes (R193). -/
structure HoldRaw where
  tag : BitVec 16
  scopes : Byte
  bound : Byte
  allowed : Byte
  expiry : BitVec 32
  deriving DecidableEq, Repr

/-- A source profile as the link carries it, 13 bytes; the label takes the first 8 (R193). -/
structure ProfileRaw where
  label : List Byte
  aspect : Byte
  preset : Byte
  fallback : Byte
  takeOnArrival : Byte
  panelSelectable : Byte
  deriving DecidableEq, Repr

/-- A preset as the link carries it: ten signed numbers of two bytes (R143, R193). -/
structure PresetRaw where
  kv : BitVec 16
  kh : BitVec 16
  tlDx : BitVec 16
  tlDy : BitVec 16
  trDx : BitVec 16
  trDy : BitVec 16
  brDx : BitVec 16
  brDy : BitVec 16
  blDx : BitVec 16
  blDy : BitVec 16
  deriving DecidableEq, Repr

/-- The configuration record as the link carries it: six bytes, then the nine levels (R193). -/
structure ConfigRaw where
  lead : Byte
  bridge : Byte
  unattended : Byte
  noShow : Byte
  grace : Byte
  plan : Byte
  levels : List Byte
  deriving DecidableEq, Repr

/-- What a failed or cut-off store write may leave in place of the record (R199, R201): some content, with a check byte
that differs from the content's own by `error`. -/
structure Damage where
  content : List Byte
  error : Byte
  deriving DecidableEq, Repr

/-- How the read-back of a store write came out (R199): it matched, or it did not and the stored copy is what it was
before, or is damaged (R201). -/
inductive ReadBack where
  | matched
  | kept
  | damaged (d : Damage)
  deriving DecidableEq, Repr

/-- How a request meets a minute arrival (R117): the two do not fall in one moment, or they do and the request is taken first, so
that the arrival follows it, or they do and the arrival has been taken first. No queue shows a moment, so the command says it
(DESIGN CHOICE, log 42). -/
inductive Meeting where
  | apart
  | arrivalFollows
  | arrivalTaken
  deriving DecidableEq, Repr

/-- A HOLD as it is taken: its parameters, and the minute arrival it meets (log 42). -/
structure HoldTaken where
  params : HoldRaw
  meets : Meeting
  deriving DecidableEq, Repr

/-- The end of a request frame: the service key line at that moment (R97), and the minute arrival that the request meets (log 42). -/
structure FrameEnd where
  serviceKey : Bool
  meets : Meeting
  deriving DecidableEq, Repr

/-- The commands, one constructor per row of spec/opcode_table.json, in the table's order. A request row carries the
requester's class and the parameter fields as the link carries them (R193), so that a value out of its field's range can
reach the owning block (R183). -/
inductive Instr where
  | book (c : Class) (g : GivenRaw)
  | rebk (c : Class) (g : GivenRaw)
  | unbk (c : Class) (tag : BitVec 16)
  | find (c : Class) (tag : BitVec 16)
  | next (c : Class) (minute : BitVec 32)
  | endn (c : Class) (tag : BitVec 16)
  | time (c : Class) (minute : BitVec 32) (second : Byte)
  | clck (c : Class)
  | sesn (c : Class)
  | sesf (c : Class)
  | lamp (c : Class)
  | fitl (c : Class) (position : Byte) (serial : BitVec 32) (rated : BitVec 16)
  | reml (c : Class) (position : Byte)
  | clrf (c : Class) (position : Byte)
  | hold (c : Class) (h : HoldTaken)
  | lift (c : Class) (tag : BitVec 16)
  | hlds (c : Class)
  | srce (c : Class) (input : Byte)
  | prof (c : Class) (input : Byte) (p : ProfileRaw)
  | prfr (c : Class) (input : Byte)
  | sigs (c : Class)
  | prst (c : Class) (number : Byte) (p : PresetRaw)
  | prsr (c : Class) (number : Byte)
  | appl (c : Class) (number : Byte)
  | crnr (c : Class)
  | mute (c : Class)
  | unmt (c : Class)
  | summ (c : Class)
  | nlvl (c : Class) (position : Byte) (level : Byte)
  | conf (c : Class) (r : ConfigRaw)
  | cnfr (c : Class)
  | rstr (c : Class)
  | restartFlushEnd (failed : List (Nat × ReadBack))
  | keyStrobe (code : Byte)
  | powerOn
  | powerOff
  | muteKey
  | sourceKey
  | presetKey
  | unknownKey
  | secondArrival
  | minuteArrival
  | unstoredLitSecondsWrap (p : Pos)
  | continuousLit600 (p : Pos)
  | strikeWindowRunsOut (p : Pos)
  | cooldownEnd (p : Pos)
  | unattendedEnd
  | graceRunsOut
  | takeTimeout
  | settleTimeout
  | lossTimerRunsOut
  | frameEdge (time : Nat)
  | lineEdge
  | acknowledgeTimeout
  | engineAcknowledge
  | engineInboundStrobe (m : EngineMsg)
  | lampSense
  | thermal
  | door
  | statusReport
  | matrixInboundStrobe (m : MatrixMsg)
  | takeAck
  | presence
  | fireLineChange (active : Bool)
  | frameBegin
  | requestFrameEnd (e : FrameEnd)
  | fetchFrame
  | malformedFrame
  | overrunFrame
  | replyStaging
  | writeEnd (r : ReadBack)
  | retryWaitEnd (record : Nat)
  | powerReset (cutOff : Damage)
  | startUpEnd
  | byteCompletion (b : Byte)
  deriving DecidableEq, Repr

end Sys2Proof
end

