-- ==== Sys2Proof/Decode.lean ====
section
/-! DEFINITION. The command a word spells by the bits of spec/opcode_table.json. No row of the table gives bits: the block
takes commands, not encoded instructions. (The frames of the control link, which carry the 32 requests, are decoded in
Machine/Operands.lean and Machine/ControlLink.lean.) -/

namespace Sys2Proof

/-- No row of the table gives bits, so no word spells a command. -/
def decodeTableWord (_nbits _w : Nat) : Option Instr := none

end Sys2Proof
end

