-- ==== Sys2Proof/Config.lean ====
section
/-! DEFINITION. The fixed figures of the part (00_scope, "Shared figures") and the free values the manual leaves open. -/

namespace Sys2Proof.Config

/-- The top of the room minute (R29). -/
def topMinute : Nat := 2147483647
/-- The top of a lamp's wear (R55). -/
def topWear : Nat := 4294967295
/-- Booking table capacity (R6). -/
def tableCapacity : Nat := 48
/-- Booking horizon in minutes (R17). -/
def horizon : Nat := 20160
/-- Shortest booking in minutes (R3). -/
def shortestBooking : Nat := 10
/-- Longest booking in minutes (R3). -/
def longestBooking : Nat := 720
/-- Strike window in seconds (R61). -/
def strikeWindow : Nat := 20
/-- Cooldown after a lit lamp is doused, and after a hold douse or a channel FAULT (R67, R70, R71). -/
def longCooldown : Nat := 120
/-- Cooldown after a failed strike, a strike aborted by demand, or a drop (R63, R64, R68). -/
def shortCooldown : Nat := 60
/-- Attempts before FAILED (R63, R68). -/
def failedAttempts : Nat := 3
/-- Continuous lit time that clears the attempt count (R66). -/
def provedLitSeconds : Nat := 600
/-- Charge at entry to LIT (R81). -/
def strikeCharge : Nat := 2880
/-- Charge when the strike window runs out (R81). -/
def failedStrikeCharge : Nat := 1440
/-- The most a booking's planned wear can be (R90). -/
def topPlannedWear : Nat := 353280
/-- Shortest and longest accepted frame period in microseconds (R136). -/
def shortestPeriod : Nat := 8000
def longestPeriod : Nat := 50000
/-- Received bytes the decoder keeps (R179). -/
def keptBytes : Nat := 64
/-- The top of the byte count and of the line tally (R179, R135). -/
def top16 : Nat := 65535
/-- Requested holds at most (R102). -/
def requestedHolds : Nat := 12

/-- FREE VALUE (log 17): the line count that SIGS carries while no last frame is measured. R139 and R193 give the field
two bytes and no code for "absent". The argument is `State.freeCount`. -/
opaque freeLineCount : Nat → BitVec 16

/-- FREE VALUE (log 17): the coordinates that CRNR carries for a corner set that is absent. R155 and R193 give the fields
their bytes and no code for "absent". The arguments are `State.freeCount` and the number of the coordinate. -/
opaque freeCoordinate : Nat → Nat → BitVec 16

end Sys2Proof.Config
end

