-- ==== Sys2Proof/Machine/State.lean ====
section
/-! DEFINITION. The state of the part as plain data, block by block, its value right after a power reset, and the reasons a
step could stop. -/

namespace Sys2Proof.Machine

/-- Where the part stands: RUNNING, in START-UP after a power reset or a restart (R200), or in the FLUSH of RSTR (R201). -/
inductive Phase where
  | running | startUp | flush
  deriving DecidableEq, Repr

/-- The room clock (R29). -/
structure Clock where
  minute : Nat
  second : Nat
  isSet : Bool
  deriving DecidableEq, Repr

/-- A lamp plan (R3); `noLight` is NONE. -/
inductive Plan where
  | noLight | eco | full | dual
  deriving DecidableEq, Repr

/-- A lamp power (R56). -/
inductive Power where
  | full | eco
  deriving DecidableEq, Repr

/-- A set of lamp positions: none, A, B or A+B (an assignment R5, the asked lamps R35, the effective set R57). -/
structure LampSet where
  a : Bool
  b : Bool
  deriving DecidableEq, Repr

/-- The configuration record (R198). The nine levels are those of the notice classes (R194). -/
structure ConfigRecord where
  lead : Nat
  bridge : Nat
  unattended : Nat
  noShow : Nat
  grace : Nat
  plan : Plan
  levels : Vector Nat 9
  deriving DecidableEq, Repr

/-- One stored record: its content and its check byte (R199). -/
structure StoredRecord where
  content : List Byte
  check : Byte
  deriving DecidableEq, Repr

/-- The record the writer is WRITING, as it stood when the write started (R199). -/
structure Writing where
  number : Nat
  record : StoredRecord
  deriving DecidableEq, Repr

/-- The settings store (R199): the 67 stored records, the dirty set with its oldest record first, those of it that wait for
a retry, and the writer, IDLE when `writing` is none. -/
structure Store where
  records : List StoredRecord
  dirty : List Nat
  waiting : List Nat
  writing : Option Writing
  deriving DecidableEq, Repr

/-- One entry of the notice unit (R194); its level is in the configuration record. -/
structure Notice where
  pending : Bool
  code : Nat
  arg : BitVec 32
  deriving DecidableEq, Repr

/-- The origins of actions (R97). -/
inductive Origin where
  | panel | control | service | automatic
  deriving DecidableEq, Repr

/-- The request scopes (R101). -/
inductive Scope where
  | source | geometry | bookings | session | keys
  deriving DecidableEq, Repr

/-- The scopes of a hold (R101). -/
structure Scopes where
  strike : Bool
  shutter : Bool
  source : Bool
  geometry : Bool
  bookings : Bool
  session : Bool
  keys : Bool
  deriving DecidableEq, Repr

/-- The bound origins of a hold (R101). -/
structure Origins where
  panel : Bool
  control : Bool
  service : Bool
  automatic : Bool
  deriving DecidableEq, Repr

/-- The kinds of hold (R101). -/
inductive HoldKind where
  | fire | door | thermal | exam | requested
  deriving DecidableEq, Repr

/-- One hold record (R101); its slot is its place in the table. -/
structure Hold where
  kind : HoldKind
  placer : Option Class
  tag : Option Nat
  scopes : Scopes
  bound : Origins
  allowed : Option InputSet
  expiry : Option Nat
  bookingTag : Option Nat
  deriving DecidableEq, Repr

/-- The fire-alarm line (R105): its level, and the level last seen by the hold table. -/
structure FireLine where
  level : Bool
  seen : Bool
  deriving DecidableEq, Repr

/-- The given fields of a booking (R3). -/
structure Given where
  tag : Nat
  start : Nat
  fin : Nat
  plan : Plan
  opening : Option Input
  preset : Option PresetNo
  exam : Bool
  examInputs : Option InputSet
  deriving DecidableEq, Repr

/-- Where a booking stands in its run (R3). -/
inductive BookingState where
  | pending | warming | running
  deriving DecidableEq, Repr

/-- One booking record (R3) and the booking slot it occupies (R7). -/
structure Booking where
  given : Given
  owner : Class
  assignment : LampSet
  bridged : Bool
  plannedA : Nat
  plannedB : Nat
  state : BookingState
  shownSinceStart : Bool
  slot : Nat
  deriving DecidableEq, Repr

/-- What a lamp demand serves (R35). -/
inductive Basis where
  | idle | booking | gap | session
  deriving DecidableEq, Repr

/-- The lamp demand record (R35). -/
structure Demand where
  basis : Basis
  plan : Plan
  asked : LampSet
  power : Power
  gapBooking : Option Nat
  deriving DecidableEq, Repr

/-- The schedule unit's volatile state (R34). -/
structure Schedule where
  active : Option Nat
  startedAt : Option Nat
  demand : Demand
  session : Bool
  unattended : Nat
  deriving DecidableEq, Repr

/-- A lamp record (R55). -/
structure LampRecord where
  fitted : Bool
  serial : Nat
  rated : Nat
  wear : Nat
  strikes : Nat
  estimated : Bool
  deriving DecidableEq, Repr

/-- The states of a lamp machine (R56). -/
inductive LampState where
  | empty | cold | striking | lit | cooling | failed | spent
  deriving DecidableEq, Repr

/-- A lamp position: its record (R55), its machine (R56) and the two flags of the limit test (R85). -/
structure Lamp where
  record : LampRecord
  state : LampState
  attempts : Nat
  cooldown : Nat
  window : Option Nat
  power : Power
  unstored : Nat
  continuous : Nat
  committed : Nat
  wanted : Bool
  warned : Bool
  derated : Bool
  deriving DecidableEq, Repr

/-- The aspects of a profile (R118). -/
inductive Aspect where
  | a16x10 | a16x9 | a4x3 | a5x4
  deriving DecidableEq, Repr

/-- A source profile (R118). -/
structure Profile where
  label : List Byte
  aspect : Aspect
  preset : PresetNo
  fallback : Option Input
  takeOnArrival : Bool
  panelSelectable : Bool
  deriving DecidableEq, Repr

/-- The states of the switch machine (R121). -/
inductive SwitchState where
  | idle | taking | settling | shown | noSignal
  deriving DecidableEq, Repr

/-- The kinds of selection (R121). -/
inductive SelKind where
  | request | key | opening | fallback | arrival
  deriving DecidableEq, Repr

/-- A selection (6.2). -/
structure Selection where
  target : Input
  origin : Origin
  kind : SelKind
  deriving DecidableEq, Repr

/-- The switch machine (R121) with the matrix channel's take in flight and inbound latch (R126, R129). A timer shorter than a
second is running or stopped (log 22). -/
structure Switch where
  state : SwitchState
  current : Option Input
  reachedBy : Option SelKind
  pendingSel : Option Selection
  takeTimer : Bool
  settleTimer : Bool
  grace : Option Nat
  presence : InputSet
  takeInFlight : Option Input
  latch : Option MatrixMsg
  deriving DecidableEq, Repr

/-- The states of the sync meter (R135). -/
inductive MeterState where
  | idle | seeking | locked
  deriving DecidableEq, Repr

/-- A measured frame: its period in microseconds and its line count (R135). -/
structure Frame where
  period : Nat
  lines : Nat
  deriving DecidableEq, Repr

/-- The sync meter (R135). -/
structure Meter where
  state : MeterState
  refEdge : Option Nat
  tally : Nat
  last : Option Frame
  previous : Option Frame
  lossTimer : Bool
  deriving DecidableEq, Repr

/-- A geometry preset (R142). -/
structure Preset where
  kv : Int
  kh : Int
  tlDx : Int
  tlDy : Int
  trDx : Int
  trDy : Int
  brDx : Int
  brDy : Int
  blDx : Int
  blDy : Int
  deriving DecidableEq, Repr

/-- A point of the engine's raster (R150). -/
structure Point where
  x : Nat
  y : Nat
  deriving DecidableEq, Repr

/-- Four corners (R150). -/
structure Corners where
  tl : Point
  tr : Point
  br : Point
  bl : Point
  deriving DecidableEq, Repr

/-- Four corners with the input they were computed for: the wanted corner set and a WARP message (R151, R162). -/
structure CornerSet where
  corners : Corners
  input : Input
  deriving DecidableEq, Repr

/-- The geometry unit (R142, R145, R151, R153). -/
structure Geometry where
  presets : Vector Preset 8
  override : Option PresetNo
  wanted : Option CornerSet
  applied : Option Corners
  appliedFor : Option Input
  deriving DecidableEq, Repr

/-- The output gate (R158): the shutter state, true for OPEN, and mute. -/
structure Gate where
  shutterOpen : Bool
  mute : Bool
  deriving DecidableEq, Repr

/-- What the lamp unit says to the engine about one position (R162). -/
inductive LampMsg where
  | strike (p : Power)
  | power (p : Power)
  | douse
  deriving DecidableEq, Repr

/-- An outbound message; its slot follows from its kind (R162). `shutter true` is SHUTTER OPEN. -/
inductive OutMsg where
  | shutter (isOpen : Bool)
  | lamp (p : Pos) (m : LampMsg)
  | warp (w : CornerSet)
  deriving DecidableEq, Repr

/-- The states of the engine channel (R161). -/
inductive ChannelState where
  | ready | sending | fault
  deriving DecidableEq, Repr

/-- The engine channel (R161). -/
structure Engine where
  state : ChannelState
  inFlight : Option OutMsg
  ackTimer : Bool
  shutterSlot : Option Bool
  lampASlot : Option LampMsg
  lampBSlot : Option LampMsg
  warpSlot : Option CornerSet
  latch : Option EngineMsg
  deriving DecidableEq, Repr

/-- The link status byte (R179). -/
inductive LinkStatus where
  | none | ready | notReady
  deriving DecidableEq, Repr

/-- The control link (R179). The decoder is FREE when `decoder` is none, and BUSY with the reply body it holds (R183)
otherwise. The reply buffer is empty when `buffer` is []. `status` is the link status byte loaded when the current frame
began (R180). `owed` says that the end of start-up has cut off a frame whose status byte, NOT READY, is loaded and not yet
clocked out (R180, R188). -/
structure Link where
  receiving : Bool
  byteCount : Nat
  bytes : List Byte
  decoder : Option (List Byte)
  buffer : List Byte
  readPos : Nat
  overrun : Bool
  status : LinkStatus
  owed : Bool
  deriving DecidableEq, Repr

/-- The whole part. `panel` is the key latch (R172). `freeCount` is the model's own counter that numbers free values (log 17),
and `pending` is the queue of the commands that wait, first in, first out. -/
@[ext]
structure State where
  phase : Phase
  clock : Clock
  config : ConfigRecord
  store : Store
  notices : Vector Notice 9
  holds : Vector (Option Hold) 16
  fire : FireLine
  bookings : List Booking
  sched : Schedule
  lampA : Lamp
  lampB : Lamp
  thermal : Thermal
  profiles : Vector Profile 8
  switch : Switch
  meter : Meter
  geom : Geometry
  gate : Gate
  engine : Engine
  link : Link
  panel : Option Byte
  freeCount : Nat
  pending : List Instr
  deriving DecidableEq, Repr

/-- The reasons a step could stop with a fault: none. Every event of the manual leaves the part going on; a refused request, a
refused key, a link failure and a store failure are all next states. -/
inductive Fault where
  deriving DecidableEq, Repr

/-- The reasons a command could be refused by the model. -/
inductive Refusal where
  /-- Raised by the dispatch for a command whose meaning is not written yet. Safe: the model stops. No arm raises it. -/
  | notModelled (mnemonic : String)
  deriving DecidableEq, Repr

/-! ## The state after a power reset -/

/-- The empty lamp set. -/
def LampSet.empty : LampSet := ⟨false, false⟩

/-- The configuration record's defaults (R198, R194). -/
def ConfigRecord.defaults : ConfigRecord :=
  { lead := 3, bridge := 15, unattended := 20, noShow := 0, grace := 10, plan := .dual,
    levels := #v[2, 1, 1, 2, 3, 3, 3, 1, 0] }

/-- The default label "INPUT n" of input `i`, in 8 bytes (R118). -/
def Profile.defaultLabel (i : Input) : List Byte :=
  [73, 78, 80, 85, 84, 32, BitVec.ofNat 8 (49 + i.val), 0]

/-- A profile's defaults (R118). -/
def Profile.defaults (i : Input) : Profile :=
  { label := Profile.defaultLabel i, aspect := .a16x10, preset := 0, fallback := none, takeOnArrival := false,
    panelSelectable := true }

/-- A preset's defaults (R142). -/
def Preset.defaults : Preset := ⟨0, 0, 0, 0, 0, 0, 0, 0, 0, 0⟩

/-- The cleared record (R55). -/
def LampRecord.cleared : LampRecord :=
  { fitted := false, serial := 0, rated := 0, wear := 0, strikes := 0, estimated := false }

/-- The demand record with basis IDLE (R34, R35). Its power is read by nothing while no lamp is asked for: DESIGN CHOICE, log 18. -/
def Demand.idle : Demand := { basis := .idle, plan := .noLight, asked := .empty, power := .eco, gapBooking := none }

/-- The schedule unit after a reset (R34). -/
def Schedule.reset : Schedule :=
  { active := none, startedAt := none, demand := .idle, session := false, unattended := 0 }

/-- A lamp machine after a reset, over the record loaded for it (R78, R85). The committed wear is set by the rebuild (R8). -/
def Lamp.reset (r : LampRecord) : Lamp :=
  { record := r, state := if r.fitted then .cooling else .empty, attempts := 0,
    cooldown := if r.fitted then Config.longCooldown else 0, window := none, power := .eco, unstored := 0, continuous := 0,
    committed := 0, wanted := false, warned := false, derated := false }

/-- The switch machine and the matrix channel after a reset (R140). -/
def Switch.reset : Switch :=
  { state := .idle, current := none, reachedBy := none, pendingSel := none, takeTimer := false, settleTimer := false,
    grace := none, presence := 0, takeInFlight := none, latch := none }

/-- The sync meter IDLE (R135, R140). -/
def Meter.idle : Meter :=
  { state := .idle, refEdge := none, tally := 0, last := none, previous := none, lossTimer := false }

/-- The geometry unit after a reset, over the presets loaded for it (R156). -/
def Geometry.reset (presets : Vector Preset 8) : Geometry :=
  { presets := presets, override := none, wanted := none, applied := none, appliedFor := none }

/-- The output gate after a reset (R170). -/
def Gate.reset : Gate := { shutterOpen := false, mute := false }

/-- The engine channel after a reset: it starts in FAULT (R170). -/
def Engine.reset : Engine :=
  { state := .fault, inFlight := none, ackTimer := false, shutterSlot := none, lampASlot := none, lampBSlot := none,
    warpSlot := none, latch := none }

/-- The control link's values of R179. -/
def Link.reset : Link :=
  { receiving := false, byteCount := 0, bytes := [], decoder := none, buffer := [], readPos := 0, overrun := false,
    status := .none, owed := false }

/-- The control link at the start of start-up (R179, R188): no reply is held or staged, and a frame in progress goes on as a frame of
start-up, which is answered with NOT READY and fill and discarded at its rise. -/
def Link.restarted (l : Link) : Link :=
  { Link.reset with receiving := l.receiving, byteCount := if l.receiving then l.byteCount else 0,
                    bytes := if l.receiving then l.bytes else [], overrun := l.receiving,
                    status := if l.receiving then .notReady else .none, owed := l.owed }

/-- The control link at the end of start-up: the values of R179. The status byte NOT READY that a frame in progress has loaded and not
yet clocked out is still to come (R180, R188). -/
def Link.started (l : Link) : Link := { Link.reset with owed := l.owed || (l.receiving && l.byteCount == 0) }

/-- A notice entry after a reset (R194). -/
def Notice.reset : Notice := { pending := false, code := 0, arg := 0 }

/-- The nine notice entries after a reset (R194). -/
def noticesReset : Vector Notice 9 := #v[.reset, .reset, .reset, .reset, .reset, .reset, .reset, .reset, .reset]

/-- The hold table after a reset: all 16 slots empty (R116). -/
def holdsReset : Vector (Option Hold) 16 :=
  #v[none, none, none, none, none, none, none, none, none, none, none, none, none, none, none, none]

/-- The profiles' defaults (R118). -/
def profilesDefault : Vector Profile 8 :=
  #v[.defaults 0, .defaults 1, .defaults 2, .defaults 3, .defaults 4, .defaults 5, .defaults 6, .defaults 7]

/-- The presets' defaults (R142). -/
def presetsDefault : Vector Preset 8 :=
  #v[.defaults, .defaults, .defaults, .defaults, .defaults, .defaults, .defaults, .defaults]

/-- The stored copy of a default profile, with its check byte (log 5, log 6). -/
def StoredRecord.defaultProfile (i : Input) (check : Byte) : StoredRecord :=
  { content := Profile.defaultLabel i ++ [0, 0, 0, 0, 1], check := check }

/-- The stored copies a new store holds: DESIGN CHOICE, log 6. The configuration, the profiles and the presets stand at their
defaults, the lamp records are cleared and the booking slots are empty, every check byte being right (log 5). -/
def storeFirst : List StoredRecord :=
  [{ content := [3, 15, 20, 0, 10, 3, 2, 1, 1, 2, 3, 3, 3, 1, 0], check := 87 }]
    ++ [.defaultProfile 0 88, .defaultProfile 1 62, .defaultProfile 2 225, .defaultProfile 3 242,
        .defaultProfile 4 45, .defaultProfile 5 75, .defaultProfile 6 148, .defaultProfile 7 109]
    ++ List.replicate 8 { content := List.replicate 20 0, check := 0 }
    ++ List.replicate 2 { content := List.replicate 14 0, check := 0 }
    ++ List.replicate 48 { content := List.replicate 17 0, check := 0 }

/-- The part right after a power reset has loaded the model's first store (R200 steps 1 to 3; log 6, log 8): in START-UP, every
block at the reset value its chapter gives, the queue empty. -/
def State.reset : State :=
  { phase := .startUp
    clock := { minute := 0, second := 0, isSet := false }
    config := .defaults
    store := { records := storeFirst, dirty := [], waiting := [], writing := none }
    notices := noticesReset
    holds := holdsReset
    fire := { level := false, seen := false }
    bookings := []
    sched := .reset
    lampA := .reset .cleared
    lampB := .reset .cleared
    thermal := .normal
    profiles := profilesDefault
    switch := .reset
    meter := .idle
    geom := .reset presetsDefault
    gate := .reset
    engine := .reset
    link := .reset
    panel := none
    freeCount := 0
    pending := [] }

end Sys2Proof.Machine
end

