-- ==== Sys2Proof/Machine/Operands.lean ====
section
/-! DEFINITION. Bytes and fields: the codes of R192, the parameter fields of a request frame read from their bytes (R193), the
records of the settings store written to bytes, checked and read back (R199, R200), and the body of a reply (R191). -/

namespace Sys2Proof.Machine

/-! ## Bytes -/

/-- A byte holding `n` modulo 256. -/
def byte (n : Nat) : Byte := BitVec.ofNat 8 n

/-- A number in two bytes, most significant first (10.6). -/
def be16 (n : Nat) : List Byte := [byte (n / 256), byte n]

/-- A number in four bytes, most significant first (10.6). -/
def be32 (n : Nat) : List Byte := [byte (n / 16777216), byte (n / 65536), byte (n / 256), byte n]

/-- A signed number in two bytes, two's complement (10.6). -/
def signed16 (n : Int) : List Byte := be16 (BitVec.ofInt 16 n).toNat

/-- The byte at place `k`, 0 where there is none. -/
def u8 (bs : List Byte) (k : Nat) : Byte := bs.getD k 0

/-- The two-byte field at place `k`, most significant byte first. -/
def u16 (bs : List Byte) (k : Nat) : BitVec 16 := u8 bs k ++ u8 bs (k + 1)

/-- The four-byte field at place `k`, most significant byte first. -/
def u32 (bs : List Byte) (k : Nat) : BitVec 32 := u16 bs k ++ u16 bs (k + 2)

/-- Whether input `i` is in the set (10.6). -/
def hasInput (set : InputSet) (i : Input) : Bool := set.getLsbD i.val

/-- The inputs in rising order. -/
def allInputs : List Input := [0, 1, 2, 3, 4, 5, 6, 7]

/-- The lowest-numbered input of a set (R39). -/
def lowestInput (set : InputSet) : Option Input := allInputs.find? (hasInput set)

/-! ## Field codes (R192) -/

/-- yes/no: no 0, yes 1. -/
def boolByte (b : Bool) : Byte := if b then 1 else 0

/-- The yes/no a byte codes. -/
def boolOf (b : Byte) : Option Bool := if b = 0 then some false else if b = 1 then some true else none

/-- The code of a lamp plan. -/
def Plan.byte : Plan → Byte
  | .noLight => 0 | .eco => 1 | .full => 2 | .dual => 3

/-- The lamp plan a byte codes. -/
def Plan.ofByte (b : Byte) : Option Plan :=
  if b = 0 then some .noLight else if b = 1 then some .eco else if b = 2 then some .full
  else if b = 3 then some .dual else none

/-- The code of an assignment, effective set or asked lamps. -/
def LampSet.byte (l : LampSet) : Byte :=
  match l.a, l.b with
  | false, false => 0 | true, false => 1 | false, true => 2 | true, true => 3

/-- The assignment a byte codes. -/
def LampSet.ofByte (b : Byte) : Option LampSet :=
  if b = 0 then some ⟨false, false⟩ else if b = 1 then some ⟨true, false⟩ else if b = 2 then some ⟨false, true⟩
  else if b = 3 then some ⟨true, true⟩ else none

/-- The code of a position. -/
def posByte : Pos → Byte
  | .a => 1 | .b => 2

/-- The position a byte codes. -/
def posOf (b : Byte) : Option Pos := if b = 1 then some .a else if b = 2 then some .b else none

/-- The code of a booking's state. -/
def BookingState.byte : BookingState → Byte
  | .pending => 0 | .warming => 1 | .running => 2

/-- The code of a class. -/
def classByte : Class → Byte
  | .panel => 0 | .control => 1 | .service => 2

/-- The class a byte codes. -/
def classOf (b : Byte) : Option Class :=
  if b = 0 then some .panel else if b = 1 then some .control else if b = 2 then some .service else none

/-- The code of a lamp state. -/
def LampState.byte : LampState → Byte
  | .empty => 0 | .cold => 1 | .striking => 2 | .lit => 3 | .cooling => 4 | .failed => 5 | .spent => 6

/-- The code of a thermal report. -/
def thermalByte : Thermal → Byte
  | .normal => 0 | .warn => 1 | .over => 2

/-- The code of a demand basis. -/
def Basis.byte : Basis → Byte
  | .idle => 0 | .booking => 1 | .gap => 2 | .session => 3

/-- The code of a hold kind. -/
def HoldKind.byte : HoldKind → Byte
  | .fire => 0 | .door => 1 | .thermal => 2 | .exam => 3 | .requested => 4

/-- The code of a set of scopes. -/
def Scopes.byte (s : Scopes) : Byte :=
  (if s.strike then 1 else 0) + (if s.shutter then 2 else 0) + (if s.source then 4 else 0)
    + (if s.geometry then 8 else 0) + (if s.bookings then 16 else 0) + (if s.session then 32 else 0)
    + (if s.keys then 64 else 0)

/-- The set of scopes a byte codes: bit 7 is no scope's. -/
def Scopes.ofByte (b : Byte) : Option Scopes :=
  if b.getLsbD 7 then none
  else some ⟨b.getLsbD 0, b.getLsbD 1, b.getLsbD 2, b.getLsbD 3, b.getLsbD 4, b.getLsbD 5, b.getLsbD 6⟩

/-- The code of a set of bound origins. -/
def Origins.byte (o : Origins) : Byte :=
  (if o.panel then 1 else 0) + (if o.control then 2 else 0) + (if o.service then 4 else 0)
    + (if o.automatic then 8 else 0)

/-- The set of bound origins a byte codes: bits 4 to 7 are no origin's. -/
def Origins.ofByte (b : Byte) : Option Origins :=
  if b.toNat < 16 then some ⟨b.getLsbD 0, b.getLsbD 1, b.getLsbD 2, b.getLsbD 3⟩ else none

/-- The code of one origin taken singly (R193). -/
def Origin.byte : Origin → Byte
  | .panel => 1 | .control => 2 | .service => 4 | .automatic => 8

/-- The code of an aspect. -/
def Aspect.byte : Aspect → Byte
  | .a16x10 => 0 | .a16x9 => 1 | .a4x3 => 2 | .a5x4 => 3

/-- The aspect a byte codes. -/
def Aspect.ofByte (b : Byte) : Option Aspect :=
  if b = 0 then some .a16x10 else if b = 1 then some .a16x9 else if b = 2 then some .a4x3
  else if b = 3 then some .a5x4 else none

/-- The code of a switch state. -/
def SwitchState.byte : SwitchState → Byte
  | .idle => 0 | .taking => 1 | .settling => 2 | .shown => 3 | .noSignal => 4

/-- The code of a selection kind. -/
def SelKind.byte : SelKind → Byte
  | .request => 1 | .key => 2 | .opening => 3 | .fallback => 4 | .arrival => 5

/-- The code of "reached by": absent 0. -/
def reachedByte (k : Option SelKind) : Byte := k.elim 0 SelKind.byte

/-- The code of a meter state. -/
def MeterState.byte : MeterState → Byte
  | .idle => 0 | .seeking => 1 | .locked => 2

/-- The code of an input. -/
def inputByte (i : Input) : Byte := byte (i.val + 1)

/-- The code of an input that may be absent: absent 0. -/
def optInputByte (i : Option Input) : Byte := i.elim 0 inputByte

/-- The input a byte names: 1 to 8. -/
def inputOf (b : Byte) : Option Input :=
  if h : 1 ≤ b.toNat ∧ b.toNat ≤ 8 then some ⟨b.toNat - 1, by omega⟩ else none

/-- The code of a preset number that may be absent: absent 255. -/
def optPresetByte (p : Option PresetNo) : Byte := p.elim 255 (fun n => byte n.val)

/-- The preset a byte names: 0 to 7. -/
def presetOf (b : Byte) : Option PresetNo :=
  if h : b.toNat < 8 then some ⟨b.toNat, h⟩ else none

/-- The code of a timer or count that may not be running: not running 255. -/
def countByte (n : Option Nat) : Byte := n.elim 255 byte

/-- The code of a set of inputs that may be absent: absent 0. -/
def optSetByte (s : Option InputSet) : Byte := s.getD 0

/-- The code of a tag that may be absent: absent 0. -/
def optTagBytes (t : Option Nat) : List Byte := be16 (t.getD 0)

/-- The code of an expiry minute that may be absent: absent 4,294,967,295. -/
def optMinuteBytes (m : Option Nat) : List Byte := be32 (m.getD 4294967295)

/-! ## The requests of the catalogue (R190) -/

/-- The names of the 32 requests. -/
inductive ReqName where
  | book | rebk | unbk | find | next | endn | time | clck | sesn | sesf | lamp | fitl | reml | clrf | hold | lift
  | hlds | srce | prof | prfr | sigs | prst | prsr | appl | crnr | mute | unmt | summ | nlvl | conf | cnfr | rstr
  deriving DecidableEq, Repr

/-- The four capital letters of a request's name (R191). -/
def ReqName.letters : ReqName → List Byte
  | .book => [66, 79, 79, 75] | .rebk => [82, 69, 66, 75] | .unbk => [85, 78, 66, 75] | .find => [70, 73, 78, 68]
  | .next => [78, 69, 88, 84] | .endn => [69, 78, 68, 78] | .time => [84, 73, 77, 69] | .clck => [67, 76, 67, 75]
  | .sesn => [83, 69, 83, 78] | .sesf => [83, 69, 83, 70] | .lamp => [76, 65, 77, 80] | .fitl => [70, 73, 84, 76]
  | .reml => [82, 69, 77, 76] | .clrf => [67, 76, 82, 70] | .hold => [72, 79, 76, 68] | .lift => [76, 73, 70, 84]
  | .hlds => [72, 76, 68, 83] | .srce => [83, 82, 67, 69] | .prof => [80, 82, 79, 70] | .prfr => [80, 82, 70, 82]
  | .sigs => [83, 73, 71, 83] | .prst => [80, 82, 83, 84] | .prsr => [80, 82, 83, 82] | .appl => [65, 80, 80, 76]
  | .crnr => [67, 82, 78, 82] | .mute => [77, 85, 84, 69] | .unmt => [85, 78, 77, 84] | .summ => [83, 85, 77, 77]
  | .nlvl => [78, 76, 86, 76] | .conf => [67, 79, 78, 70] | .cnfr => [67, 78, 70, 82] | .rstr => [82, 83, 84, 82]

/-- The parameter length n the catalogue gives a request (R190). -/
def ReqName.length : ReqName → Nat
  | .book => 15 | .rebk => 15 | .unbk => 2 | .find => 2 | .next => 4 | .endn => 2 | .time => 5 | .clck => 0
  | .sesn => 0 | .sesf => 0 | .lamp => 0 | .fitl => 7 | .reml => 1 | .clrf => 1 | .hold => 9 | .lift => 2
  | .hlds => 0 | .srce => 1 | .prof => 14 | .prfr => 1 | .sigs => 0 | .prst => 21 | .prsr => 1 | .appl => 1
  | .crnr => 0 | .mute => 0 | .unmt => 0 | .summ => 0 | .nlvl => 2 | .conf => 15 | .cnfr => 0 | .rstr => 0

/-- Every name of the catalogue, in its order. -/
def ReqName.all : List ReqName :=
  [.book, .rebk, .unbk, .find, .next, .endn, .time, .clck, .sesn, .sesf, .lamp, .fitl, .reml, .clrf, .hold, .lift,
    .hlds, .srce, .prof, .prfr, .sigs, .prst, .prsr, .appl, .crnr, .mute, .unmt, .summ, .nlvl, .conf, .cnfr, .rstr]

/-- The request four received letters name, if any (R182). -/
def ReqName.ofLetters (bs : List Byte) : Option ReqName := ReqName.all.find? (fun n => n.letters == bs)

/-! ## The parameter fields of a request, read from its bytes (R193) -/

/-- The given fields of a booking. -/
def givenRawOf (ps : List Byte) : GivenRaw :=
  { tag := u16 ps 0, start := u32 ps 2, fin := u32 ps 6, plan := u8 ps 10, opening := u8 ps 11, preset := u8 ps 12,
    exam := u8 ps 13, examInputs := u8 ps 14 }

/-- The parameters of HOLD. -/
def holdRawOf (ps : List Byte) : HoldRaw :=
  { tag := u16 ps 0, scopes := u8 ps 2, bound := u8 ps 3, allowed := u8 ps 4, expiry := u32 ps 5 }

/-- Eight bytes of a label from place `k`. -/
def labelOf (ps : List Byte) (k : Nat) : List Byte :=
  [u8 ps k, u8 ps (k + 1), u8 ps (k + 2), u8 ps (k + 3), u8 ps (k + 4), u8 ps (k + 5), u8 ps (k + 6), u8 ps (k + 7)]

/-- A source profile from place `k`. -/
def profileRawOf (ps : List Byte) (k : Nat) : ProfileRaw :=
  { label := labelOf ps k, aspect := u8 ps (k + 8), preset := u8 ps (k + 9), fallback := u8 ps (k + 10),
    takeOnArrival := u8 ps (k + 11), panelSelectable := u8 ps (k + 12) }

/-- A preset from place `k`. -/
def presetRawOf (ps : List Byte) (k : Nat) : PresetRaw :=
  { kv := u16 ps k, kh := u16 ps (k + 2), tlDx := u16 ps (k + 4), tlDy := u16 ps (k + 6), trDx := u16 ps (k + 8),
    trDy := u16 ps (k + 10), brDx := u16 ps (k + 12), brDy := u16 ps (k + 14), blDx := u16 ps (k + 16),
    blDy := u16 ps (k + 18) }

/-- A configuration record. -/
def configRawOf (ps : List Byte) : ConfigRaw :=
  { lead := u8 ps 0, bridge := u8 ps 1, unattended := u8 ps 2, noShow := u8 ps 3, grace := u8 ps 4, plan := u8 ps 5,
    levels := [u8 ps 6, u8 ps 7, u8 ps 8, u8 ps 9, u8 ps 10, u8 ps 11, u8 ps 12, u8 ps 13, u8 ps 14] }

/-! ## The given fields of a booking (R3, R17) -/

/-- The opening input or fallback input a byte carries: 0 is absent, 1 to 8 an input, anything else out of range. -/
def optInputOf (b : Byte) : Option (Option Input) :=
  if b = 0 then some none else (inputOf b).map some

/-- The preset a byte carries: 255 is absent, 0 to 7 a preset, anything else out of range. -/
def optPresetOf (b : Byte) : Option (Option PresetNo) :=
  if b = 255 then some none else (presetOf b).map some

/-- The exam inputs a byte carries: 0 is absent (R192). -/
def optSetOf (b : Byte) : Option InputSet := if b = 0 then none else some b

/-- The exam inputs agree with the exam flag and the opening input (R17). -/
def examConsistent (exam : Bool) (inputs : Option InputSet) (opening : Option Input) : Bool :=
  match inputs with
  | none => !exam
  | some set => exam && set != 0 && opening.all (hasInput set)

/-- The given fields are in the ranges of R3 and consistent; the part of check 4 of BOOK (R17) that does not look at the
clock. -/
def Given.inRange (g : Given) : Bool :=
  1 ≤ g.tag && g.tag ≤ 65535 && g.start + Config.shortestBooking ≤ g.fin && g.fin ≤ g.start + Config.longestBooking
    && g.fin ≤ Config.topMinute && examConsistent g.exam g.examInputs g.opening

/-- The given fields a request carries, or none where a byte is no code of its field or a field is out of range or
inconsistent (R17, R192). -/
def givenOf (r : GivenRaw) : Option Given := do
  let plan ← Plan.ofByte r.plan
  let opening ← optInputOf r.opening
  let preset ← optPresetOf r.preset
  let exam ← boolOf r.exam
  let g : Given := { tag := r.tag.toNat, start := r.start.toNat, fin := r.fin.toNat, plan := plan, opening := opening,
                     preset := preset, exam := exam, examInputs := optSetOf r.examInputs }
  if g.inRange then some g else none

/-- The given fields as the link carries them. -/
def Given.raw (g : Given) : GivenRaw :=
  { tag := BitVec.ofNat 16 g.tag, start := BitVec.ofNat 32 g.start, fin := BitVec.ofNat 32 g.fin, plan := g.plan.byte,
    opening := optInputByte g.opening, preset := optPresetByte g.preset, exam := boolByte g.exam,
    examInputs := optSetByte g.examInputs }

/-- The 15 bytes of the given fields (R193). -/
def Given.bytes (g : Given) : List Byte :=
  be16 g.tag ++ be32 g.start ++ be32 g.fin
    ++ [g.plan.byte, optInputByte g.opening, optPresetByte g.preset, boolByte g.exam, optSetByte g.examInputs]

/-- The 28 bytes of a booking record (R193). -/
def Booking.bytes (b : Booking) : List Byte :=
  b.given.bytes ++ [classByte b.owner, b.assignment.byte, boolByte b.bridged] ++ be32 b.plannedA ++ be32 b.plannedB
    ++ [b.state.byte, boolByte b.shownSinceStart]

/-! ## Profiles, presets and the configuration (R119, R143, R198) -/

/-- A printable character: a byte of value 32 to 126 (R119). -/
def printable (b : Byte) : Bool := 32 ≤ b.toNat && b.toNat ≤ 126

/-- A label's 8 bytes: printable characters, ended by the first byte of value 0, after which every byte is 0 (R119). -/
def labelValid (label : List Byte) : Bool :=
  label.length == 8 && (label.dropWhile printable).all (· == 0)

/-- The profile a request carries for input `i`, or none where check 3 of PROF fails (R119). -/
def profileOf (i : Input) (r : ProfileRaw) : Option Profile := do
  let aspect ← Aspect.ofByte r.aspect
  let preset ← presetOf r.preset
  let fallback ← optInputOf r.fallback
  let takeOnArrival ← boolOf r.takeOnArrival
  let panelSelectable ← boolOf r.panelSelectable
  if labelValid r.label && fallback != some i then
    some { label := r.label, aspect := aspect, preset := preset, fallback := fallback, takeOnArrival := takeOnArrival,
           panelSelectable := panelSelectable }
  else none

/-- The 13 bytes of a profile (R193). -/
def Profile.bytes (p : Profile) : List Byte :=
  p.label ++ [p.aspect.byte, byte p.preset.val, optInputByte p.fallback, boolByte p.takeOnArrival,
    boolByte p.panelSelectable]

/-- A signed value pulled to the nearer end of its range (R143). -/
def clampInt (low high v : Int) : Int := if v < low then low else if high < v then high else v

/-- The preset the carried values give, before any is pulled. -/
def presetValues (r : PresetRaw) : Preset :=
  { kv := r.kv.toInt, kh := r.kh.toInt, tlDx := r.tlDx.toInt, tlDy := r.tlDy.toInt, trDx := r.trDx.toInt,
    trDy := r.trDy.toInt, brDx := r.brDx.toInt, brDy := r.brDy.toInt, blDx := r.blDx.toInt, blDy := r.blDy.toInt }

/-- A trim pulled to its range (R143). -/
def clampTrim (v : Int) : Int := clampInt (-64) 63 v

/-- A preset with every value pulled to its range (R143). -/
def Preset.clamped (p : Preset) : Preset :=
  { kv := clampInt (-300) 300 p.kv, kh := clampInt (-200) 200 p.kh, tlDx := clampTrim p.tlDx, tlDy := clampTrim p.tlDy,
    trDx := clampTrim p.trDx, trDy := clampTrim p.trDy, brDx := clampTrim p.brDx, brDy := clampTrim p.brDy,
    blDx := clampTrim p.blDx, blDy := clampTrim p.blDy }

/-- The 20 bytes of a preset (R193). -/
def Preset.bytes (p : Preset) : List Byte :=
  signed16 p.kv ++ signed16 p.kh ++ signed16 p.tlDx ++ signed16 p.tlDy ++ signed16 p.trDx ++ signed16 p.trDy
    ++ signed16 p.brDx ++ signed16 p.brDy ++ signed16 p.blDx ++ signed16 p.blDy

/-- A number pulled to the range `low` to `high` (R198). -/
def clampNat (low high n : Nat) : Nat := if n < low then low else if high < n then high else n

/-- The no-show minutes: 0 stays, 1 to 4 become 5, above 60 becomes 60 (R198). -/
def clampNoShow (n : Nat) : Nat := if n = 0 then 0 else clampNat 5 60 n

/-- The session plan a code gives: code 0 is pulled to ECO, a code above 3 to DUAL (R198). -/
def clampPlan (b : Byte) : Plan :=
  if b.toNat ≤ 1 then .eco else if b = 2 then .full else .dual

/-- A level pulled to 0 to 3 (R197, R198). -/
def clampLevel (n : Nat) : Nat := if 3 < n then 3 else n

/-- The nine levels, of carried bytes, pulled to their range. -/
def levelsOf (bs : List Byte) : Vector Nat 9 :=
  #v[clampLevel (u8 bs 0).toNat, clampLevel (u8 bs 1).toNat, clampLevel (u8 bs 2).toNat, clampLevel (u8 bs 3).toNat,
    clampLevel (u8 bs 4).toNat, clampLevel (u8 bs 5).toNat, clampLevel (u8 bs 6).toNat, clampLevel (u8 bs 7).toNat,
    clampLevel (u8 bs 8).toNat]

/-- The configuration record that CONF stores: each carried field pulled to its range (R198). -/
def configOf (r : ConfigRaw) : ConfigRecord :=
  { lead := clampNat 1 10 r.lead.toNat, bridge := clampNat 0 30 r.bridge.toNat,
    unattended := clampNat 5 120 r.unattended.toNat, noShow := clampNoShow r.noShow.toNat,
    grace := clampNat 2 60 r.grace.toNat, plan := clampPlan r.plan, levels := levelsOf r.levels }

/-- The 15 bytes of a configuration record (R193). -/
def ConfigRecord.bytes (c : ConfigRecord) : List Byte :=
  [byte c.lead, byte c.bridge, byte c.unattended, byte c.noShow, byte c.grace, c.plan.byte] ++ c.levels.toList.map byte

/-- The 15 carried bytes. -/
def configRawBytes (r : ConfigRaw) : List Byte :=
  [r.lead, r.bridge, r.unattended, r.noShow, r.grace, r.plan] ++ r.levels

/-! ## Holds (R101, R193) -/

/-- The 14 bytes of the hold in slot `slot` (R193). -/
def Hold.bytes (slot : Nat) (h : Hold) : List Byte :=
  [byte slot, h.kind.byte, h.placer.elim 255 classByte] ++ optTagBytes h.tag
    ++ [h.scopes.byte, h.bound.byte, optSetByte h.allowed] ++ optMinuteBytes h.expiry ++ optTagBytes h.bookingTag

/-! ## Stored records (R199; their byte layout is log 5) -/

/-- One step of the CRC-8: shift out the top bit, and add the polynomial x^8 + x^2 + x + 1 if it was 1. -/
def crc8Shift (r : Byte) : Byte := if r.msb then (r <<< 1) ^^^ 7 else r <<< 1

/-- The CRC-8 carried on over one byte, its most significant bit first. -/
def crc8Next (r b : Byte) : Byte :=
  crc8Shift (crc8Shift (crc8Shift (crc8Shift (crc8Shift (crc8Shift (crc8Shift (crc8Shift (r ^^^ b))))))))

/-- The CRC-8 of a content, initial value 0 (R199). -/
def crc8 (content : List Byte) : Byte := content.foldl crc8Next 0

/-- A content with its check byte (R199). -/
def checked (content : List Byte) : StoredRecord := { content := content, check := crc8 content }

/-- The stored record a damaged write leaves: its check byte does not agree with its content (R199). -/
def damagedRecord (d : Damage) : StoredRecord :=
  { content := d.content, check := crc8 d.content ^^^ (if d.error = 0 then 1 else d.error) }

/-- The 14 bytes of a stored lamp record: fitted, serial, R, W, strikes, wear estimated, a byte each for fitted and estimated
(DESIGN CHOICE, log 5). -/
def LampRecord.bytes (r : LampRecord) : List Byte :=
  [boolByte r.fitted] ++ be32 r.serial ++ be16 r.rated ++ be32 r.wear ++ be16 r.strikes ++ [boolByte r.estimated]

/-- The 17 bytes of an empty booking slot. -/
def emptySlotBytes : List Byte := List.replicate 17 0

/-- The 17 bytes of a booking slot: the given fields, the owner class and the assignment (R7). -/
def Booking.slotBytes (b : Booking) : List Byte := b.given.bytes ++ [classByte b.owner, b.assignment.byte]

/-- The record agrees with its check byte (R200). -/
def StoredRecord.agrees (r : StoredRecord) : Bool := r.check == crc8 r.content

/-- The configuration a stored record gives, or none where it fails its check (R200): the carried bytes must need no pull. -/
def loadConfig (r : StoredRecord) : Option ConfigRecord :=
  let c := configOf (configRawOf r.content)
  if r.agrees && r.content == c.bytes then some c else none

/-- The profile of input `i` a stored record gives, or none where it fails its check. -/
def loadProfile (i : Input) (r : StoredRecord) : Option Profile :=
  if r.agrees && r.content.length == 13 then profileOf i (profileRawOf r.content 0) else none

/-- The preset a stored record gives, or none where it fails its check. -/
def loadPreset (r : StoredRecord) : Option Preset :=
  let p := presetValues (presetRawOf r.content 0)
  if r.agrees && r.content.length == 20 && p.clamped == p then some p else none

/-- The fields of a lamp record as read from the bytes, whatever they hold, in the layout of `LampRecord.bytes` (log 5). -/
def lampRecordRead (bs : List Byte) : LampRecord :=
  { fitted := u8 bs 0 == 1, serial := (u32 bs 1).toNat, rated := (u16 bs 5).toNat, wear := (u32 bs 7).toNat,
    strikes := (u16 bs 11).toNat, estimated := u8 bs 13 == 1 }

/-- The fields of a lamp record are in the ranges of R55 and agree: a position with no lamp holds the cleared record. -/
def LampRecord.valid (r : LampRecord) : Bool :=
  if r.fitted then 100 ≤ r.rated && r.rated ≤ 20000 else r == .cleared

/-- The lamp record a stored record gives, or none where it fails its check. -/
def loadLamp (r : StoredRecord) : Option LampRecord :=
  let l := lampRecordRead r.content
  if r.agrees && r.content == l.bytes && l.valid then some l else none

/-- A slot's content is that of an empty slot or of a booking (R8). -/
inductive SlotContent where
  | free
  | taken (g : Given) (owner : Class) (assignment : LampSet)
  deriving DecidableEq, Repr

/-- The assignment suits the lamp plan (R5, R8). -/
def assignmentSuits (p : Plan) (l : LampSet) : Bool :=
  match p with
  | .noLight => !l.a && !l.b
  | .dual => l.a && l.b
  | .eco => l.a != l.b
  | .full => l.a != l.b

/-- What a stored booking slot gives, or none where it is discarded for its check byte, its given fields, its owner class or
its assignment (R8). -/
def loadSlot (r : StoredRecord) : Option SlotContent :=
  if !(r.agrees && r.content.length == 17) then none
  else if r.content == emptySlotBytes then some .free
  else do
    let g ← givenOf (givenRawOf r.content)
    let owner ← classOf (u8 r.content 15)
    let assignment ← LampSet.ofByte (u8 r.content 16)
    if owner != .panel && assignmentSuits g.plan assignment then some (.taken g owner assignment) else none

/-! ## Replies (R191) -/

/-- The outcomes of requests (00_scope, R191). -/
inductive ReqOutcome where
  | done | accepted | clamped | class' | held | range | missing | duplicate | overlap | full | lampLife | state | clock
  | malformed
  deriving DecidableEq, Repr

/-- The outcome codes (R191). -/
def ReqOutcome.byte : ReqOutcome → Byte
  | .done => 0 | .accepted => 1 | .clamped => 2 | .class' => 16 | .held => 17 | .range => 18 | .missing => 19
  | .duplicate => 20 | .overlap => 21 | .full => 22 | .lampLife => 23 | .state => 24 | .clock => 25 | .malformed => 26

/-- A reply body: four letters, the outcome, the parameter length and the parameters (R191). -/
def replyBody (letters : List Byte) (o : ReqOutcome) (params : List Byte) : List Byte :=
  letters ++ [o.byte, byte params.length] ++ params

/-- The link status codes (R191). -/
def LinkStatus.byte : LinkStatus → Byte
  | .none => 0 | .ready => 1 | .notReady => 2

end Sys2Proof.Machine
end

