-- ==== Sys2Proof/Machine/Flags.lean ====
section
/-! DEFINITION. The notice flags (R194), and the lines out that are derived from the state: attention (R195), key busy (R172)
and the panel's indicators (R178). -/

namespace Sys2Proof.Machine

/-- The nine notice classes, in position order (R194). -/
inductive NoticeClass where
  | lamp | schedule | source | hold | engine | matrix | store | link | panel
  deriving DecidableEq, Repr

/-- The place of a class: its position less one (R194). -/
def NoticeClass.index : NoticeClass → Fin 9
  | .lamp => 0 | .schedule => 1 | .source => 2 | .hold => 3 | .engine => 4 | .matrix => 5 | .store => 6 | .link => 7
  | .panel => 8

/-- A four-byte argument, its first byte first (R194). -/
def noticeArg (b1 b2 b3 b4 : Byte) : BitVec 32 := b1 ++ b2 ++ b3 ++ b4

/-- An argument of one byte; the unused bytes are 0 (R194). -/
def noticeArg1 (b : Byte) : BitVec 32 := noticeArg b 0 0 0

/-- An argument of two bytes. -/
def noticeArg2 (b1 b2 : Byte) : BitVec 32 := noticeArg b1 b2 0 0

/-- A booking's tag as an argument: two bytes (R194). -/
def noticeTag (tag : Nat) : BitVec 32 := noticeArg (byte (tag / 256)) (byte tag) 0 0

/-- Raise a notice: the class becomes pending with the new detail, and its level is left alone (R194). -/
def raiseNotice (c : NoticeClass) (code : Nat) (arg : BitVec 32) (s : State) : State :=
  { s with notices := s.notices.set c.index { pending := true, code := code, arg := arg } }

/-- The entry of a class. -/
def State.notice (s : State) (c : NoticeClass) : Notice := s.notices[c.index]

/-- The level of a class, which stands in the configuration record (R194, R198). -/
def State.level (s : State) (c : NoticeClass) : Nat := s.config.levels[c.index]

/-! ## LAMP notices -/
abbrev lampLitNotice (p : Pos) : State → State := raiseNotice .lamp 1 (noticeArg1 (posByte p))
abbrev strikeFailedNotice (p : Pos) : State → State := raiseNotice .lamp 2 (noticeArg1 (posByte p))
abbrev lampFailedNotice (p : Pos) : State → State := raiseNotice .lamp 3 (noticeArg1 (posByte p))
abbrev lampDroppedNotice (p : Pos) : State → State := raiseNotice .lamp 4 (noticeArg1 (posByte p))
abbrev lampSpentNotice (p : Pos) : State → State := raiseNotice .lamp 5 (noticeArg1 (posByte p))
abbrev lampWarnNotice (p : Pos) : State → State := raiseNotice .lamp 6 (noticeArg1 (posByte p))
abbrev lampDeratedNotice (p : Pos) : State → State := raiseNotice .lamp 7 (noticeArg1 (posByte p))
abbrev degradedNotice (eff : LampSet) : State → State := raiseNotice .lamp 8 (noticeArg1 eff.byte)
abbrev unexpectedLitNotice (p : Pos) : State → State := raiseNotice .lamp 9 (noticeArg1 (posByte p))
abbrev lampFittedNotice (p : Pos) : State → State := raiseNotice .lamp 10 (noticeArg1 (posByte p))
abbrev lampRemovedNotice (p : Pos) : State → State := raiseNotice .lamp 11 (noticeArg1 (posByte p))
abbrev lampClearedNotice (p : Pos) : State → State := raiseNotice .lamp 12 (noticeArg1 (posByte p))

/-! ## SCHEDULE notices -/
abbrev endedNotice (tag : Nat) : State → State := raiseNotice .schedule 1 (noticeTag tag)
abbrev releasedNotice (tag : Nat) : State → State := raiseNotice .schedule 2 (noticeTag tag)
abbrev missedNotice (tag : Nat) : State → State := raiseNotice .schedule 3 (noticeTag tag)
abbrev absorbedNotice (tag : Nat) : State → State := raiseNotice .schedule 4 (noticeTag tag)
abbrev unattendedNotice : State → State := raiseNotice .schedule 5 0
abbrev overcommittedNotice (l : LampSet) : State → State := raiseNotice .schedule 6 (noticeArg1 l.byte)

/-! ## SOURCE notices -/
abbrev shownNotice (i : Input) (k : Option SelKind) : State → State :=
  raiseNotice .source 1 (noticeArg2 (inputByte i) (reachedByte k))
abbrev noSignalNotice (i : Option Input) : State → State := raiseNotice .source 2 (noticeArg1 (optInputByte i))
abbrev lostNotice (i : Option Input) : State → State := raiseNotice .source 3 (noticeArg1 (optInputByte i))
abbrev fallbackNotice (lost : Option Input) (taken : Input) : State → State :=
  raiseNotice .source 4 (noticeArg2 (optInputByte lost) (inputByte taken))
abbrev droppedNotice (sel : Selection) : State → State :=
  raiseNotice .source 5 (noticeArg2 (inputByte sel.target) sel.kind.byte)
abbrev supersededNotice (sel : Selection) : State → State :=
  raiseNotice .source 6 (noticeArg2 (inputByte sel.target) sel.kind.byte)

/-! ## HOLD notices (R115): kind, slot (255 for a system hold), tag (0 for a system hold) -/
def holdNoticeArg (slot : Nat) (h : Hold) : BitVec 32 :=
  noticeArg h.kind.byte (if h.kind = .requested then byte slot else 255) (byte (h.tag.getD 0 / 256)) (byte (h.tag.getD 0))
abbrev holdPlacedNotice (slot : Nat) (h : Hold) : State → State := raiseNotice .hold 1 (holdNoticeArg slot h)
abbrev holdLiftedNotice (slot : Nat) (h : Hold) : State → State := raiseNotice .hold 2 (holdNoticeArg slot h)
abbrev holdExpiredNotice (slot : Nat) (h : Hold) : State → State := raiseNotice .hold 3 (holdNoticeArg slot h)

/-! ## ENGINE and MATRIX notices -/

/-- The message kind and position of an acknowledge timeout (R194): SHUTTER 1, LAMP 2, WARP 3. -/
def outMsgArg : Option OutMsg → BitVec 32
  | some (.shutter _) => noticeArg1 1
  | some (.lamp p _) => noticeArg2 2 (posByte p)
  | some (.warp _) => noticeArg1 3
  | none => 0
abbrev acknowledgeTimeoutNotice (m : Option OutMsg) : State → State := raiseNotice .engine 1 (outMsgArg m)
abbrev strayAcknowledgeNotice : State → State := raiseNotice .engine 2 0
abbrev engineDroppedNotice : State → State := raiseNotice .engine 3 0
abbrev recoveredNotice : State → State := raiseNotice .engine 4 0
abbrev takeTimeoutNotice (i : Option Input) : State → State := raiseNotice .matrix 1 (noticeArg1 (optInputByte i))
abbrev strayTakeAckNotice (i : Input) : State → State := raiseNotice .matrix 2 (noticeArg1 (inputByte i))
abbrev matrixDroppedNotice : State → State := raiseNotice .matrix 3 0

/-! ## STORE, LINK and PANEL notices -/
abbrev loadFaultNotice (record : Nat) : State → State := raiseNotice .store 1 (noticeArg1 (byte record))
abbrev writeFailedNotice (record : Nat) : State → State := raiseNotice .store 2 (noticeArg1 (byte record))

/-- The first four bytes received, 0 in place of any that were not (R185, R186). -/
def firstFour (bs : List Byte) : BitVec 32 := noticeArg (u8 bs 0) (u8 bs 1) (u8 bs 2) (u8 bs 3)
abbrev overrunNotice (bs : List Byte) : State → State := raiseNotice .link 1 (firstFour bs)
abbrev malformedNotice (reason : Nat) (bs : List Byte) : State → State := raiseNotice .link reason (firstFour bs)
abbrev droppedKeyNotice (code : Byte) : State → State := raiseNotice .panel 1 (noticeArg1 code)
abbrev unknownKeyNotice (code : Byte) : State → State := raiseNotice .panel 2 (noticeArg1 code)
abbrev refusedKeyNotice (code : Byte) (o : ReqOutcome) : State → State := raiseNotice .panel 3 (noticeArg2 code o.byte)

/-! ## Lines out -/

/-- Some class with a level of 1 or more is pending (R195). -/
def attentionDue (notices : Vector Notice 9) (levels : Vector Nat 9) : Bool :=
  (notices.toList.zip levels.toList).any (fun x => x.1.pending && 1 ≤ x.2)

/-- The attention line: deasserted from the start of a reset until the end of start-up, and otherwise asserted exactly while
some class with a level of 1 or more is pending (R195). -/
def State.attention (s : State) : Bool := s.phase == .running && attentionDue s.notices s.config.levels

/-- The key busy line: asserted while the latch holds a code, and from the start of a reset until the end of start-up (R172). -/
def State.keyBusy (s : State) : Bool := s.phase != .running || s.panel.isSome

/-- The panel's indicator lines (R178). INPUT n and PENDING n are given by their n, since at most one of each is on. -/
structure Indicators where
  input : Option Input
  pendingInput : Option Input
  lampLit : Bool
  lampWarming : Bool
  locked : Bool
  muted : Bool
  lecture : Bool
  deriving DecidableEq, Repr

/-- A lamp that is STRIKING or COOLING (R178). -/
def Lamp.warming (l : Lamp) : Bool := l.state == .striking || l.state == .cooling

/-- The indicator lines show the state of the other blocks, and are all off outside RUNNING (R178). -/
def State.indicators (s : State) : Indicators :=
  if s.phase = .running then
    { input := if s.switch.state = .idle then none else s.switch.current
      pendingInput := s.switch.pendingSel.map (·.target)
      lampLit := s.lampA.state == .lit || s.lampB.state == .lit
      lampWarming := s.lampA.warming || s.lampB.warming
      locked := s.holds.toList.any (fun h => h.any (·.bound.panel))
      muted := s.gate.mute
      lecture := s.bookings.any (·.state == .running) }
  else { input := none, pendingInput := none, lampLit := false, lampWarming := false, locked := false, muted := false,
         lecture := false }

end Sys2Proof.Machine
end

