-- ==== Sys2Proof/Machine/Ops.lean ====
section
/-! DEFINITION. The shared operations over the state: one update per block, the lamp positions, the hold check (R98), the dirty
set and the writer (R199), the outbound slots and the arbiter (R162, R163), the output gate (R158, R159), and the end of an
event. -/

namespace Sys2Proof.Machine

/-! ## Updates of one block -/

def State.setClock (s : State) (c : Clock) : State := { s with clock := c }
def State.setConfig (s : State) (c : ConfigRecord) : State := { s with config := c }
def State.setStore (s : State) (x : Store) : State := { s with store := x }
def State.setHolds (s : State) (h : Vector (Option Hold) 16) : State := { s with holds := h }
def State.setFire (s : State) (f : FireLine) : State := { s with fire := f }
def State.setTable (s : State) (bs : List Booking) : State := { s with bookings := bs }
def State.setSched (s : State) (x : Schedule) : State := { s with sched := x }
def State.setThermal (s : State) (t : Thermal) : State := { s with thermal := t }
def State.setProfiles (s : State) (p : Vector Profile 8) : State := { s with profiles := p }
def State.setSwitch (s : State) (x : Switch) : State := { s with switch := x }
def State.setMeter (s : State) (m : Meter) : State := { s with meter := m }
def State.setGeom (s : State) (g : Geometry) : State := { s with geom := g }
def State.setGate (s : State) (g : Gate) : State := { s with gate := g }
def State.setEngine (s : State) (e : Engine) : State := { s with engine := e }
def State.setLink (s : State) (l : Link) : State := { s with link := l }
def State.setPanel (s : State) (k : Option Byte) : State := { s with panel := k }

/-! ## Lamp positions -/

/-- The lamp of a position. -/
def State.lamp (s : State) : Pos → Lamp
  | .a => s.lampA
  | .b => s.lampB

/-- Put a lamp in a position. -/
def State.setLamp (s : State) (p : Pos) (l : Lamp) : State :=
  match p with
  | .a => { s with lampA := l }
  | .b => { s with lampB := l }

/-- Whether the set holds the position. -/
def LampSet.has (l : LampSet) : Pos → Bool
  | .a => l.a
  | .b => l.b

/-- The set without the position. -/
def LampSet.without (l : LampSet) : Pos → LampSet
  | .a => { l with a := false }
  | .b => { l with b := false }

/-- The set of one position. -/
def LampSet.only : Pos → LampSet
  | .a => ⟨true, false⟩
  | .b => ⟨false, true⟩

/-- Positions in both sets. -/
def LampSet.inter (l m : LampSet) : LampSet := ⟨l.a && m.a, l.b && m.b⟩

/-- The other position. -/
def otherPos : Pos → Pos
  | .a => .b
  | .b => .a

/-- A position is usable when it is fitted and in neither FAILED nor SPENT (R56). -/
def Lamp.usable (l : Lamp) : Bool := l.record.fitted && l.state != .failed && l.state != .spent

/-- A lamp that is STRIKING or LIT. -/
def Lamp.burning (l : Lamp) : Bool := l.state == .striking || l.state == .lit

/-- The effective set: the wanted positions (R56, R57). -/
def State.effective (s : State) : LampSet := ⟨s.lampA.wanted, s.lampB.wanted⟩

/-! ## The hold check -/

/-- The origin that a class of requester has (R97). -/
def classOrigin : Class → Origin
  | .panel => .panel
  | .control => .control
  | .service => .service

/-- The rank of a class: PANEL < CONTROL < SERVICE (R97). -/
def classRank : Class → Nat
  | .panel => 0
  | .control => 1
  | .service => 2

/-- A requirement of a class is met by that class and every class above it (R97). -/
def atLeast (c need : Class) : Bool := classRank need ≤ classRank c

/-- Whether a request scope is among a hold's scopes. -/
def Scopes.has (s : Scopes) : Scope → Bool
  | .source => s.source
  | .geometry => s.geometry
  | .bookings => s.bookings
  | .session => s.session
  | .keys => s.keys

/-- Whether an origin is among a hold's bound origins. -/
def Origins.has (o : Origins) : Origin → Bool
  | .panel => o.panel
  | .control => o.control
  | .service => o.service
  | .automatic => o.automatic

/-- The hold holds the action of origin `o` in scope `sc` with target input `target` (R98). The allowed inputs count in scope
SOURCE only; `target` is none where the action has no target or one that is no input. -/
def Hold.holdsAction (h : Hold) (o : Origin) (sc : Scope) (target : Option Input) : Bool :=
  h.scopes.has sc && h.bound.has o
    && (sc != .source || match h.allowed with
        | none => true
        | some set => !(target.any (hasInput set)))

/-- Some hold in the table holds the action (R98). -/
def State.held (s : State) (o : Origin) (sc : Scope) (target : Option Input) : Bool :=
  s.holds.toList.any (fun h => h.any (·.holdsAction o sc target))

/-- A hold with STRIKE among its scopes is in the table (R103). -/
def State.strikeHeld (s : State) : Bool := s.holds.toList.any (fun h => h.any (·.scopes.strike))

/-- A hold with SHUTTER among its scopes is in the table (R103). -/
def State.shutterHeld (s : State) : Bool := s.holds.toList.any (fun h => h.any (·.scopes.shutter))

/-! ## The settings store -/

/-- The record numbers (R199). -/
def configNo : Nat := 0
def profileNo (i : Input) : Nat := 1 + i.val
def presetNo (n : PresetNo) : Nat := 9 + n.val
def lampNo : Pos → Nat
  | .a => 17
  | .b => 18
def slotNo (slot : Nat) : Nat := 19 + slot

/-- Mark a record dirty: it joins the tail of the dirty set, or keeps its place if it is in it (R199). -/
def markDirty (n : Nat) (s : State) : State :=
  if s.store.dirty.contains n then s else s.setStore { s.store with dirty := s.store.dirty ++ [n] }

/-- Mark a position's lamp record dirty, which brings its unstored lit seconds to 0 (R82). -/
def markLampDirty (p : Pos) (s : State) : State :=
  (markDirty (lampNo p) s).setLamp p { s.lamp p with unstored := 0 }

/-- The content of a record as it stands (R199). -/
def recordContent (n : Nat) (s : State) : List Byte :=
  if n = 0 then s.config.bytes
  else if h : 1 ≤ n ∧ n ≤ 8 then (s.profiles[n - 1]'(by omega)).bytes
  else if h : 9 ≤ n ∧ n ≤ 16 then (s.geom.presets[n - 9]'(by omega)).bytes
  else if n = 17 then s.lampA.record.bytes
  else if n = 18 then s.lampB.record.bytes
  else match s.bookings.find? (fun b => slotNo b.slot == n) with
    | some b => b.slotBytes
    | none => emptySlotBytes

/-- The oldest record of the dirty set that does not wait for a retry (R199). -/
def oldestReady (st : Store) : Option Nat := st.dirty.find? (fun n => !st.waiting.contains n)

/-- The IDLE writer takes the oldest ready record, computes its check byte over its content at that moment and starts writing
(R199). -/
def startWrite (s : State) : State :=
  match s.store.writing, oldestReady s.store with
  | none, some n =>
    s.setStore { s.store with dirty := s.store.dirty.erase n,
                              writing := some { number := n, record := checked (recordContent n s) } }
  | _, _ => s

/-! ## The engine channel's outbound side -/

/-- A message is placed in its slot: it replaces an undelivered one, and is discarded while the channel is in FAULT (R162). -/
def Engine.place (m : OutMsg) (e : Engine) : Engine :=
  if e.state = .fault then e
  else match m with
    | .shutter o => { e with shutterSlot := some o }
    | .lamp .a l => { e with lampASlot := some l }
    | .lamp .b l => { e with lampBSlot := some l }
    | .warp w => { e with warpSlot := some w }

/-- Offer a message to its slot (R162). -/
def offer (m : OutMsg) (s : State) : State := s.setEngine (s.engine.place m)

/-- What a position's slot holds. -/
def Engine.lampSlot (e : Engine) : Pos → Option LampMsg
  | .a => e.lampASlot
  | .b => e.lampBSlot

/-- A message becomes the one in flight: the channel is SENDING with the acknowledge timer running (R163). -/
def Engine.send (m : OutMsg) (e : Engine) : Engine := { e with inFlight := some m, ackTimer := true, state := .sending }

/-- A READY channel with a slot occupied takes the first in the order SHUTTER, LAMP A, LAMP B, WARP, and strobes its message
(R163). -/
def Engine.arbitrate (e : Engine) : Engine :=
  if e.state = .ready then
    match e.shutterSlot, e.lampASlot, e.lampBSlot, e.warpSlot with
    | some o, _, _, _ => { e with shutterSlot := none }.send (.shutter o)
    | none, some m, _, _ => { e with lampASlot := none }.send (.lamp .a m)
    | none, none, some m, _ => { e with lampBSlot := none }.send (.lamp .b m)
    | none, none, none, some w => { e with warpSlot := none }.send (.warp w)
    | none, none, none, none => e
  else e

/-- The arbiter acts on the channel (R163). -/
def arbiter (s : State) : State := s.setEngine s.engine.arbitrate

/-! ## The output gate -/

/-- A booking is RUNNING. -/
def State.lectureRunning (s : State) : Bool := s.bookings.any (fun b => b.state == .running)

/-- The seven conditions of the gate (R158). -/
def gateCondition (s : State) : Bool :=
  (s.lampA.state == .lit || s.lampB.state == .lit)
    && s.switch.state == .shown
    && (s.geom.appliedFor.isSome && s.geom.appliedFor == s.switch.current)
    && !s.shutterHeld
    && !s.gate.mute
    && (s.lectureRunning || s.sched.session)
    && s.engine.state != .fault

/-- Evaluate the gate: on a change the shutter state takes the new value and a SHUTTER message is offered (R159). -/
def evalGate (s : State) : State :=
  let o := gateCondition s
  if o = s.gate.shutterOpen then s
  else offer (.shutter o) (s.setGate { s.gate with shutterOpen := o })

/-- The end of an event: the gate is evaluated once, after the event's last change (R159), the arbiter acts if it finds the
channel READY with a slot occupied (R163), and the IDLE writer takes the next record (R199). -/
def finish (s : State) : State := startWrite (arbiter (evalGate s))

/-- An event that acts only while the part is RUNNING: in START-UP and in the FLUSH nothing else is taken (R172, R188, R200,
R201). -/
def whenRunning (f : State → State) (s : State) : State := if s.phase = .running then f s else s

end Sys2Proof.Machine
end

