-- ==== Sys2Proof/Machine/Wear.lean ====
section
/-! DEFINITION. The arithmetic of lamp wear (chapter 4): limits, reported figures, planned wear, the candidate order and the
admission inequality. -/

namespace Sys2Proof.Machine

/-- An addition to W, saturating at its top value (R80, R81). -/
def addWear (w n : Nat) : Nat := min Config.topWear (w + n)

/-- The wear a lit second costs at a power (R80). -/
def secondWear : Power → Nat
  | .full => 8
  | .eco => 5

/-- The warn limit (R84). -/
def LampRecord.warnLimit (r : LampRecord) : Nat := r.rated * 25920
/-- The derate limit (R84). -/
def LampRecord.derateLimit (r : LampRecord) : Nat := r.rated * 28800
/-- The spent limit (R84). -/
def LampRecord.spentLimit (r : LampRecord) : Nat := r.rated * 31680

/-- The wear is at or beyond the spent limit (R87). -/
def LampRecord.isSpent (r : LampRecord) : Bool := r.spentLimit ≤ r.wear

/-- Equivalent hours (R88). -/
def LampRecord.equivalentHours (r : LampRecord) : Nat := if r.fitted then r.wear / 28800 else 0

/-- Hours to spent (R88). -/
def LampRecord.hoursToSpent (r : LampRecord) : Nat :=
  if r.fitted && r.wear < r.spentLimit then (r.spentLimit - r.wear) / 28800 else 0

/-- Life used, in per mille, limited to 9,999 (R88). -/
def LampRecord.lifeUsed (r : LampRecord) : Nat :=
  if r.fitted then min 9999 (r.wear * 1000 / (r.rated * 28800)) else 0

/-- The rate of a plan, in wu a second (R89). NONE takes no lamp and has no planned wear. -/
def Plan.rate : Plan → Nat
  | .noLight => 0
  | .eco => 5
  | .full => 8
  | .dual => 8

/-- The power of a plan: ECO for ECO, FULL for FULL and DUAL (R35). NONE asks for no lamp (log 18). -/
def Plan.power : Plan → Power
  | .noLight => .eco
  | .eco => .eco
  | .full => .full
  | .dual => .full

/-- The bridged flag of a booking against its predecessor (R9). -/
def evaluatesBridged (bridgeWindow : Nat) (pred : Option Booking) (g : Given) : Bool :=
  match pred with
  | none => false
  | some p => g.start - p.given.fin ≤ bridgeWindow && p.given.plan != .noLight && g.plan != .noLight

/-- Whether a position continues from the predecessor (R89). -/
def continues (bridged : Bool) (pred : Option Booking) (x : Pos) : Bool :=
  bridged && pred.any (fun p => p.assignment.has x)

/-- The planned wear of a booking for a position as though the position were assigned (R90). -/
def plannedWear (lead : Nat) (bridged : Bool) (pred : Option Booking) (g : Given) (x : Pos) : Nat :=
  if g.plan = .noLight then 0
  else
    let preStart :=
      if continues bridged pred x then (g.start - (pred.map (·.given.fin)).getD g.start) * 60 * 5
      else lead * 60 * g.plan.rate + 2880
    min Config.topPlannedWear (preStart + (g.fin - g.start) * 60 * g.plan.rate)

/-- The admission inequality: W + C + p is at most the spent limit, the sum formed exactly (R93). -/
def admits (r : LampRecord) (c p : Nat) : Bool := r.wear + c + p ≤ r.spentLimit

/-- The positions in order of lower W + C, A on a tie (R92). -/
def byWear (wcA wcB : Nat) : List Pos := if wcA ≤ wcB then [.a, .b] else [.b, .a]

/-- The candidate order of a single-lamp booking (R92). -/
def candidateOrder (bridged : Bool) (pred : Option Booking) (wcA wcB : Nat) : List Pos :=
  match bridged, pred with
  | true, some p =>
    if p.assignment = .only .a then [.a, .b] else if p.assignment = .only .b then [.b, .a] else byWear wcA wcB
  | _, _ => byWear wcA wcB

/-- The assignment an admission finds, with its planned wear for A and for B, or none where no assignment passes the life check
(R92, R93). `cA` and `cB` are the committed wears the check uses. -/
def chooseAssignment (lead : Nat) (lampA lampB : Lamp) (cA cB : Nat) (bridged : Bool) (pred : Option Booking) (g : Given) :
    Option (LampSet × Nat × Nat) :=
  let pA := plannedWear lead bridged pred g .a
  let pB := plannedWear lead bridged pred g .b
  let okA := lampA.usable && admits lampA.record cA pA
  let okB := lampB.usable && admits lampB.record cB pB
  match g.plan with
  | .noLight => some (⟨false, false⟩, 0, 0)
  | .dual => if okA && okB then some (⟨true, true⟩, pA, pB) else none
  | .eco | .full =>
    match (candidateOrder bridged pred (lampA.record.wear + cA) (lampB.record.wear + cB)).find?
        (fun x => match x with | .a => okA | .b => okB) with
    | some .a => some (⟨true, false⟩, pA, 0)
    | some .b => some (⟨false, true⟩, 0, pB)
    | none => none

end Sys2Proof.Machine
end

