-- ==== Sys2Proof/Machine/LampUnit.lean ====
section
/-! DEFINITION. The lamp unit (chapter 3): what it pursues, striking, burning, cooling, and what holds, faults, reports and
seconds do to a lamp. Each operation is a part of one event; the gate and the arbiter follow at the event's end (`finish`). -/

namespace Sys2Proof.Machine

/-- The wanted power of a wanted position: the demand's, forced to ECO by derate or a WARN report (R59, R86). -/
def State.wantedPower (s : State) (p : Pos) : Power :=
  if s.sched.demand.power = .eco || (s.lamp p).derated || s.thermal = .warn then .eco else .full

/-- The lamp unit offers a message for a position to its slot (R162). -/
def offerLamp (p : Pos) (m : LampMsg) (s : State) : State := offer (.lamp p m) s

/-- A wanted COLD position may be struck (R60). -/
def mayStrike (p : Pos) (s : State) : Bool :=
  (s.lamp p).state == .cold && (s.lamp p).wanted && !s.strikeHeld && (s.lamp p).record.wear < (s.lamp p).record.spentLimit
    && s.engine.state != .fault

/-- The strike test: a position that passes is struck (R60). -/
def strikeTest (p : Pos) (s : State) : State :=
  if mayStrike p s then
    let s' := offerLamp p (.strike (s.wantedPower p)) s
    s'.setLamp p { s'.lamp p with power := s.wantedPower p, state := .striking, window := none }
  else s

/-- The strike test for both positions. -/
def strikeTests (s : State) : State := strikeTest .b (strikeTest .a s)

/-- A STRIKE for the position is undelivered in its slot (R65). -/
def Engine.strikeWaits (e : Engine) (p : Pos) : Bool :=
  match e.lampSlot p with
  | some (.strike _) => true
  | some (.power _) => false
  | some .douse => false
  | none => false

/-- Evaluate the wanted power of a wanted position, and act on a difference by the position's state (R59, R65). -/
def evalPower (p : Pos) (s : State) : State :=
  let l := s.lamp p
  let w := s.wantedPower p
  if !l.wanted || l.power == w then s
  else match l.state with
    | .lit => let s' := offerLamp p (.power w) s; s'.setLamp p { s'.lamp p with power := w }
    | .striking =>
      if s.engine.strikeWaits p then
        let s' := offerLamp p (.strike w) s; s'.setLamp p { s'.lamp p with power := w }
      else s
    | .empty | .cold | .cooling | .failed | .spent => s

/-- Evaluate the wanted power of both positions. -/
def evalPowers (s : State) : State := evalPower .b (evalPower .a s)

/-- The exit from LIT marks the record dirty (R55). -/
def markIfLit (p : Pos) (s : State) : State := if (s.lamp p).state = .lit then markLampDirty p s else s

/-- A position goes to COOLING with the count given: the window stops, and a LIT lamp's continuous lit seconds become 0 and its
record is marked dirty (R64, R66, R67, R70, R71). -/
def cool (p : Pos) (seconds : Nat) (s : State) : State :=
  let s' := markIfLit p s
  s'.setLamp p { s'.lamp p with state := .cooling, cooldown := seconds, window := none, continuous := 0 }

/-- A position that stopped being wanted is doused if it is STRIKING (R64) or LIT (R67). -/
def douseUnwanted (p : Pos) (s : State) : State :=
  match (s.lamp p).state with
  | .striking => cool p Config.shortCooldown (offerLamp p .douse s)
  | .lit => cool p Config.longCooldown (offerLamp p .douse s)
  | .empty | .cold | .cooling | .failed | .spent => s

/-- A position takes its wanted value; if it stopped being wanted it is doused (R57). -/
def setWanted (eff : LampSet) (p : Pos) (s : State) : State :=
  let was := (s.lamp p).wanted
  let s' := s.setLamp p { s.lamp p with wanted := eff.has p }
  if was && !eff.has p then douseUnwanted p s' else s'

/-- The unit pursues an effective set: wanted values, douses, wanted powers and strike tests, in one event (R57). That A comes before
B, and so whose record joins the dirty set first, is the model's choice (DESIGN CHOICE, log 46). -/
def pursue (eff : LampSet) (s : State) : State := strikeTests (evalPowers (setWanted eff .b (setWanted eff .a s)))

/-- The effective set of a single-lamp demand: the asked position if usable, else the other if usable, else none (R57). -/
def singleEffective (s : State) (asked : Pos) : LampSet :=
  if (s.lamp asked).usable then .only asked
  else if (s.lamp (otherPos asked)).usable then .only (otherPos asked)
  else .empty

/-- The effective set of the demand as it is written (R57). -/
def effectiveOf (s : State) (d : Demand) : LampSet :=
  match d.basis with
  | .idle => .empty
  | .gap => d.asked
  | .booking | .session =>
    match d.plan, d.asked with
    | _, ⟨false, false⟩ => .empty
    | .dual, asked => asked.inter ⟨s.lampA.usable, s.lampB.usable⟩
    | _, ⟨true, false⟩ => singleEffective s .a
    | _, ⟨false, true⟩ => singleEffective s .b
    | _, asked => asked.inter ⟨s.lampA.usable, s.lampB.usable⟩

/-- A demand with basis BOOKING or SESSION. -/
def Demand.substitutes (d : Demand) : Bool := d.basis == .booking || d.basis == .session

/-- Write the lamp demand record: the effective set is computed afresh and pursued, and a BOOKING or SESSION set that differs
from a non-empty asked set raises the degraded notice (R57). -/
def writeDemand (d : Demand) (s : State) : State :=
  let s' := s.setSched { s.sched with demand := d }
  let eff := effectiveOf s' d
  let t := pursue eff s'
  if d.substitutes && d.asked != .empty && eff != d.asked then degradedNotice eff t else t

/-- The effective set recomputed after a change of usability: a single plan keeps the usable position it is on (R58). -/
def recomputedEffective (s : State) : LampSet :=
  let d := s.sched.demand
  let keep := s.effective
  match d.plan, d.asked with
  | _, ⟨false, false⟩ => .empty
  | .dual, asked => asked.inter ⟨s.lampA.usable, s.lampB.usable⟩
  | _, asked =>
    if keep.a && s.lampA.usable then .only .a
    else if keep.b && s.lampB.usable then .only .b
    else effectiveOf s { d with asked := asked }

/-- A position became usable or stopped being usable (R58). -/
def usabilityChanged (s : State) : State :=
  let d := s.sched.demand
  if d.substitutes then
    let eff := recomputedEffective s
    if eff = s.effective then s
    else
      let t := pursue eff s
      if eff != d.asked then degradedNotice eff t else t
  else s

/-- A kept lamp went out during a gap: it leaves the kept set and the demand is written, IDLE when the set is empty (R43, R73). -/
def gapExit (p : Pos) (s : State) : State :=
  let d := s.sched.demand
  if d.basis = .gap && d.asked.has p then
    if d.asked.without p = .empty then writeDemand .idle s
    else writeDemand { d with asked := d.asked.without p } s
  else s

/-- A hold douse of one position (R70). -/
def holdDouse (p : Pos) (s : State) : State :=
  if (s.lamp p).burning then cool p Config.longCooldown (offerLamp p .douse s) else s

/-- The lamp goes out with the channel's FAULT: no message (R71). -/
def faultCool (p : Pos) (s : State) : State :=
  if (s.lamp p).burning then cool p Config.longCooldown s else s

/-- Hand the exits of the positions that burned before to the schedule unit (R73). -/
def gapExits (wasA wasB : Bool) (s : State) : State :=
  let s' := if wasA then gapExit .a s else s
  if wasB then gapExit .b s' else s'

/-- Every position that is STRIKING or LIT is doused by a FIRE, DOOR or THERMAL hold (R70). A comes before B, and so record 17 joins
the dirty set before record 18 (DESIGN CHOICE, log 46). -/
def holdDouseAll (s : State) : State :=
  gapExits s.lampA.burning s.lampB.burning (holdDouse .b (holdDouse .a s))

/-- Every position that is STRIKING or LIT cools at the channel's FAULT (R71), A before B (DESIGN CHOICE, log 46). -/
def faultCoolAll (s : State) : State :=
  gapExits s.lampA.burning s.lampB.burning (faultCool .b (faultCool .a s))

/-- The entry of a STRIKING lamp to LIT, with its strike charge (R62, R81). -/
def enterLit (p : Pos) (s : State) : State :=
  let l := s.lamp p
  let s1 := s.setLamp p { l with state := .lit, window := none, continuous := 0,
                                 record := { l.record with wear := addWear l.record.wear Config.strikeCharge,
                                                           strikes := min 65535 (l.record.strikes + 1) } }
  evalPower p (lampLitNotice p (markLampDirty p s1))

/-- A position becomes FAILED: it is no longer usable, and R58 and R73 follow (R63, R68). -/
def enterFailed (p : Pos) (s : State) : State :=
  usabilityChanged (gapExit p (lampFailedNotice p
    (s.setLamp p { s.lamp p with state := .failed, cooldown := 0, window := none, continuous := 0 })))

/-- The strike window of a STRIKING position runs out (R63, R81). -/
def windowRunsOut (p : Pos) (s : State) : State :=
  let l := s.lamp p
  let s1 := s.setLamp p { l with attempts := l.attempts + 1, window := none,
                                 record := { l.record with wear := addWear l.record.wear Config.failedStrikeCharge } }
  let s2 := offerLamp p .douse (markLampDirty p s1)
  if l.attempts + 1 < Config.failedAttempts then gapExit p (strikeFailedNotice p (cool p Config.shortCooldown s2))
  else enterFailed p s2

/-- A drop: the engine reports a LIT lamp unlit (R68). -/
def dropLamp (p : Pos) (s : State) : State :=
  let l := s.lamp p
  let s1 := markLampDirty p (s.setLamp p { l with attempts := l.attempts + 1, continuous := 0 })
  if l.attempts + 1 < Config.failedAttempts then gapExit p (lampDroppedNotice p (cool p Config.shortCooldown s1))
  else enterFailed p s1

/-- A position enters COLD, and the strike test is made at once (R60, R69). -/
def enterCold (p : Pos) (s : State) : State := strikeTest p (s.setLamp p { s.lamp p with state := .cold, cooldown := 0 })

/-- The cooldown count of a COOLING position reaches 0 (R69). -/
def cooldownEnds (p : Pos) (s : State) : State :=
  if (s.lamp p).record.isSpent then
    usabilityChanged (lampSpentNotice p (s.setLamp p { s.lamp p with state := .spent, cooldown := 0 }))
  else enterCold p s

/-- A DOUSE for the position waits in its slot or is in flight (R72). -/
def Engine.dousePends (e : Engine) (p : Pos) : Bool :=
  e.lampSlot p == some .douse || e.inFlight == some (.lamp p .douse)

/-- A stray lit report (R72). -/
def strayLit (p : Pos) (s : State) : State :=
  if (s.lamp p).state = .cooling && s.engine.dousePends p then s
  else unexpectedLitNotice p (offerLamp p .douse s)

/-- The engine's lamp sense of one position is taken (R62, R68, R72, R169). -/
def lampReport (p : Pos) (lit : Bool) (s : State) : State :=
  match (s.lamp p).state, lit with
  | .striking, true => enterLit p s
  | .lit, false => dropLamp p s
  | .lit, true => s
  | _, true => strayLit p s
  | _, false => s

/-- The unstored lit seconds reach 60: the record is marked dirty and the count becomes 0 (R82). -/
def unstoredWraps (p : Pos) (s : State) : State := markLampDirty p s

/-- One more lit second stored in the count, wrapping at 60 (R82). -/
def countUnstored (p : Pos) (s : State) : State :=
  if 60 ≤ (s.lamp p).unstored + 1 then unstoredWraps p s
  else s.setLamp p { s.lamp p with unstored := (s.lamp p).unstored + 1 }

/-- The continuous lit seconds reach 600: the attempt count becomes 0 (R66). -/
def continuousReaches600 (p : Pos) (s : State) : State :=
  s.setLamp p { s.lamp p with continuous := Config.provedLitSeconds, attempts := 0 }

/-- One more continuous lit second, up to 600 (R66). -/
def countContinuous (p : Pos) (s : State) : State :=
  let n := (s.lamp p).continuous
  if Config.provedLitSeconds ≤ n then s
  else if n + 1 = Config.provedLitSeconds then continuousReaches600 p s
  else s.setLamp p { s.lamp p with continuous := n + 1 }

/-- The wear of one lit second, at the power in force (R80). -/
def accrue (p : Pos) (s : State) : State :=
  let l := s.lamp p
  s.setLamp p { l with record := { l.record with wear := addWear l.record.wear (secondWear l.power) } }

/-- The warn half of the limit test (R85). -/
def warnTest (p : Pos) (s : State) : State :=
  let l := s.lamp p
  if !l.warned && l.record.warnLimit ≤ l.record.wear then lampWarnNotice p (s.setLamp p { l with warned := true }) else s

/-- The derate half of the limit test, with the forcing of R86 (R85). -/
def derateTest (p : Pos) (s : State) : State :=
  let l := s.lamp p
  if !l.derated && l.record.derateLimit ≤ l.record.wear then
    evalPower p (lampDeratedNotice p (s.setLamp p { l with derated := true }))
  else s

/-- The limit test of a fitted position: warn first, then derate (R85). -/
def limitTest (p : Pos) (s : State) : State :=
  if (s.lamp p).record.fitted then derateTest p (warnTest p s) else s

/-- What a second does to a position by its state, after the limit test: the window or the cooldown counts down, and runs out at
0 in this same second; a LIT lamp's continuous seconds rise (R61, R63, R66, R69). -/
def machineSecond (p : Pos) (s : State) : State :=
  let l := s.lamp p
  match l.state with
  | .striking =>
    match l.window with
    | none => s
    | some n => if n ≤ 1 then windowRunsOut p s else s.setLamp p { l with window := some (n - 1) }
  | .cooling => if l.cooldown ≤ 1 then cooldownEnds p s else s.setLamp p { l with cooldown := l.cooldown - 1 }
  | .lit => countContinuous p s
  | .empty | .cold | .failed | .spent => s

/-- The accrual of one position at a second arrival: a LIT lamp wears, and its unstored count rises (R80, R82). -/
def litSecond (p : Pos) (s : State) : State :=
  if (s.lamp p).state = .lit then countUnstored p (accrue p s) else s

/-- A second arrival at the lamp unit: both accruals, by the states and powers as they stand when the arrival is taken, then both
limit tests, then the machines (R80, R85). That A comes before B in each, and so which position the LAMP notice names when both
cross a limit at once, is log 4. -/
def lampsSecond (s : State) : State :=
  machineSecond .b (machineSecond .a (limitTest .b (limitTest .a (litSecond .b (litSecond .a s)))))

/-- The thermal report is taken, and the wanted powers are evaluated again (R59). -/
def takeThermal (t : Thermal) (s : State) : State := evalPowers (s.setThermal t)

end Sys2Proof.Machine
end

