-- ==== Sys2Proof/Machine/BookingTable.lean ====
section
/-! DEFINITION. The booking table (chapter 1): its order, neighbours and slots, the evaluation of bridged flags and planned
wear, the committed wear that follows the table, the overcommitted test, and the checks of BOOK and REBK. -/

namespace Sys2Proof.Machine

/-! ## Finding and placing -/

/-- The booking with a tag. -/
def bookingAt (tag : Nat) (bs : List Booking) : Option Booking := bs.find? (fun b => b.given.tag == tag)

/-- The table without the booking of a tag. -/
def removeTag (tag : Nat) (bs : List Booking) : List Booking := bs.filter (fun b => b.given.tag != tag)

/-- The table with a booking placed in start order (R6). -/
def insertBooking (b : Booking) : List Booking → List Booking
  | [] => [b]
  | x :: rest => if b.given.start ≤ x.given.start then b :: x :: rest else x :: insertBooking b rest

/-- The booking just before a start minute: the predecessor that a booking placed there has (R6). -/
def predecessorAt (start : Nat) (bs : List Booking) : Option Booking :=
  (bs.filter (fun b => b.given.start < start)).getLast?

/-- The booking just after a start minute: the successor that a booking placed there has (R6). -/
def successorAt (start : Nat) (bs : List Booking) : Option Booking := bs.find? (fun b => start < b.given.start)

/-- The two spans overlap unless one ends at or before the other starts (R6). -/
def overlaps (g h : Given) : Bool := h.start < g.fin && g.start < h.fin

/-- Check 6 of BOOK: no overlap with any booking, and not before an active booking (R18). -/
def fitsTable (g : Given) (bs : List Booking) : Bool :=
  bs.all (fun b => !overlaps g b.given && (b.state == .pending || b.given.start < g.start))

/-- The lowest-numbered free booking slot (R7). -/
def freeSlot (bs : List Booking) : Nat :=
  ((List.range Config.tableCapacity).find? (fun n => bs.all (fun b => b.slot != n))).getD Config.tableCapacity

/-! ## Evaluation -/

/-- The bridged flag, then the planned wear, of a booking against its predecessor (R10, R12, R89). -/
def evaluate (cfg : ConfigRecord) (pred : Option Booking) (b : Booking) : Booking :=
  let br := evaluatesBridged cfg.bridge pred b.given
  { b with bridged := br
           plannedA := if b.assignment.a then plannedWear cfg.lead br pred b.given .a else 0
           plannedB := if b.assignment.b then plannedWear cfg.lead br pred b.given .b else 0 }

/-- The bookings whose tags are listed are evaluated, in start order, each against the booking before it (R10). -/
def evaluateTags (cfg : ConfigRecord) (tags : List Nat) : Option Booking → List Booking → List Booking
  | _, [] => []
  | pred, b :: rest =>
    let b' := if tags.contains b.given.tag then evaluate cfg pred b else b
    b' :: evaluateTags cfg tags (some b') rest

/-- Every booking is evaluated, in start order (R8). -/
def evaluateAll (cfg : ConfigRecord) (bs : List Booking) : List Booking :=
  evaluateTags cfg (bs.map (·.given.tag)) none bs

/-- The tag of a booking that may not be there, as a list. -/
def optTag (b : Option Booking) : List Nat := (b.map (·.given.tag)).toList

/-! ## Committed wear -/

/-- The planned wear of a booking for a position. -/
def Booking.planned (b : Booking) : Pos → Nat
  | .a => b.plannedA
  | .b => b.plannedB

/-- The sum of the planned wear for a position of the PENDING bookings (R94). -/
def pendingWear (p : Pos) : List Booking → Nat
  | [] => 0
  | b :: rest => (if b.state = .pending then b.planned p else 0) + pendingWear p rest

/-- A lamp whose committed wear moves by the difference of two tables (R13, R94). -/
def recommit (p : Pos) (old new : List Booking) (l : Lamp) : Lamp :=
  { l with committed := l.committed + pendingWear p new - pendingWear p old }

/-- Change the table: in the same event the committed wear of each position moves by the change of the PENDING bookings' planned
wear (R13). -/
def changeTable (new : List Booking) (s : State) : State :=
  let s1 := s.setTable new
  let s2 := s1.setLamp .a (recommit .a s.bookings new s1.lampA)
  s2.setLamp .b (recommit .b s.bookings new s2.lampB)

/-- A position is overcommitted when W + C is above its spent limit; an unfitted position's is 0 (R15). -/
def Lamp.overcommitted (l : Lamp) : Bool :=
  (if l.record.fitted then l.record.spentLimit else 0) < l.record.wear + l.committed

/-- The overcommitted test of the positions in `tested`, with one notice naming those that are (R15). -/
def overcommittedTest (tested : LampSet) (s : State) : State :=
  let found := tested.inter ⟨s.lampA.overcommitted, s.lampB.overcommitted⟩
  if found = .empty then s else overcommittedNotice found s

/-- The overcommitted test for each position whose C rose since `before`, the state before the event (R15; log 12). -/
def testRisen (before : State) (s : State) : State :=
  overcommittedTest ⟨before.lampA.committed < s.lampA.committed, before.lampB.committed < s.lampB.committed⟩ s

/-- An active booking leaves the table at its end: its slot becomes free and is marked dirty, and no other booking is evaluated
(R7, R11). -/
def dropBooking (b : Booking) (s : State) : State :=
  markDirty (slotNo b.slot) (changeTable (removeTag b.given.tag s.bookings) s)

/-- The table without booking `b`, the booking that was its successor evaluated (R10, R25, R45). -/
def tableWithout (b : Booking) (s : State) : List Booking :=
  evaluateTags s.config (optTag (successorAt b.given.start s.bookings)) none (removeTag b.given.tag s.bookings)

/-- A PENDING booking departs: it leaves the table and its successor is evaluated, C follows, its slot becomes free and is marked
dirty (R7), and the overcommitted test is made for each position whose C stands higher than before the departure (R13, R15, R25,
R45; log 12). -/
def departBooking (b : Booking) (s : State) : State :=
  testRisen s (markDirty (slotNo b.slot) (changeTable (tableWithout b s) s))

/-- A GAP demand ends when its gap booking is no longer first, PENDING and bridged (R43). -/
def endGapIfDue (s : State) : State :=
  if s.sched.demand.basis = .gap then
    match s.bookings with
    | b :: _ =>
      if s.sched.demand.gapBooking = some b.given.tag ∧ b.state = .pending ∧ b.bridged = true then s
      else writeDemand .idle s
    | [] => writeDemand .idle s
  else s

/-! ## Admission -/

/-- What check 8 finds: the assignment, the bridged flag and the planned wears (R19, R92, R93). -/
structure Admission where
  assignment : LampSet
  bridged : Bool
  plannedA : Nat
  plannedB : Nat
  deriving DecidableEq, Repr

/-- Check 8 of BOOK against a table, with the committed wears to be used (R19, R23). -/
def lifeCheck (s : State) (table : List Booking) (cA cB : Nat) (g : Given) : Option Admission :=
  let pred := predecessorAt g.start table
  let br := evaluatesBridged s.config.bridge pred g
  (chooseAssignment s.config.lead s.lampA s.lampB cA cB br pred g).map
    (fun x => { assignment := x.1, bridged := br, plannedA := x.2.1, plannedB := x.2.2 })

/-- The booking a BOOK admits (R20, R4). -/
def admitted (g : Given) (owner : Class) (slot : Nat) (a : Admission) : Booking :=
  { given := g, owner := owner, assignment := a.assignment, bridged := a.bridged, plannedA := a.plannedA,
    plannedB := a.plannedB, state := .pending, shownSinceStart := false, slot := slot }

/-- The start of a BOOK is within the horizon (R17). -/
def inHorizon (now : Nat) (g : Given) : Bool := now ≤ g.start && g.start ≤ now + Config.horizon

/-- Check 4 of BOOK (R17). -/
def check4 (now : Nat) (r : GivenRaw) : Option Given := (givenOf r).filter (inHorizon now)

/-- The fields a BOOK or REBK replies with: assignment, bridged, planned wear A and B (R20, R193). -/
def Booking.replyBytes (b : Booking) : List Byte :=
  [b.assignment.byte, boolByte b.bridged] ++ be32 b.plannedA ++ be32 b.plannedB

end Sys2Proof.Machine
end

