-- ==== Sys2Proof/Machine/GeometryUnit.lean ====
section
/-! DEFINITION. The geometry unit (chapter 7): the effective preset, the four stages of the computation, and when it runs. -/

namespace Sys2Proof.Machine

/-- Rounding half up of x/y (R2). -/
def roundDiv (x y : Nat) : Nat := (2 * x + y) / (2 * y)

/-- The two terms of an aspect (R148). -/
def Aspect.terms : Aspect → Nat × Nat
  | .a16x10 => (16, 10)
  | .a16x9 => (16, 9)
  | .a4x3 => (4, 3)
  | .a5x4 => (5, 4)

/-- The fitted picture: its width and height, its left and its top (R148). -/
structure Fit where
  w : Nat
  h : Nat
  left : Nat
  top : Nat
  deriving DecidableEq, Repr

/-- The fit of aspect aw:ah in the raster of 1920 × 1200 (R148). -/
def fitTerms (aw ah : Nat) : Fit :=
  if ah * 16 < aw * 10 then
    let h := roundDiv (1920 * ah) aw
    { w := 1920, h := h, left := 0, top := (1200 - h) / 2 }
  else
    let w := roundDiv (1200 * aw) ah
    { w := w, h := 1200, left := (1920 - w) / 2, top := 0 }

/-- The fit of an aspect (R148). -/
def fit (a : Aspect) : Fit := fitTerms a.terms.1 a.terms.2

/-- The keystone amount of an edge of `n` pixels at k per mille (R149). -/
def keystoneAmount (n : Nat) (k : Int) : Int := (roundDiv (n * k.natAbs) 2000 : Nat)

/-- A coordinate pulled into the raster (R150). -/
def clampX (v : Int) : Nat := (clampInt 0 1919 v).toNat
def clampY (v : Int) : Nat := (clampInt 0 1199 v).toNat

/-- Fit, keystone, trims, clamp (R148 to R150). -/
def computeCorners (a : Aspect) (p : Preset) : Corners :=
  let f := fit a
  let l : Int := f.left
  let t : Int := f.top
  let r : Int := l + f.w - 1
  let b : Int := t + f.h - 1
  let iv := keystoneAmount f.w p.kv
  let ih := keystoneAmount f.h p.kh
  let topIn := if 0 < p.kv then iv else 0
  let bottomIn := if p.kv < 0 then iv else 0
  let rightIn := if 0 < p.kh then ih else 0
  let leftIn := if p.kh < 0 then ih else 0
  { tl := { x := clampX (l + topIn + p.tlDx), y := clampY (t + leftIn + p.tlDy) }
    tr := { x := clampX (r - topIn + p.trDx), y := clampY (t + rightIn + p.trDy) }
    br := { x := clampX (r - bottomIn + p.brDx), y := clampY (b - rightIn + p.brDy) }
    bl := { x := clampX (l + bottomIn + p.blDx), y := clampY (b - leftIn + p.blDy) } }

/-- The active booking (R34). -/
def State.activeBooking (s : State) : Option Booking :=
  s.bookings.find? (fun b => b.state != .pending)

/-- The booking's preset while a booking is WARMING or RUNNING (R147). -/
def State.bookingPreset (s : State) : Option PresetNo := s.activeBooking.bind (·.given.preset)

/-- The effective preset of an input: the override, the active booking's preset, the profile's (R147). -/
def effectivePreset (s : State) (i : Input) : PresetNo :=
  match s.geom.override, s.bookingPreset with
  | some p, _ => p
  | none, some p => p
  | none, none => s.profiles[i].preset

/-- The input a computation is made for: the current input; in IDLE, the applied-for input (R152). -/
def geometryTarget (s : State) : Option Input :=
  if s.switch.state = .idle then s.geom.appliedFor else s.switch.current

/-- The effective preset of the input a computation would be made for. -/
def effectiveNow (s : State) : Option PresetNo := (geometryTarget s).map (effectivePreset s)

/-- A computation for an input: its result is the wanted corner set, and a WARP is offered to its slot (R151). -/
def compute (i : Input) (s : State) : State :=
  let p := effectivePreset s i
  let w : CornerSet := { corners := computeCorners s.profiles[i].aspect s.geom.presets[p], input := i }
  offer (.warp w) (s.setGeom { s.geom with wanted := some w })

/-- A computation for the input that one would be made for, if there is one (R152). -/
def computeTarget (s : State) : State :=
  match geometryTarget s with
  | some i => compute i s
  | none => s

/-- A computation if the effective preset is no longer the one in force before the event (R147, R152). -/
def computeIfChanged (before : Option PresetNo) (s : State) : State :=
  if effectiveNow s = before then s else computeTarget s

/-- The override becomes absent (R145). -/
def endOverride (s : State) : State := s.setGeom { s.geom with override := none }

/-- The channel enters FAULT (R154). -/
def geometryFault (s : State) : State := s.setGeom { s.geom with applied := none, appliedFor := none }

/-- The delivery of a WARP (R153). -/
def warpDelivered (w : CornerSet) (s : State) : State :=
  s.setGeom { s.geom with applied := some w.corners, appliedFor := some w.input }

end Sys2Proof.Machine
end

