-- ==== Sys2Proof/Machine/HoldTable.lean ====
section
/-! DEFINITION. The hold table (chapter 5): the system holds, placing and lifting with their effects on the lamps, expiry, and
the engine's door and thermal reports. The gate follows at the event's end (`finish`). -/

namespace Sys2Proof.Machine

/-- The slots of the system holds (R102). -/
def fireSlot : Fin 16 := 0
def doorSlot : Fin 16 := 1
def thermalSlot : Fin 16 := 2
def examSlot : Fin 16 := 3

/-- The slots of the requested holds, in order (R102). -/
def requestedSlots : List (Fin 16) := [4, 5, 6, 7, 8, 9, 10, 11, 12, 13, 14, 15]

/-- Every slot, in order. -/
def allSlots : List (Fin 16) := [0, 1, 2, 3, 4, 5, 6, 7, 8, 9, 10, 11, 12, 13, 14, 15]

/-- The FIRE hold (5.3). -/
def fireHold : Hold :=
  { kind := .fire, placer := none, tag := none, scopes := ⟨true, true, true, true, true, true, true⟩,
    bound := ⟨true, true, false, true⟩, allowed := none, expiry := none, bookingTag := none }

/-- The scopes and bound origins of DOOR and THERMAL: STRIKE and SHUTTER, bound to none (5.3). -/
def lampHold (k : HoldKind) : Hold :=
  { kind := k, placer := none, tag := none, scopes := ⟨true, true, false, false, false, false, false⟩,
    bound := ⟨false, false, false, false⟩, allowed := none, expiry := none, bookingTag := none }

/-- The EXAM hold of a booking (5.3, R107). -/
def examHold (b : Booking) : Hold :=
  { kind := .exam, placer := none, tag := none, scopes := ⟨false, false, true, true, true, true, false⟩,
    bound := ⟨true, false, false, true⟩, allowed := b.given.examInputs, expiry := none, bookingTag := some b.given.tag }

/-- Placing a hold of these kinds douses the lamps (R70, R108). -/
def HoldKind.douses : HoldKind → Bool
  | .fire => true
  | .door => true
  | .thermal => true
  | .exam => false
  | .requested => false

/-- Place a hold in a slot, with its notice (R115) and the dousing of the three kinds that douse (R108). -/
def placeHold (slot : Fin 16) (h : Hold) (s : State) : State :=
  let s1 := holdPlacedNotice slot.val h (s.setHolds (s.holds.set slot (some h)))
  if h.kind.douses then holdDouseAll s1 else s1

/-- Take a hold out of its slot. -/
def clearSlot (slot : Fin 16) (s : State) : State := s.setHolds (s.holds.set slot none)

/-- Lift the hold `h` of a slot, with its notice, before the strike test that follows a lifting (R109, R115). -/
def liftOnly (slot : Fin 16) (h : Hold) (s : State) : State := holdLiftedNotice slot.val h (clearSlot slot s)

/-- The strike test that follows the lifting of a hold with STRIKE among its scopes (R109). -/
def afterLift (h : Hold) (s : State) : State := if h.scopes.strike then strikeTests s else s

/-- Lift the hold `h` of a slot (R109). -/
def liftHold (slot : Fin 16) (h : Hold) (s : State) : State := afterLift h (liftOnly slot h s)

/-- A report places the hold if it is not in its slot, or lifts it if it is, without the strike test; a report that agrees with
the table changes nothing (R106). -/
def reportOnly (slot : Fin 16) (h : Hold) (report : Bool) (s : State) : State :=
  match s.holds[slot], report with
  | none, true => placeHold slot h s
  | some old, false => liftOnly slot old s
  | some _, true => s
  | none, false => s

/-- The report lifts the slot's hold. -/
def reportLifts (slot : Fin 16) (report : Bool) (s : State) : Bool := s.holds[slot].isSome && !report

/-- A report of a system hold's cause, with the strike test after a lifting (R105, R106, R109). -/
def reportHold (slot : Fin 16) (h : Hold) (report : Bool) (s : State) : State :=
  if reportLifts slot report s then strikeTests (reportOnly slot h report s) else reportOnly slot h report s

/-- The engine reports the door (R106). -/
def doorReport (isOpen : Bool) (s : State) : State := reportHold doorSlot (lampHold .door) isOpen s

/-- The engine reports its thermal state: the lamp unit's thermal report first, then the hold (R106, R169). -/
def thermalReport (t : Thermal) (s : State) : State :=
  reportHold thermalSlot (lampHold .thermal) (t == .over) (takeThermal t s)

/-- The fire line is seen at a level (R105). -/
def fireReport (active : Bool) (s : State) : State :=
  reportHold fireSlot fireHold active (s.setFire { s.fire with seen := active })

/-- The lowest free slot for a requested hold (R102). -/
def freeRequestedSlot (s : State) : Option (Fin 16) := requestedSlots.find? (fun i => s.holds[i].isNone)

/-- The slot of the requested hold with a tag (R112). -/
def requestedHoldAt (tag : Nat) (s : State) : Option (Fin 16) :=
  requestedSlots.find? (fun i => s.holds[i].any (fun h => h.kind == .requested && h.tag == some tag))

/-- A requested hold whose expiry minute is at or before the minute (R113). -/
def Hold.expired (minute : Nat) (h : Hold) : Bool := h.kind == .requested && h.expiry.any (· ≤ minute)

/-- Expire the hold of one slot, if its minute has come (R113). -/
def expireSlot (minute : Nat) (s : State) (slot : Fin 16) : State :=
  match s.holds[slot] with
  | some h => if h.expired minute then holdExpiredNotice slot.val h (clearSlot slot s) else s
  | none => s

/-- Some hold that expires at the minute has STRIKE among its scopes (R109). -/
def expiryFreesStrike (minute : Nat) (s : State) : Bool :=
  requestedSlots.any (fun i => s.holds[i].any (fun h => h.expired minute && h.scopes.strike))

/-- The expiries of a minute arrival, in slot order, and the strike test once after the last (R113). -/
def expireHolds (minute : Nat) (s : State) : State :=
  let t := requestedSlots.foldl (expireSlot minute) s
  if expiryFreesStrike minute s then strikeTests t else t

end Sys2Proof.Machine
end

