-- ==== Sys2Proof/Machine/SourceUnit.lean ====
section
/-! DEFINITION. The source unit (chapter 6): selections, the pending select slot, the switch machine's reports and timers, the
fallback, the arrival selection and the sync meter. -/

namespace Sys2Proof.Machine

/-- The meter restarted: SEEKING, with nothing measured and the loss timer running (R135). -/
def Meter.restarted : Meter :=
  { state := .seeking, refEdge := none, tally := 0, last := none, previous := none, lossTimer := true }

/-- A selection is taken (R123). -/
def takeSelection (sel : Selection) (s : State) : State :=
  (s.setSwitch { s.switch with state := .taking, current := some sel.target, reachedBy := some sel.kind,
                               takeInFlight := some sel.target, takeTimer := true, settleTimer := false,
                               grace := none }).setMeter .restarted

/-- A selection leaves the pending slot unserved, with its superseded notice (R124). -/
def supersede (s : State) : State :=
  match s.switch.pendingSel with
  | some old => supersededNotice old s
  | none => s

/-- A selection meets the pending slot in TAKING or SETTLING (R122, R124). -/
def placePending (sel : Selection) (s : State) : State :=
  let t := supersede s
  t.setSwitch { t.switch with pendingSel := if s.switch.current = some sel.target then none else some sel }

/-- A selection that passed its tests is dealt with by the state of the switch machine (R122). -/
def dealSelection (sel : Selection) (s : State) : State :=
  match s.switch.state with
  | .shown => if s.switch.current = some sel.target then s else takeSelection sel s
  | .idle => takeSelection sel s
  | .noSignal => takeSelection sel s
  | .taking => placePending sel s
  | .settling => placePending sel s

/-- The target is the input already SHOWN (R122). -/
def alreadyShown (target : Input) (s : State) : Bool := s.switch.state == .shown && s.switch.current == some target

/-- The reply to a SRCE that passed: DONE for the input already SHOWN, ACCEPTED otherwise (R122). -/
def selectionOutcome (target : Input) (s : State) : ReqOutcome := if alreadyShown target s then .done else .accepted

/-- A selection that a request or a key makes, as an event: the input already SHOWN changes nothing (R122). -/
def makeSelection (sel : Selection) (s : State) : State :=
  if alreadyShown sel.target s then s else finish (dealSelection sel s)

/-- A selection is held (R98, R122). -/
def State.selectionHeld (s : State) (sel : Selection) : Bool := s.held sel.origin .source (some sel.target)

/-- A selection of origin AUTOMATIC: dropped with its notice if held (R99, R122). -/
def autoSelection (target : Input) (kind : SelKind) (s : State) : State :=
  let sel : Selection := { target := target, origin := .automatic, kind := kind }
  if s.selectionHeld sel then droppedNotice sel s else dealSelection sel s

/-- The pending slot is examined at an exit from TAKING or SETTLING: the selection is taken, or dropped with its notice and the
exit proceeds (R125). -/
def examinePending (exit : State → State) (s : State) : State :=
  match s.switch.pendingSel with
  | none => exit s
  | some sel =>
    let t := s.setSwitch { s.switch with pendingSel := none }
    if s.selectionHeld sel then exit (droppedNotice sel t) else takeSelection sel t

/-- The switch machine's entry to SHOWN is handed to the schedule unit (R41, R52, R131). -/
def scheduleSeesShown (s : State) : State :=
  let t := s.setTable (s.bookings.map (fun b => if b.state = .running then { b with shownSinceStart := true } else b))
  if s.sched.session then t.setSched { t.sched with unattended := 0 } else t

/-- The entry to SHOWN is handed to the geometry unit (R131, R152). -/
def geometrySeesShown (i : Input) (s : State) : State := if s.geom.appliedFor = some i then s else compute i s

/-- The entry of the switch machine to SHOWN (R130, R131). -/
def enterShown (s : State) : State :=
  let t := s.setSwitch { s.switch with state := .shown, grace := none, settleTimer := false }
  match s.switch.current with
  | some i => scheduleSeesShown (geometrySeesShown i (shownNotice i s.switch.reachedBy t))
  | none => scheduleSeesShown t

/-- The entry to NO SIGNAL, with the grace count set to the loss grace (R130, R132). -/
def enterNoSignal (s : State) : State :=
  noSignalNotice s.switch.current
    (s.setSwitch { s.switch with state := .noSignal, settleTimer := false, grace := some s.config.grace })

/-- The stable report of the meter (R130, R132). -/
def stableReport (s : State) : State :=
  match s.switch.state with
  | .settling => examinePending enterShown s
  | .noSignal => enterShown s
  | .idle => s
  | .taking => s
  | .shown => s

/-- The lost report of the meter (R130, R132). -/
def lostReport (s : State) : State := if s.switch.state = .shown then enterNoSignal s else s

/-- The entry to SETTLING at the right TAKE ACK (R126). -/
def enterSettling (s : State) : State :=
  (s.setSwitch { s.switch with state := .settling, settleTimer := true }).setMeter .restarted

/-- A TAKE ACK is taken from the latch (R126). -/
def takeAckTaken (i : Input) (s : State) : State :=
  if s.switch.state = .taking ∧ s.switch.takeInFlight = some i then
    examinePending enterSettling (s.setSwitch { s.switch with takeInFlight := none, takeTimer := false })
  else strayTakeAckNotice i s

/-- The take timer runs out (R127). That the meter's becoming IDLE clears its reference edge, its frames and its tally is log
39. -/
def takeTimesOut (s : State) : State :=
  let t := takeTimeoutNotice s.switch.takeInFlight s
  (t.setSwitch { t.switch with state := .idle, current := none, reachedBy := none, pendingSel := none,
                               takeInFlight := none, takeTimer := false }).setMeter .idle

/-- The settle timer runs out (R130). -/
def settleTimesOut (s : State) : State := examinePending enterNoSignal s

/-- The fallback input that is due at the running out of the grace count (R133). -/
def fallbackDue (s : State) : Option Input :=
  match s.switch.current with
  | none => none
  | some i =>
    match s.profiles[i].fallback with
    | none => none
    | some f => if hasInput s.switch.presence f && s.switch.reachedBy != some .fallback then some f else none

/-- The grace count runs out (R132, R133). -/
def graceRanOut (s : State) : State :=
  let t := s.setSwitch { s.switch with grace := none }
  match fallbackDue s with
  | none => lostNotice s.switch.current t
  | some f =>
    let sel : Selection := { target := f, origin := .automatic, kind := .fallback }
    if t.selectionHeld sel then droppedNotice sel t
    else fallbackNotice s.switch.current f (dealSelection sel t)

/-- A second arrival at the source unit: the grace count of NO SIGNAL counts down (R132). -/
def sourceSecond (s : State) : State :=
  if s.switch.state = .noSignal then
    match s.switch.grace with
    | none => s
    | some n => if n ≤ 1 then graceRanOut s else s.setSwitch { s.switch with grace := some (n - 1) }
  else s

/-- The lowest joining input that a PRESENCE message selects: take on arrival, not current, a lecture in hand (R134). -/
def arrivalInput (new : InputSet) (s : State) : Option Input :=
  if s.lectureRunning || s.sched.session then
    allInputs.find? (fun i => hasInput new i && !hasInput s.switch.presence i && s.profiles[i].takeOnArrival
      && s.switch.current != some i)
  else none

/-- A PRESENCE message is taken (R134). -/
def presenceTaken (new : InputSet) (s : State) : State :=
  let t := s.setSwitch { s.switch with presence := new }
  match arrivalInput new s with
  | some i => autoSelection i .arrival t
  | none => t

/-! ## The sync meter -/

/-- The period is 8,000 to 50,000 µs (R136, R137). -/
def Frame.inRange (f : Frame) : Bool := Config.shortestPeriod ≤ f.period && f.period ≤ Config.longestPeriod

/-- The distance of two numbers. -/
def distance (x y : Nat) : Nat := (x - y) + (y - x)

/-- The previous and the last frame are stable (R136). -/
def stableFrames (previous last : Frame) : Bool :=
  previous.inRange && last.inRange && distance previous.period last.period * 200 ≤ previous.period
    && distance previous.lines last.lines ≤ 1

/-- The meter becomes LOCKED and hands its stable report to the switch machine (R136). -/
def lockMeter (s : State) : State := stableReport (s.setMeter { s.meter with state := .locked })

/-- The meter judges the signal lost: a LOCKED meter becomes SEEKING and hands its lost report over, a SEEKING one starts over
(R137). `m` is the meter with its frames made absent and its timer restarted. -/
def meterLoss (m : Meter) (s : State) : State :=
  let t := s.setMeter { m with state := .seeking }
  if s.meter.state = .locked then lostReport t else t

/-- The stable test at an edge that measured a frame (R136). -/
def stableTest (s : State) : State :=
  match s.meter.state, s.meter.previous, s.meter.last with
  | .seeking, some p, some l => if stableFrames p l then lockMeter s else s
  | _, _, _ => s

/-- A frame edge at a time of the microsecond count (R135 to R137). -/
def frameEdgeTaken (time : Nat) (s : State) : State :=
  let m := s.meter
  match m.state with
  | .idle => s
  | .seeking | .locked =>
    match m.refEdge with
    | none => s.setMeter { m with refEdge := some time, tally := 0, lossTimer := true }
    | some ref =>
      let f : Frame := { period := time - ref, lines := m.tally }
      if f.inRange then
        stableTest (s.setMeter { m with refEdge := some time, tally := 0, lossTimer := true, previous := m.last,
                                        last := some f })
      else meterLoss { m with refEdge := some time, tally := 0, lossTimer := true, previous := none, last := none } s

/-- A line edge (R135). -/
def lineEdgeTaken (s : State) : State :=
  match s.meter.state with
  | .idle => s
  | .seeking | .locked => s.setMeter { s.meter with tally := min Config.top16 (s.meter.tally + 1) }

/-- The loss timer runs out (R137). -/
def lossTimesOut (s : State) : State :=
  meterLoss { s.meter with refEdge := none, last := none, previous := none, lossTimer := true } s

end Sys2Proof.Machine
end

