-- ==== Sys2Proof/Machine/ScheduleUnit.lean ====
section
/-! DEFINITION. The schedule unit and the room clock (chapter 2): the arrivals of a booking, the schedule check, and the manual
session. `before` is the effective preset in force before the event, against which a geometry computation is judged once
(R152, log 10). -/

namespace Sys2Proof.Machine

/-! ## The manual session -/

/-- The effects of a session's end but for the demand: OFF, count 0, mute cleared, override ended (R49). -/
def sessionOff (s : State) : State :=
  let t := endOverride (s.setSched { s.sched with session := false, unattended := 0 })
  t.setGate { t.gate with mute := false }

/-- The session ends: the demand becomes basis IDLE, and geometry follows (R49). -/
def endSession (s : State) : State := computeIfChanged (effectiveNow s) (writeDemand .idle (sessionOff s))

/-- The asked lamps of a session that turns ON: none with any plan when neither position is usable (R48). -/
def sessionLamps (s : State) : LampSet :=
  match s.lampA.usable, s.lampB.usable, s.config.plan with
  | false, false, _ | _, _, .noLight => .empty
  | _, _, .dual => ⟨true, true⟩
  | true, true, _ =>
    if s.lampA.record.wear + s.lampA.committed ≤ s.lampB.record.wear + s.lampB.committed then .only .a else .only .b
  | true, false, _ => .only .a
  | false, true, _ => .only .b

/-- The SESSION demand (R47). -/
def sessionDemand (s : State) : Demand :=
  { basis := .session, plan := s.config.plan, asked := sessionLamps s, power := s.config.plan.power, gapBooking := none }

/-- SESN once past its hold check: nothing changes with a booking active or the session ON, else the session turns ON (R47). -/
def startSession (s : State) : State :=
  if s.activeBooking.isSome || s.sched.session then s
  else finish (writeDemand (sessionDemand s) (s.setSched { s.sched with session := true, unattended := 0 }))

/-- The unattended count reaches its limit (R52). -/
def unattendedEnds (s : State) : State := unattendedNotice (endSession s)

/-- The unattended limit in seconds (R52). -/
def unattendedLimit (s : State) : Nat := s.config.unattended * 60

/-- The second's unattended count: 0 while SHOWN, else one more (R52). -/
def unattendedNext (s : State) : Nat := if s.switch.state = .shown then 0 else s.sched.unattended + 1

/-- A second arrival at the session (R52). -/
def sessionSecond (s : State) : State :=
  if s.sched.session then
    if unattendedLimit s ≤ unattendedNext s then unattendedEnds s
    else s.setSched { s.sched with unattended := unattendedNext s }
  else s

/-! ## The arrivals of a booking -/

/-- The table with one booking changed. -/
def updateBooking (tag : Nat) (f : Booking → Booking) (bs : List Booking) : List Booking :=
  bs.map (fun b => if b.given.tag = tag then f b else b)

/-- The lead minute of a booking (R36). -/
def leadMinute (cfg : ConfigRecord) (b : Booking) : Nat := b.given.start - cfg.lead

/-- The opening input of a booking's opening selection (R39). -/
def openingInput (g : Given) : Option Input :=
  match g.opening with
  | some i => some i
  | none => if g.exam then g.examInputs.bind lowestInput else none

/-- The opening selection of a lead arrival (R39). -/
def openingSelection (g : Given) (s : State) : State :=
  match openingInput g with
  | some i => autoSelection i .opening s
  | none => s

/-- The demand of a booking (R35, R38). -/
def bookingDemand (b : Booking) : Demand :=
  { basis := .booking, plan := b.given.plan, asked := b.assignment, power := b.given.plan.power, gapBooking := none }

/-- The session is absorbed by the lead arrival of the booking with the tag, if it is ON (R51). -/
def absorbSession (tag : Nat) (s : State) : State :=
  if s.sched.session then absorbedNotice tag (sessionOff s) else s

/-- The lead arrival of booking `b` up to its preset's coming into force: WARMING and active, C lowered, the session absorbed,
the demand written (R38 steps 1 to 5). Where it replaces a GAP demand written in the same check, a kept lamp that goes on at FULL is
sent POWER FULL, and never POWER ECO (R43; DESIGN CHOICE, log 44). -/
def leadWarm (b : Booking) (s : State) : State :=
  let s1 := changeTable (updateBooking b.given.tag (fun x => { x with state := .warming }) s.bookings) s
  let s2 := s1.setSched { s1.sched with active := some b.given.tag }
  writeDemand (bookingDemand b) (absorbSession b.given.tag s2)

/-- The lead arrival of booking `b` (R38): the geometry computation, if the effective preset changed, comes before the opening
selection (log 10). -/
def leadArrival (before : Option PresetNo) (b : Booking) (s : State) : State :=
  openingSelection b.given (computeIfChanged before (leadWarm b s))

/-- The start arrival of booking `b` (R40). -/
def startArrival (b : Booking) (s : State) : State :=
  let shown := s.switch.state == .shown
  let s1 := changeTable (updateBooking b.given.tag (fun x => { x with state := .running, shownSinceStart := shown })
    s.bookings) s
  let s2 := s1.setSched { s1.sched with startedAt := some s1.clock.minute }
  if b.given.exam then placeHold examSlot (examHold b) s2 else s2

/-- The EXAM hold that names booking `b` is lifted (R42, R107). -/
def liftExam (b : Booking) (s : State) : State :=
  match s.holds[examSlot] with
  | some h => if h.bookingTag = some b.given.tag then liftHold examSlot h s else s
  | none => s

/-- The kept lamps of an end arrival: in both assignments, and LIT or STRIKING (R42). -/
def keptLamps (b successor : Booking) (s : State) : LampSet :=
  (b.assignment.inter successor.assignment).inter ⟨s.lampA.burning, s.lampB.burning⟩

/-- The demand an end arrival writes: GAP with the kept lamps across a bridge, else IDLE (R42). -/
def endDemand (b : Booking) (s : State) : Demand :=
  match successorAt b.given.start s.bookings with
  | none => .idle
  | some n =>
    if n.bridged && keptLamps b n s != .empty then
      { basis := .gap, plan := .noLight, asked := keptLamps b n s, power := .eco, gapBooking := some n.given.tag }
    else .idle

/-- The end arrival of the active booking `b` but for its notice and the geometry computation (R42 steps 1 to 5). A GAP demand is
pursued when it is written, even where its lead arrival replaces it in the same check (DESIGN CHOICE, log 44). -/
def endBooking (b : Booking) (s : State) : State :=
  let s1 := liftExam b s
  let s2 := endOverride (s1.setGate { s1.gate with mute := false })
  let s3 := writeDemand (endDemand b s2) s2
  let s4 := dropBooking b s3
  s4.setSched { s4.sched with active := none, startedAt := none }

/-- The end arrival with its notice ended (R42). -/
def endArrival (b : Booking) (s : State) : State := endedNotice b.given.tag (endBooking b s)

/-- The no-show release with its notice released (R44). -/
def noShowRelease (b : Booking) (s : State) : State := releasedNotice b.given.tag (endBooking b s)

/-- A PENDING booking is retired as missed (R45). -/
def retireMissed (s : State) (b : Booking) : State :=
  missedNotice b.given.tag (endGapIfDue (departBooking b s))

/-! ## The schedule check -/

/-- Phase 1: the active booking whose end has come takes its end arrival (R36). -/
def endPhase (s : State) : State :=
  match s.activeBooking with
  | some b => if b.given.fin ≤ s.clock.minute then endArrival b s else s
  | none => s

/-- Phase 2: each PENDING booking whose end has come is retired as missed, in start order (R36). -/
def missedPhase (s : State) : State :=
  (s.bookings.filter (fun b => b.state == .pending && b.given.fin ≤ s.clock.minute)).foldl retireMissed s

/-- The first booking, if its lead arrival is due: nothing is active, it is PENDING, its lead minute has come (R36). -/
def leadDue (s : State) : Option Booking :=
  match s.activeBooking, s.bookings with
  | none, b :: _ => if b.state = .pending ∧ leadMinute s.config b ≤ s.clock.minute then some b else none
  | _, _ => none

/-- The active booking, if its start arrival is due (R36). -/
def startDue (s : State) : Option Booking :=
  match s.activeBooking with
  | some b => if b.state = .warming ∧ b.given.start ≤ s.clock.minute then some b else none
  | none => none

/-- Phase 4: the start arrival, if it is due (R36). -/
def startPhase (s : State) : State :=
  match startDue s with
  | some b => startArrival b s
  | none => s

/-- Phases 3 and 4, the geometry computation made before a lead arrival's opening selection, or after the phases where no lead
arrival is due (R36, log 10). -/
def leadAndStart (before : Option PresetNo) (s : State) : State :=
  match leadDue s with
  | some b => startPhase (leadArrival before b s)
  | none => startPhase (computeIfChanged before s)

/-- The no-show condition, for the active booking (R44). -/
def noShowDue (s : State) : Option Booking :=
  match s.activeBooking, s.sched.startedAt with
  | some b, some m =>
    if s.config.noShow ≠ 0 ∧ b.state = .running ∧ b.shownSinceStart = false ∧ m + s.config.noShow ≤ s.clock.minute then
      some b
    else none
  | _, _ => none

/-- Phase 5: the release, and phases 3 and 4 once more (R36, R44). -/
def noShowPhase (s : State) : State :=
  match noShowDue s with
  | some b => leadAndStart (effectiveNow s) (noShowRelease b s)
  | none => s

/-- The schedule check while the clock is SET, its five phases (R36). -/
def scheduleCheckFrom (before : Option PresetNo) (s : State) : State :=
  if s.clock.isSet then noShowPhase (leadAndStart before (missedPhase (endPhase s))) else s

/-- The schedule check as an event's first change (R36). -/
def scheduleCheck (s : State) : State := scheduleCheckFrom (effectiveNow s) s

/-- The re-examination of the first booking after an admission, an amendment or a removal (R21, R36). -/
def reexamine (s : State) : State :=
  match s.activeBooking, s.bookings with
  | none, b :: _ => if b.state = .pending then scheduleCheck s else s
  | _, _ => s

/-- The active booking ends on ENDN or POWER OFF, and the schedule check follows (R46, R50). -/
def endByRequest (b : Booking) (s : State) : State :=
  let t := endArrival b s
  if t.clock.isSet then scheduleCheckFrom (effectiveNow s) t else computeIfChanged (effectiveNow s) t

/-! ## The room clock -/

/-- The second rolls over to 0 at its next step (R29). -/
def Clock.rollsOver (c : Clock) : Bool := 59 ≤ c.second

/-- The rollover raises the minute (R29). -/
def Clock.minuteRises (c : Clock) : Bool := c.rollsOver && c.minute < Config.topMinute

/-- One step of the clock (R29). -/
def Clock.step (c : Clock) : Clock :=
  if c.rollsOver then { c with second := 0, minute := if c.minute < Config.topMinute then c.minute + 1 else c.minute }
  else { c with second := c.second + 1 }

/-- A minute arrival handed to the schedule unit and to the hold table, in that order (R29, R36, R113; log 4). -/
def minuteHanded (s : State) : State := finish (expireHolds s.clock.minute (scheduleCheck s))

/-- A second arrival handed to the lamp unit, to the source unit and to the session (R29; log 4). -/
def secondHanded (s : State) : State := finish (sessionSecond (sourceSecond (lampsSecond s)))

end Sys2Proof.Machine
end

