-- ==== Sys2Proof/Machine/StartUp.lean ====
section
/-! DEFINITION. Start-up and restart (11.4, R8, R78, R95, R140, R156, R170, R194, R200, R201): the load of the settings store,
the rebuild of the booking table, the end of start-up, and the flush of RSTR; with the ends of the writer's writes (R199). -/

namespace Sys2Proof.Machine

/-- A stored record, empty where there is none. -/
def storedAt (records : List StoredRecord) (n : Nat) : StoredRecord := records.getD n { content := [], check := 1 }

/-- A record that failed its check is marked dirty and raises a STORE notice load fault (R200). -/
def loadFault (n : Nat) (s : State) : State := loadFaultNotice n (markDirty n s)

/-- A load fault, if the record failed. -/
def faultIf (failed : Bool) (n : Nat) (s : State) : State := if failed then loadFault n s else s

/-! ## The load (R200 step 2) -/

/-- The estimated record of a position whose record fails its check (R95). -/
def estimatedRecord (bs : List Byte) : LampRecord :=
  let read := lampRecordRead bs
  let rated := if 100 ≤ read.rated ∧ read.rated ≤ 20000 then read.rated else 100
  { fitted := true, serial := read.serial, rated := rated, wear := rated * 28800, strikes := read.strikes,
    estimated := true }

/-- The configuration is loaded. -/
def bootConfig (records : List StoredRecord) (s : State) : State :=
  let loaded := loadConfig (storedAt records configNo)
  faultIf loaded.isNone configNo (s.setConfig (loaded.getD .defaults))

/-- The profile of one input is loaded. -/
def bootProfile (records : List StoredRecord) (s : State) (i : Input) : State :=
  let loaded := loadProfile i (storedAt records (profileNo i))
  faultIf loaded.isNone (profileNo i) (s.setProfiles (s.profiles.set i (loaded.getD (.defaults i))))

/-- One preset is loaded. -/
def bootPreset (records : List StoredRecord) (s : State) (n : PresetNo) : State :=
  let loaded := loadPreset (storedAt records (presetNo n))
  faultIf loaded.isNone (presetNo n)
    (s.setGeom { s.geom with presets := s.geom.presets.set n (loaded.getD .defaults) })

/-- The lamp record of one position is loaded, and its machine takes its reset values (R78, R95). -/
def bootLamp (records : List StoredRecord) (s : State) (p : Pos) : State :=
  let stored := storedAt records (lampNo p)
  let loaded := loadLamp stored
  faultIf loaded.isNone (lampNo p) (s.setLamp p (.reset (loaded.getD (estimatedRecord stored.content))))

/-- A booking as a slot gives it: PENDING, with shown since start no (R8). -/
def slotBooking (g : Given) (owner : Class) (assignment : LampSet) (slot : Nat) : Booking :=
  { given := g, owner := owner, assignment := assignment, bridged := false, plannedA := 0, plannedB := 0,
    state := .pending, shownSinceStart := false, slot := slot }

/-- A booking taken from a slot clashes with one taken from a lower slot: its tag, or an overlap (R8). -/
def clashes (g : Given) (bs : List Booking) : Bool :=
  bs.any (fun b => b.given.tag == g.tag || overlaps g b.given)

/-- One booking slot is loaded: its booking is placed in start order, or it is discarded (R8). -/
def bootSlot (records : List StoredRecord) (s : State) (slot : Nat) : State :=
  match loadSlot (storedAt records (slotNo slot)) with
  | none => loadFault (slotNo slot) s
  | some .free => s
  | some (.taken g owner assignment) =>
    if clashes g s.bookings then loadFault (slotNo slot) s
    else s.setTable (insertBooking (slotBooking g owner assignment slot) s.bookings)

/-- The rebuild's evaluations, the committed wear computed whole, and the overcommitted test for both positions (R8). -/
def rebuild (s : State) : State :=
  let table := evaluateAll s.config s.bookings
  let s1 := s.setTable table
  let s2 := s1.setLamp .a { s1.lampA with committed := pendingWear .a table }
  let s3 := s2.setLamp .b { s2.lampB with committed := pendingWear .b table }
  overcommittedTest ⟨true, true⟩ s3

/-- The reset values of every block (R200 step 1), over the store's records, the clock and the lines that are kept. The key
latch is empty (R172). The link's frame in progress is one of start-up from here on: what it carries is lost, and it is answered
with NOT READY and fill until the end of start-up (R179, R180, R188; log 43). -/
def bootValues (s : State) (clock : Clock) (records : List StoredRecord) : State :=
  { State.reset with
    clock := clock
    store := { records := records, dirty := [], waiting := [], writing := none }
    fire := { level := s.fire.level, seen := false }
    link := s.link.restarted
    freeCount := s.freeCount
    pending := s.pending }

/-- Start-up from its first moment to its end: reset values, load in record number order, rebuild; the writer takes the first
record marked dirty (R200). -/
def boot (clock : Clock) (records : List StoredRecord) (s : State) : State :=
  let s1 := bootConfig records (bootValues s clock records)
  let s2 := allInputs.foldl (bootProfile records) s1
  let s3 := allInputs.foldl (bootPreset records) s2
  let s4 := [Pos.a, Pos.b].foldl (bootLamp records) s3
  let s5 := (List.range Config.tableCapacity).foldl (bootSlot records) s4
  startWrite (rebuild s5)

/-- What the stored records are after a write was cut off by a power reset (R199): damaged, as `d` says (log 7). -/
def cutOffWrite (d : Damage) (st : Store) : List StoredRecord :=
  match st.writing with
  | some w => st.records.set w.number (damagedRecord d)
  | none => st.records

/-- A power reset (R200): the clock becomes UNSET at minute 0 and second 0 (R30). -/
def powerResetState (d : Damage) (s : State) : State :=
  boot { minute := 0, second := 0, isSet := false } (cutOffWrite d s.store) s

/-! ## The writer's ends (R199) and the flush (R201) -/

/-- What a stored record is after a write of `w` over `old` whose read-back came out so (R199, R201, log 7). -/
def afterWrite (r : ReadBack) (old w : StoredRecord) : StoredRecord :=
  match r with
  | .matched => w
  | .kept => old
  | .damaged d => damagedRecord d

/-- The record under way is stored as its read-back says, and the writer returns to IDLE (R199). -/
def endWrite (r : ReadBack) (w : Writing) (s : State) : State :=
  s.setStore { s.store with records := s.store.records.set w.number
                              (afterWrite r (storedAt s.store.records w.number) w.record),
                            writing := none }

/-- A write that failed: the record goes back to the head of the list and waits for its retry (R199). -/
def queueRetry (n : Nat) (s : State) : State :=
  s.setStore { s.store with dirty := n :: s.store.dirty.erase n, waiting := n :: s.store.waiting.erase n }

/-- A write ends while no flush runs: a failure raises its notice and queues the retry, and the writer takes the next record
(R199). -/
def writeEnds (r : ReadBack) (w : Writing) (s : State) : State :=
  let t := endWrite r w s
  startWrite (if r = .matched then t else queueRetry w.number (writeFailedNotice w.number t))

/-- The flush's writer takes the oldest record of the dirty set, which waits for no retry in the flush (R201). -/
def startFlushWrite (s : State) : State :=
  match s.store.writing, s.store.dirty with
  | none, n :: rest =>
    s.setStore { s.store with dirty := rest, waiting := s.store.waiting.erase n,
                              writing := some { number := n, record := checked (recordContent n s) } }
  | _, _ => s

/-- A write ends while the flush runs: no retry and no notice, and the next record of the flush is taken (R201, log 24). -/
def flushWriteEnds (r : ReadBack) (w : Writing) (s : State) : State := startFlushWrite (endWrite r w s)

/-- How the flush's write of a record came out: as the list of failures says, else it matched (R201). -/
def flushReadBack (failed : List (Nat × ReadBack)) (n : Nat) : ReadBack :=
  ((failed.find? (fun x => x.1 == n)).map (·.2)).getD .matched

/-- The flush's write of one record (R201). -/
def flushRecord (failed : List (Nat × ReadBack)) (records : List StoredRecord) (w : Writing) : List StoredRecord :=
  records.set w.number (afterWrite (flushReadBack failed w.number) (storedAt records w.number) w.record)

/-- The stored records when the flush has ended: the write under way finished, then each record still in the dirty set written
once, oldest first (R201). -/
def flushedRecords (failed : List (Nat × ReadBack)) (s : State) : List StoredRecord :=
  let queue : List Writing := s.store.dirty.map (fun n => { number := n, record := checked (recordContent n s) })
  (s.store.writing.toList ++ queue).foldl (flushRecord failed) s.store.records

/-- The restart begins its start-up, with the clock kept (R30, R201). -/
def restartState (failed : List (Nat × ReadBack)) (s : State) : State := boot s.clock (flushedRecords failed s) s

/-! ## The end of start-up (R200 step 4) -/

/-- The fire line is sampled once: FIRE is placed if it is active (R105). -/
def sampleFire (s : State) : State :=
  let t := s.setFire { s.fire with seen := s.fire.level }
  if s.fire.level then placeHold fireSlot fireHold t else t

/-- The end of start-up: the fire line, then the link's and the latch's values, then the schedule check if the clock is SET
(R105, R172, R179, R200). A frame whose select line fell before this moment is discarded, and its loaded status NOT READY still goes
out if it has not (R188; DEDUCED, log 43). -/
def endStartUp (s : State) : State :=
  let t := { sampleFire s with phase := .running, link := s.link.started, panel := none }
  finish (scheduleCheck t)

end Sys2Proof.Machine
end

