-- ==== Sys2Proof/Machine/Requests.lean ====
section
/-! DEFINITION. What every request has in common: its answer, its refusal, the reply that the decoder holds (R183), and the
checks that several requests make. -/

namespace Sys2Proof.Machine

/-- What an owning block answers to a request: the state it leaves, the outcome and the parameters of the reply (R183). -/
structure Answer where
  state : State
  outcome : ReqOutcome
  params : List Byte
  deriving DecidableEq, Repr

/-- A refused request changes nothing and replies with no parameters (R1, R183). -/
def refuse (o : ReqOutcome) (s : State) : Answer := { state := s, outcome := o, params := [] }

/-- A request that is DONE with parameters. -/
def doneWith (params : List Byte) (s : State) : Answer := { state := s, outcome := .done, params := params }

/-- A request that is DONE and carries no fields. -/
def done (s : State) : Answer := doneWith [] s

/-- The decoder becomes BUSY with the reply composed from the outcome (R183). -/
def reply (n : ReqName) (a : Answer) : State :=
  a.state.setLink { a.state.link with decoder := some (replyBody n.letters a.outcome a.params) }

/-- A request row: the request is taken while the part is RUNNING; outside it what a frame carried is discarded (R183, R188). -/
def takeRequest (n : ReqName) (request : State → Answer) (s : State) : State :=
  whenRunning (fun s => reply n (request s)) s

/-- The class check, which comes before every other check (R97, R99). -/
def needClass (c need : Class) (act : State → Answer) (s : State) : Answer :=
  if atLeast c need then act s else refuse .class' s

/-- The class check for CONTROL, then the hold check in a scope (R99). -/
def needScope (c : Class) (sc : Scope) (target : Option Input) (act : State → Answer) (s : State) : Answer :=
  needClass c .control (fun s => if s.held (classOrigin c) sc target then refuse .held s else act s) s

end Sys2Proof.Machine
end

