-- ==== Sys2Proof/Machine/BookingRequests.lean ====
section
/-! DEFINITION. The meanings of BOOK, REBK, UNBK, FIND and NEXT (chapter 1). -/

namespace Sys2Proof.Machine

/-! ## BOOK -/

/-- The owner class a BOOK leaves (R4). -/
def ownerOf (c : Class) : Class := if c = .service then .service else .control

/-- The admission of a booking, in one event (R20, R43, R21). -/
def admitBooking (c : Class) (g : Given) (a : Admission) (s : State) : State :=
  let b := admitted g (ownerOf c) (freeSlot s.bookings) a
  let table := evaluateTags s.config (optTag (successorAt g.start s.bookings)) none (insertBooking b s.bookings)
  let s1 := markDirty (slotNo b.slot) (testRisen s (changeTable table s))
  finish (reexamine (endGapIfDue s1))

/-- The fields a BOOK or REBK replies with, read after the event (R20, R21). -/
def replyFields (tag : Nat) (s : State) : List Byte := ((bookingAt tag s.bookings).map Booking.replyBytes).getD []

/-- BOOK: its eight checks in order, then the admission (R16, R20). -/
def bookRequest (c : Class) (r : GivenRaw) (s : State) : Answer :=
  needScope c .bookings none (fun s =>
    if !s.clock.isSet then refuse .clock s
    else match check4 s.clock.minute r with
      | none => refuse .range s
      | some g =>
        if (bookingAt g.tag s.bookings).isSome then refuse .duplicate s
        else if !fitsTable g s.bookings then refuse .overlap s
        else if Config.tableCapacity ≤ s.bookings.length then refuse .full s
        else match lifeCheck s s.bookings s.lampA.committed s.lampB.committed g with
          | none => refuse .lampLife s
          | some a =>
            let t := admitBooking c g a s
            doneWith (replyFields g.tag t) t) s

/-- BOOK (R16 to R21). -/
def execBook (c : Class) (g : GivenRaw) (s : State) : Host.Outcome State Fault Refusal :=
  .next (takeRequest .book (bookRequest c g) s)

/-! ## REBK -/

/-- The amendment of a PENDING booking, in one event (R23, R43, R21). -/
def amendPendingTable (b : Booking) (g : Given) (a : Admission) (s : State) : State :=
  let rest := removeTag g.tag s.bookings
  let b' : Booking := { b with given := g, assignment := a.assignment, bridged := a.bridged, plannedA := a.plannedA,
                               plannedB := a.plannedB }
  let tags := g.tag :: (optTag (successorAt b.given.start s.bookings) ++ optTag (successorAt g.start rest))
  let s1 := testRisen s (changeTable (evaluateTags s.config tags none (insertBooking b' rest)) s)
  let s2 := if g = b.given ∧ a.assignment = b.assignment then s1 else markDirty (slotNo b.slot) s1
  finish (reexamine (endGapIfDue s2))

/-- REBK of a PENDING booking (R23). -/
def amendPending (b : Booking) (r : GivenRaw) (s : State) : Answer :=
  match check4 s.clock.minute r with
  | none => refuse .range s
  | some g =>
    let rest := removeTag g.tag s.bookings
    if !fitsTable g rest then refuse .overlap s
    else match lifeCheck s rest (s.lampA.committed - b.plannedA) (s.lampB.committed - b.plannedB) g with
      | none => refuse .lampLife s
      | some a =>
        let t := amendPendingTable b g a s
        doneWith (replyFields g.tag t) t

/-- The new end of an active booking, in one event (R24). -/
def amendActiveTable (b : Booking) (fin : Nat) (s : State) : State :=
  let tags := b.given.tag :: optTag (successorAt b.given.start s.bookings)
  let table := updateBooking b.given.tag (fun x => { x with given := { x.given with fin := fin } }) s.bookings
  finish (markDirty (slotNo b.slot) (testRisen s (changeTable (evaluateTags s.config tags none table) s)))

/-- The new end of an active booking is later than now, gives 10 to 720 minutes and is a room minute (R24; the last is
log 19). -/
def newEndInRange (now : Nat) (b : Booking) (fin : Nat) : Bool :=
  now < fin && b.given.start + Config.shortestBooking ≤ fin && fin ≤ b.given.start + Config.longestBooking
    && fin ≤ Config.topMinute

/-- REBK of a WARMING or RUNNING booking: its end and nothing else (R24). -/
def amendActive (b : Booking) (r : GivenRaw) (s : State) : Answer :=
  if { r with fin := b.given.raw.fin } ≠ b.given.raw then refuse .state s
  else if !newEndInRange s.clock.minute b r.fin.toNat then refuse .range s
  else if (successorAt b.given.start s.bookings).any (fun n => n.given.start < r.fin.toNat) then refuse .overlap s
  else
    let t := amendActiveTable b r.fin.toNat s
    doneWith (replyFields b.given.tag t) t

/-- A request that names a booking by its tag, of a class that is at least its owner's: RANGE, MISSING and CLASS, in this order
(R22, R25, R46). -/
def withOwnBooking (c : Class) (tag : BitVec 16) (act : Booking → State → Answer) (s : State) : Answer :=
  if tag = 0 then refuse .range s
  else match bookingAt tag.toNat s.bookings with
    | none => refuse .missing s
    | some b => if atLeast c b.owner then act b s else refuse .class' s

/-- REBK: six checks, then by the booking's state (R22). -/
def rebkRequest (c : Class) (r : GivenRaw) (s : State) : Answer :=
  needScope c .bookings none (fun s =>
    if !s.clock.isSet then refuse .clock s
    else withOwnBooking c r.tag (fun b s => if b.state = .pending then amendPending b r s else amendActive b r s) s) s

/-- REBK (R22 to R24). -/
def execRebk (c : Class) (g : GivenRaw) (s : State) : Host.Outcome State Fault Refusal :=
  .next (takeRequest .rebk (rebkRequest c g) s)

/-! ## UNBK -/

/-- The removal of a PENDING booking, in one event (R25, R43, R21). -/
def removeBooking (b : Booking) (s : State) : State :=
  finish (reexamine (endGapIfDue (departBooking b s)))

/-- UNBK (R25). -/
def unbkRequest (c : Class) (tag : BitVec 16) (s : State) : Answer :=
  needScope c .bookings none
    (withOwnBooking c tag (fun b s => if b.state = .pending then done (removeBooking b s) else refuse .state s)) s

/-- UNBK (R25). -/
def execUnbk (c : Class) (tag : BitVec 16) (s : State) : Host.Outcome State Fault Refusal :=
  .next (takeRequest .unbk (unbkRequest c tag) s)

/-! ## FIND and NEXT -/

/-- FIND (R26). -/
def findRequest (c : Class) (tag : BitVec 16) (s : State) : Answer :=
  needClass c .control (fun s =>
    if tag = 0 then refuse .range s
    else match bookingAt tag.toNat s.bookings with
      | none => refuse .missing s
      | some b => doneWith b.bytes s) s

/-- FIND (R26). -/
def execFind (c : Class) (tag : BitVec 16) (s : State) : Host.Outcome State Fault Refusal :=
  .next (takeRequest .find (findRequest c tag) s)

/-- NEXT (R27). -/
def nextRequest (c : Class) (minute : BitVec 32) (s : State) : Answer :=
  needClass c .control (fun s =>
    if Config.topMinute < minute.toNat then refuse .range s
    else match s.bookings.find? (fun b => minute.toNat < b.given.fin) with
      | none => { state := s, outcome := .missing, params := [byte s.bookings.length] }
      | some b => doneWith (byte s.bookings.length :: b.bytes) s) s

/-- NEXT (R27). -/
def execNext (c : Class) (minute : BitVec 32) (s : State) : Host.Outcome State Fault Refusal :=
  .next (takeRequest .next (nextRequest c minute) s)

end Sys2Proof.Machine
end

