-- ==== Sys2Proof/Machine/Channels.lean ====
section
/-! DEFINITION. The meanings of the engine channel's, the matrix channel's and the fire line's events (chapters 5, 6 and 8). A
row that takes a message takes it from the latch if the latch holds one of its kind, and changes nothing otherwise (log 2). -/

namespace Sys2Proof.Machine

/-! ## The engine's acknowledge -/

/-- A delivered STRIKE starts the window of its position, if that position is still STRIKING (R164). A position that has left
STRIKING and was struck anew has its new STRIKE waiting in its slot, and the old one starts nothing (R61; log 40). -/
def strikeDelivered (p : Pos) (s : State) : State :=
  if (s.lamp p).state = .striking ∧ s.engine.strikeWaits p = false then
    s.setLamp p { s.lamp p with window := some Config.strikeWindow }
  else s

/-- What the delivery of a message does (R164). -/
def deliver (m : Option OutMsg) (s : State) : State :=
  match m with
  | some (.lamp p (.strike _)) => strikeDelivered p s
  | some (.warp w) => warpDelivered w s
  | some (.lamp _ (.power _)) => s
  | some (.lamp _ .douse) => s
  | some (.shutter _) => s
  | none => s

/-- The acknowledge of a SENDING channel: the flight ends, the delivery takes effect and the channel is READY (R164). -/
def messageDelivered (s : State) : State :=
  deliver s.engine.inFlight (s.setEngine { s.engine with inFlight := none, ackTimer := false, state := .ready })

/-- The engine's acknowledge (R164). -/
def acknowledged (s : State) : State :=
  if s.engine.state = .sending then finish (messageDelivered s) else strayAcknowledgeNotice s

/-- ENGINE_ACKNOWLEDGE: while the flush runs it is not taken (R201). -/
def execEngineAcknowledge (s : State) : Host.Outcome State Fault Refusal :=
  .next (if s.phase = .flush then s else acknowledged s)

/-- The channel in FAULT: nothing in flight, the timer stopped, every slot emptied (R161, R165). -/
def Engine.faulted (e : Engine) : Engine :=
  { e with state := .fault, inFlight := none, ackTimer := false, shutterSlot := none, lampASlot := none, lampBSlot := none,
           warpSlot := none }

/-- The acknowledge timer runs out: the channel enters FAULT (R165). -/
def channelFaults (s : State) : State :=
  geometryFault (faultCoolAll (acknowledgeTimeoutNotice s.engine.inFlight (s.setEngine s.engine.faulted)))

/-- ACKNOWLEDGE_TIMEOUT (R165). -/
def execAcknowledgeTimeout (s : State) : Host.Outcome State Fault Refusal :=
  .next (whenRunning (fun s => if s.engine.state = .sending ∧ s.engine.ackTimer = true then finish (channelFaults s)
    else s) s)

/-! ## The engine's messages -/

/-- A message is strobed into the inbound latch, or dropped with its notice (R168). -/
def engineStrobed (m : EngineMsg) (s : State) : State :=
  match s.engine.latch with
  | none => s.setEngine { s.engine with latch := some m }
  | some _ => engineDroppedNotice s

/-- ENGINE_INBOUND_STROBE (R168); in START-UP and the FLUSH too a message goes to the latch (R200, R201). -/
def execEngineInboundStrobe (m : EngineMsg) (s : State) : Host.Outcome State Fault Refusal := .next (engineStrobed m s)

/-- The engine's latch is emptied. -/
def emptyEngineLatch (s : State) : State := s.setEngine { s.engine with latch := none }

/-- A LAMP SENSE message is taken (R169). -/
def lampSenseTaken (s : State) : State :=
  match s.engine.latch with
  | some (.lampSense p lit) => finish (lampReport p lit (emptyEngineLatch s))
  | _ => s

/-- LAMP_SENSE (R169). -/
def execLampSense (s : State) : Host.Outcome State Fault Refusal := .next (whenRunning lampSenseTaken s)

/-- A THERMAL message is taken (R169). -/
def thermalTaken (s : State) : State :=
  match s.engine.latch with
  | some (.thermal t) => finish (thermalReport t (emptyEngineLatch s))
  | _ => s

/-- THERMAL (R169). -/
def execThermal (s : State) : Host.Outcome State Fault Refusal := .next (whenRunning thermalTaken s)

/-- A DOOR message is taken (R106, R169). -/
def doorTaken (s : State) : State :=
  match s.engine.latch with
  | some (.door o) => finish (doorReport o (emptyEngineLatch s))
  | _ => s

/-- DOOR (R106, R169). -/
def execDoor (s : State) : Host.Outcome State Fault Refusal := .next (whenRunning doorTaken s)

/-- A STATUS REPORT outside FAULT: the door, the thermal state, the lamp senses of A and B (R169). -/
def statusTaken (litA litB : Bool) (t : Thermal) (doorOpen : Bool) (s : State) : State :=
  lampReport .b litB (lampReport .a litA (thermalReport t (doorReport doorOpen s)))

/-- The holds of a recovering STATUS REPORT: the thermal report, THERMAL, then DOOR, with one strike test after both (R106,
R167; log 20). -/
def recoveryHolds (t : Thermal) (doorOpen : Bool) (s : State) : State :=
  strikeTests (reportOnly doorSlot (lampHold .door) doorOpen
    (reportOnly thermalSlot (lampHold .thermal) (t == .over) (takeThermal t s)))

/-- A computation for the current input while SHOWN (R154). -/
def computeIfShown (s : State) : State :=
  if s.switch.state = .shown then
    match s.switch.current with
    | some i => compute i s
    | none => s
  else s

/-- The gate is evaluated, and its state is offered again whether it changed or not (R167 step 6). -/
def offerGate (s : State) : State :=
  let t := evalGate s
  offer (.shutter t.gate.shutterOpen) t

/-- A STATUS REPORT in FAULT: the channel recovers (R167). -/
def recover (litA litB : Bool) (t : Thermal) (doorOpen : Bool) (s : State) : State :=
  let s1 := s.setEngine { s.engine with state := .ready }
  let s2 := lampReport .b litB (lampReport .a litA s1)
  recoveredNotice (offerGate (computeIfShown (recoveryHolds t doorOpen s2)))

/-- A STATUS REPORT is taken (R169). -/
def statusReportTaken (s : State) : State :=
  match s.engine.latch with
  | some (.statusReport litA litB t doorOpen) =>
    if s.engine.state = .fault then finish (recover litA litB t doorOpen (emptyEngineLatch s))
    else finish (statusTaken litA litB t doorOpen (emptyEngineLatch s))
  | _ => s

/-- STATUS_REPORT (R167, R169). -/
def execStatusReport (s : State) : Host.Outcome State Fault Refusal := .next (whenRunning statusReportTaken s)

/-! ## The switch's messages -/

/-- A message is strobed into the matrix latch, or dropped with its notice (R129). -/
def matrixStrobed (m : MatrixMsg) (s : State) : State :=
  match s.switch.latch with
  | none => s.setSwitch { s.switch with latch := some m }
  | some _ => matrixDroppedNotice s

/-- MATRIX_INBOUND_STROBE (R129); in START-UP and the FLUSH too a message goes to the latch (R200, R201). -/
def execMatrixInboundStrobe (m : MatrixMsg) (s : State) : Host.Outcome State Fault Refusal := .next (matrixStrobed m s)

/-- The matrix latch is emptied. -/
def emptyMatrixLatch (s : State) : State := s.setSwitch { s.switch with latch := none }

/-- A TAKE ACK is taken from the latch (R126). -/
def takeAckRow (s : State) : State :=
  match s.switch.latch with
  | some (.takeAck i) => finish (takeAckTaken i (emptyMatrixLatch s))
  | _ => s

/-- TAKE_ACK (R126). -/
def execTakeAck (s : State) : Host.Outcome State Fault Refusal := .next (whenRunning takeAckRow s)

/-- A PRESENCE is taken from the latch (R128, R134). -/
def presenceRow (s : State) : State :=
  match s.switch.latch with
  | some (.presence set) => finish (presenceTaken set (emptyMatrixLatch s))
  | _ => s

/-- PRESENCE (R128, R134). -/
def execPresence (s : State) : Host.Outcome State Fault Refusal := .next (whenRunning presenceRow s)

/-! ## The fire line -/

/-- A change of the line is taken as a change from the value last seen (R105). -/
def fireLineSeen (active : Bool) (s : State) : State :=
  if active = s.fire.seen then s else finish (fireReport active s)

/-- FIRE_LINE_CHANGE: the line takes its level in every phase, and a change is taken while RUNNING (R105, R201). -/
def execFireLineChange (active : Bool) (s : State) : Host.Outcome State Fault Refusal :=
  .next (whenRunning (fireLineSeen active) (s.setFire { s.fire with level := active }))

end Sys2Proof.Machine
end

