-- ==== Sys2Proof/Machine/GateRequests.lean ====
section
/-! DEFINITION. The meanings of MUTE and UNMT (chapter 8). -/

namespace Sys2Proof.Machine

/-- Mute takes a value, in one event (R160). -/
def setMute (on : Bool) (s : State) : State := finish (s.setGate { s.gate with mute := on })

/-- MUTE (R160). -/
def muteRequest (c : Class) (s : State) : Answer := needClass c .control (fun s => done (setMute true s)) s

/-- MUTE (R160). -/
def execMute (c : Class) (s : State) : Host.Outcome State Fault Refusal := .next (takeRequest .mute (muteRequest c) s)

/-- UNMT (R160). -/
def unmtRequest (c : Class) (s : State) : Answer := needClass c .control (fun s => done (setMute false s)) s

/-- UNMT (R160). -/
def execUnmt (c : Class) (s : State) : Host.Outcome State Fault Refusal := .next (takeRequest .unmt (unmtRequest c) s)

end Sys2Proof.Machine
end

