-- ==== Sys2Proof/Machine/GeometryRequests.lean ====
section
/-! DEFINITION. The meanings of PRST, PRSR, APPL and CRNR (chapter 7). -/

namespace Sys2Proof.Machine

/-! ## PRST and PRSR -/

/-- PRST past its checks, in one event (R143). -/
def writePreset (n : PresetNo) (p : Preset) (s : State) : State :=
  let t := markDirty (presetNo n) (s.setGeom { s.geom with presets := s.geom.presets.set n p })
  finish (if effectiveNow t = some n then computeTarget t else t)

/-- The outcome of a request that clamps: CLAMPED if a value was pulled, DONE otherwise. -/
def clampOutcome (pulled : Bool) : ReqOutcome := if pulled then .clamped else .done

/-- PRST past its checks: the values stored are the carried ones, each pulled to its range (R143). -/
def storePreset (n : PresetNo) (r : PresetRaw) (s : State) : Answer :=
  let carried := presetValues r
  { state := writePreset n carried.clamped s, outcome := clampOutcome (carried.clamped != carried),
    params := carried.clamped.bytes }

/-- PRST (R143). -/
def prstRequest (c : Class) (number : Byte) (r : PresetRaw) (s : State) : Answer :=
  needScope c .geometry none (fun s =>
    match presetOf number with
    | none => refuse .range s
    | some n => storePreset n r s) s

/-- PRST (R143). -/
def execPrst (c : Class) (number : Byte) (p : PresetRaw) (s : State) : Host.Outcome State Fault Refusal :=
  .next (takeRequest .prst (prstRequest c number p) s)

/-- PRSR (R144). -/
def prsrRequest (c : Class) (number : Byte) (s : State) : Answer :=
  needClass c .control (fun s =>
    match presetOf number with
    | none => refuse .range s
    | some n => doneWith s.geom.presets[n].bytes s) s

/-- PRSR (R144). -/
def execPrsr (c : Class) (number : Byte) (s : State) : Host.Outcome State Fault Refusal :=
  .next (takeRequest .prsr (prsrRequest c number) s)

/-! ## APPL -/

/-- A booking is WARMING or RUNNING, or the session is ON (R146). -/
def lectureInHand (s : State) : Bool := s.activeBooking.isSome || s.sched.session

/-- The override takes a value, and a computation follows if the effective preset changed (R146, R152). -/
def applyOverride (p : Option PresetNo) (s : State) : State :=
  finish (computeIfChanged (effectiveNow s) (s.setGeom { s.geom with override := p }))

/-- APPL (R146). -/
def applRequest (c : Class) (number : Byte) (s : State) : Answer :=
  needScope c .geometry none (fun s =>
    match optPresetOf number with
    | none => refuse .range s
    | some p => if lectureInHand s then done (applyOverride p s) else refuse .state s) s

/-- APPL (R146). -/
def execAppl (c : Class) (number : Byte) (s : State) : Host.Outcome State Fault Refusal :=
  .next (takeRequest .appl (applRequest c number) s)

/-! ## CRNR -/

/-- Which of the three sources of R147 gives the effective preset: override 1, booking 2, profile 3 (R193). -/
def presetSource (s : State) : Byte :=
  if s.geom.override.isSome then 1 else if s.bookingPreset.isSome then 2 else 3

/-- The effective preset of the current input and its source; none and none where there is no current input (R155). -/
def effectiveBytes (s : State) : List Byte :=
  match s.switch.current with
  | some i => [byte (effectivePreset s i).val, presetSource s]
  | none => [255, 0]

/-- A point's coordinates. -/
def Point.bytes (p : Point) : List Byte := be16 p.x ++ be16 p.y

/-- The 16 bytes of four corners: TL, TR, BR, BL (R193). -/
def Corners.bytes (c : Corners) : List Byte := c.tl.bytes ++ c.tr.bytes ++ c.br.bytes ++ c.bl.bytes

/-- The 16 bytes of an absent corner set: eight free coordinates, numbered from `k` (log 17). -/
def freeCornerBytes (n k : Nat) : List Byte :=
  [k, k + 1, k + 2, k + 3, k + 4, k + 5, k + 6, k + 7].flatMap (fun j => be16 (Config.freeCoordinate n j).toNat)

/-- A corner set that may be absent. -/
def optCornerBytes (n k : Nat) (c : Option Corners) : List Byte := (c.map Corners.bytes).getD (freeCornerBytes n k)

/-- The 39 bytes of the corner report (R155, R193). -/
def cornerReportBytes (s : State) : List Byte :=
  [optPresetByte s.geom.override] ++ effectiveBytes s
    ++ [boolByte s.geom.wanted.isSome, optInputByte (s.geom.wanted.map (·.input))]
    ++ optCornerBytes s.freeCount 0 (s.geom.wanted.map (·.corners))
    ++ [boolByte s.geom.applied.isSome] ++ optCornerBytes s.freeCount 8 s.geom.applied
    ++ [optInputByte s.geom.appliedFor]

/-- CRNR (R155); it uses up one number of the free values (log 17). -/
def crnrRequest (c : Class) (s : State) : Answer :=
  needClass c .control (fun s => doneWith (cornerReportBytes s) { s with freeCount := s.freeCount + 1 }) s

/-- CRNR (R155). -/
def execCrnr (c : Class) (s : State) : Host.Outcome State Fault Refusal := .next (takeRequest .crnr (crnrRequest c) s)

end Sys2Proof.Machine
end

