-- ==== Sys2Proof/Machine/HoldRequests.lean ====
section
/-! DEFINITION. The meanings of HOLD, LIFT and HLDS (chapter 5). -/

namespace Sys2Proof.Machine

/-! ## HOLD -/

/-- Some scope is among the scopes. -/
def Scopes.nonempty (s : Scopes) : Bool :=
  s.strike || s.shutter || s.source || s.geometry || s.bookings || s.session || s.keys

/-- A request scope is among the scopes (R101). -/
def Scopes.hasRequest (s : Scopes) : Bool := s.source || s.geometry || s.bookings || s.session || s.keys

/-- Some origin is among the bound origins. -/
def Origins.nonempty (o : Origins) : Bool := o.panel || o.control || o.service || o.automatic

/-- Check 2 of HOLD: a bound origin that is a class above the request's class. Only SERVICE can be, for CONTROL (R110). The bits of
the classes are read even in a byte that is no code of the field, so such a byte with the SERVICE bit fails check 2 and not only
check 3 (R192; DESIGN CHOICE, log 45). -/
def bindsAbove (c : Class) (bound : Byte) : Bool :=
  (bound.getLsbD 2 && !atLeast c .service) || (bound.getLsbD 1 && !atLeast c .control)

/-- The expiry minute a HOLD carries: 4,294,967,295 is absent (R192). -/
def expiryOf (e : BitVec 32) : Option Nat := if e = 4294967295 then none else some e.toNat

/-- The hold a HOLD carries, or none where check 3 fails (R110). -/
def requestedHoldOf (c : Class) (r : HoldRaw) : Option Hold := do
  let scopes ← Scopes.ofByte r.scopes
  let bound ← Origins.ofByte r.bound
  let allowed := optSetOf r.allowed
  let expiry := expiryOf r.expiry
  if r.tag != 0 && scopes.nonempty && (bound.nonempty == scopes.hasRequest) && (allowed.isNone || scopes.source)
      && expiry.all (· ≤ Config.topMinute) then
    some { kind := .requested, placer := some c, tag := some r.tag.toNat, scopes := scopes, bound := bound,
           allowed := allowed, expiry := expiry, bookingTag := none }
  else none

/-- The minute that check 5 of a HOLD uses. It is now (R29, R110), but where the HOLD meets a minute arrival it is the minute of the
other side of the arrival, as R117 gives it: the new minute if the HOLD is taken first, and the old one if the arrival is. A
meeting that the clock's second rules out is none (log 42). -/
def checkedMinute (m : Meeting) (k : Clock) : Nat :=
  match m with
  | .apart => k.minute
  | .arrivalFollows => if k.second = 59 ∧ k.minute < Config.topMinute then k.minute + 1 else k.minute
  | .arrivalTaken => if k.second = 0 then k.minute - 1 else k.minute

/-- Check 5 of HOLD: an expiry minute is later than now (R110). -/
def expiryPassed (now : Nat) (expiry : Option Nat) : Bool := expiry.any (· ≤ now)

/-- The arrival that a HOLD met lifts the hold at once if its expiry is the arriving minute, with detail expired (R113, R117). -/
def arrivalLifts (h : Hold) (s : State) : State :=
  if h.expiry = some s.clock.minute then expireHolds s.clock.minute s else s

/-- Checks 4 to 7 of HOLD, and the placing (R110, R111, R117). -/
def placeRequested (m : Meeting) (h : Hold) (tag : Nat) (s : State) : Answer :=
  if h.expiry.isSome && !s.clock.isSet then refuse .clock s
  else if expiryPassed (checkedMinute m s.clock) h.expiry then refuse .range s
  else if (requestedHoldAt tag s).isSome then refuse .duplicate s
  else match freeRequestedSlot s with
    | none => refuse .full s
    | some slot => doneWith [byte slot.val] (finish (arrivalLifts h (placeHold slot h s)))

/-- HOLD (R110, R111). -/
def holdRequest (c : Class) (r : HoldRaw) (m : Meeting) (s : State) : Answer :=
  needClass c .control (fun s =>
    if bindsAbove c r.bound then refuse .class' s
    else match requestedHoldOf c r with
      | none => refuse .range s
      | some h => placeRequested m h r.tag.toNat s) s

/-- HOLD (R110, R111, R117). -/
def execHold (c : Class) (h : HoldTaken) (s : State) : Host.Outcome State Fault Refusal :=
  .next (takeRequest .hold (holdRequest c h.params h.meets) s)

/-! ## LIFT -/

/-- The request's class is at least the hold's placer class (R112). -/
def mayLift (c : Class) (h : Hold) : Bool := h.placer.all (atLeast c)

/-- Checks 3 and 4 of LIFT, and the lifting (R112). -/
def liftRequested (c : Class) (tag : Nat) (s : State) : Answer :=
  match requestedHoldAt tag s with
  | none => refuse .missing s
  | some slot => match s.holds[slot] with
    | none => refuse .missing s
    | some h => if mayLift c h then done (finish (liftHold slot h s)) else refuse .class' s

/-- LIFT (R112). -/
def liftRequest (c : Class) (tag : BitVec 16) (s : State) : Answer :=
  needClass c .control (fun s => if tag = 0 then refuse .range s else liftRequested c tag.toNat s) s

/-- LIFT (R112). -/
def execLift (c : Class) (tag : BitVec 16) (s : State) : Host.Outcome State Fault Refusal :=
  .next (takeRequest .lift (liftRequest c tag) s)

/-! ## HLDS -/

/-- The bytes of the hold in one slot, none where it is empty. -/
def slotBytes (s : State) (i : Fin 16) : List Byte := (s.holds[i].map (Hold.bytes i.val)).getD []

/-- How many holds are in the table. -/
def holdCount (s : State) : Nat := allSlots.countP (fun i => s.holds[i].isSome)

/-- HLDS's reply: the count, then every hold in slot order (R114). -/
def holdListBytes (s : State) : List Byte := byte (holdCount s) :: allSlots.flatMap (slotBytes s)

/-- HLDS (R114). -/
def hldsRequest (c : Class) (s : State) : Answer := needClass c .control (fun s => doneWith (holdListBytes s) s) s

/-- HLDS (R114). -/
def execHlds (c : Class) (s : State) : Host.Outcome State Fault Refusal := .next (takeRequest .hlds (hldsRequest c) s)

end Sys2Proof.Machine
end

