-- ==== Sys2Proof/Machine/LampRequests.lean ====
section
/-! DEFINITION. The meanings of LAMP, FITL, REML and CLRF (chapter 3). -/

namespace Sys2Proof.Machine

/-! ## LAMP -/

/-- The flags byte of a lamp position block (R193): fitted 1, wear estimated 2, wanted 4, wanted power ECO 8, forced by derate
16, forced by thermal 32, window running 64, power ECO 128 (the forced reasons of an unwanted position are log 16). -/
def lampFlags (s : State) (p : Pos) : Byte :=
  let l := s.lamp p
  (if l.record.fitted then 1 else 0) + (if l.record.estimated then 2 else 0) + (if l.wanted then 4 else 0)
    + (if l.wanted ∧ s.wantedPower p = .eco then 8 else 0) + (if l.derated then 16 else 0)
    + (if s.thermal = .warn then 32 else 0) + (if l.window.isSome then 64 else 0) + (if l.power = .eco then 128 else 0)

/-- The 43 bytes of a lamp position block (R77, R193); the limits of an unfitted position are 0 (R88). -/
def lampBlock (s : State) (p : Pos) : List Byte :=
  let l := s.lamp p
  let r := l.record
  let limit (n : Nat) : List Byte := be32 (if r.fitted then n else 0)
  [lampFlags s p] ++ be32 r.serial ++ be16 r.rated ++ be32 r.wear ++ be16 r.strikes
    ++ [l.state.byte, byte l.attempts, byte l.cooldown, countByte l.window] ++ be16 l.continuous ++ be32 l.committed
    ++ limit r.warnLimit ++ limit r.derateLimit ++ limit r.spentLimit ++ be32 r.equivalentHours ++ be16 r.hoursToSpent
    ++ be16 r.lifeUsed

/-- LAMP's reply (R77). -/
def lampReportBytes (s : State) : List Byte :=
  lampBlock s .a ++ lampBlock s .b ++ [thermalByte s.thermal, s.sched.demand.basis.byte, s.effective.byte]

/-- LAMP (R77). -/
def lampRequest (c : Class) (s : State) : Answer := needClass c .control (fun s => doneWith (lampReportBytes s) s) s

/-- LAMP (R77). -/
def execLamp (c : Class) (s : State) : Host.Outcome State Fault Refusal := .next (takeRequest .lamp (lampRequest c) s)

/-! ## FITL, REML and CLRF -/

/-- A DOOR hold is in the hold table (R74). -/
def State.doorHeld (s : State) : Bool := s.holds[doorSlot].isSome

/-- The usability of a position changed, if it did (R58). -/
def usabilityAfter (was : Bool) (p : Pos) (s : State) : State :=
  if (s.lamp p).usable = was then s else usabilityChanged s

/-- A new lamp in a position (R74, R85). -/
def fittedLamp (serial rated : Nat) (l : Lamp) : Lamp :=
  { l with record := { fitted := true, serial := serial, rated := rated, wear := 0, strikes := 0, estimated := false },
           state := .cold, attempts := 0, cooldown := 0, window := none, continuous := 0, unstored := 0,
           warned := false, derated := false }

/-- FITL past its checks, in one event (R74). -/
def fitLamp (p : Pos) (serial rated : Nat) (s : State) : State :=
  let s1 := lampFittedNotice p (markLampDirty p (s.setLamp p (fittedLamp serial rated (s.lamp p))))
  finish (evalPower p (usabilityAfter (s.lamp p).usable p (strikeTest p s1)))

/-- The states in which a lamp may be fitted (R74). -/
def LampState.mayFit (st : LampState) : Bool := st == .empty || st == .cold || st == .failed || st == .spent

/-- FITL (R74). -/
def fitlRequest (c : Class) (position : Byte) (serial : BitVec 32) (rated : BitVec 16) (s : State) : Answer :=
  needClass c .service (fun s =>
    match posOf position with
    | none => refuse .range s
    | some p =>
      if rated.toNat < 100 ∨ 20000 < rated.toNat then refuse .range s
      else if !s.doorHeld then refuse .state s
      else if !(s.lamp p).state.mayFit then refuse .state s
      else done (fitLamp p serial.toNat rated.toNat s)) s

/-- FITL (R74). -/
def execFitl (c : Class) (position : Byte) (serial : BitVec 32) (rated : BitVec 16) (s : State) :
    Host.Outcome State Fault Refusal :=
  .next (takeRequest .fitl (fitlRequest c position serial rated) s)

/-- A position with its lamp removed (R75, R85). -/
def removedLamp (l : Lamp) : Lamp :=
  { l with record := .cleared, state := .empty, attempts := 0, cooldown := 0, warned := false, derated := false }

/-- REML past its checks, in one event (R75). -/
def removeLamp (p : Pos) (s : State) : State :=
  let s1 := lampRemovedNotice p (markLampDirty p (s.setLamp p (removedLamp (s.lamp p))))
  finish (usabilityAfter (s.lamp p).usable p s1)

/-- The states in which a lamp may be removed (R75). -/
def LampState.mayRemove (st : LampState) : Bool := st == .cold || st == .failed || st == .spent

/-- REML (R75). -/
def remlRequest (c : Class) (position : Byte) (s : State) : Answer :=
  needClass c .service (fun s =>
    match posOf position with
    | none => refuse .range s
    | some p =>
      if !s.doorHeld then refuse .state s
      else if !(s.lamp p).state.mayRemove then refuse .state s
      else done (removeLamp p s)) s

/-- REML (R75). -/
def execReml (c : Class) (position : Byte) (s : State) : Host.Outcome State Fault Refusal :=
  .next (takeRequest .reml (remlRequest c position) s)

/-- CLRF past its checks, in one event (R76). -/
def clearFailure (p : Pos) (s : State) : State :=
  let l := { s.lamp p with attempts := 0 }
  let s1 :=
    if l.record.isSpent then s.setLamp p { l with state := .spent } else enterCold p (s.setLamp p l)
  finish (usabilityAfter (s.lamp p).usable p (lampClearedNotice p s1))

/-- CLRF (R76). -/
def clrfRequest (c : Class) (position : Byte) (s : State) : Answer :=
  needClass c .service (fun s =>
    match posOf position with
    | none => refuse .range s
    | some p => if (s.lamp p).state = .failed then done (clearFailure p s) else refuse .state s) s

/-- CLRF (R76). -/
def execClrf (c : Class) (position : Byte) (s : State) : Host.Outcome State Fault Refusal :=
  .next (takeRequest .clrf (clrfRequest c position) s)

end Sys2Proof.Machine
end

