-- ==== Sys2Proof/Machine/ScheduleRequests.lean ====
section
/-! DEFINITION. The meanings of ENDN, TIME, CLCK, SESN and SESF (chapter 2). -/

namespace Sys2Proof.Machine

/-- ENDN (R46). -/
def endnRequest (c : Class) (tag : BitVec 16) (s : State) : Answer :=
  needScope c .bookings none
    (withOwnBooking c tag (fun b s =>
      if b.state = .pending then refuse .state s else done (finish (endByRequest b s)))) s

/-- ENDN (R46). -/
def execEndn (c : Class) (tag : BitVec 16) (s : State) : Host.Outcome State Fault Refusal :=
  .next (takeRequest .endn (endnRequest c tag) s)

/-- The clock is set, and the schedule check made (R31). -/
def setTime (minute second : Nat) (s : State) : State :=
  finish (scheduleCheck (s.setClock { minute := minute, second := second, isSet := true }))

/-- TIME (R31). -/
def timeRequest (c : Class) (minute : BitVec 32) (second : Byte) (s : State) : Answer :=
  needClass c .control (fun s =>
    if Config.topMinute < minute.toNat ∨ 59 < second.toNat then refuse .range s
    else done (setTime minute.toNat second.toNat s)) s

/-- TIME (R31). -/
def execTime (c : Class) (minute : BitVec 32) (second : Byte) (s : State) : Host.Outcome State Fault Refusal :=
  .next (takeRequest .time (timeRequest c minute second) s)

/-- The six bytes of CLCK's reply (R32, R190). -/
def Clock.bytes (c : Clock) : List Byte := be32 c.minute ++ [byte c.second, boolByte c.isSet]

/-- CLCK (R32). -/
def clckRequest (c : Class) (s : State) : Answer := needClass c .control (fun s => doneWith s.clock.bytes s) s

/-- CLCK (R32). -/
def execClck (c : Class) (s : State) : Host.Outcome State Fault Refusal := .next (takeRequest .clck (clckRequest c) s)

/-- SESN needs class PANEL, which every requester has (R47). -/
def sesnRequest (c : Class) (s : State) : Answer :=
  needClass c .panel (fun s =>
    if s.held (classOrigin c) .session none then refuse .held s else done (startSession s)) s

/-- SESN (R47). -/
def execSesn (c : Class) (s : State) : Host.Outcome State Fault Refusal := .next (takeRequest .sesn (sesnRequest c) s)

/-- SESF past its checks (R50). -/
def stopSession (s : State) : State := if s.sched.session then finish (endSession s) else s

/-- SESF (R50). -/
def sesfRequest (c : Class) (s : State) : Answer := needScope c .session none (fun s => done (stopSession s)) s

/-- SESF (R50). -/
def execSesf (c : Class) (s : State) : Host.Outcome State Fault Refusal := .next (takeRequest .sesf (sesfRequest c) s)

end Sys2Proof.Machine
end

