-- ==== Sys2Proof/Machine/SettingsRequests.lean ====
section
/-! DEFINITION. The meanings of SUMM, NLVL, CONF, CNFR and RSTR (chapter 11). -/

namespace Sys2Proof.Machine

/-! ## SUMM -/

/-- The nine classes in position order. -/
def allClasses : List NoticeClass := [.lamp, .schedule, .source, .hold, .engine, .matrix, .store, .link, .panel]

/-- The pending classes of one level, in position order. -/
def pendingAtLevel (s : State) (level : Nat) : List NoticeClass :=
  allClasses.filter (fun c => (s.notice c).pending && s.level c == level)

/-- The pending classes ordered by level, highest first, and among equal levels by position (R196). -/
def summary (s : State) : List NoticeClass := [3, 2, 1, 0].flatMap (pendingAtLevel s)

/-- The 7 bytes of a notice entry (R193). -/
def noticeEntry (s : State) (c : NoticeClass) : List Byte :=
  [byte (c.index.val + 1), byte (s.level c), byte (s.notice c).code] ++ be32 (s.notice c).arg.toNat

/-- SUMM's reply (R196). -/
def summaryBytes (s : State) : List Byte := byte (summary s).length :: (summary s).flatMap (noticeEntry s)

/-- A class's pending flag becomes no; its detail is kept (R196). -/
def clearPending (s : State) (c : NoticeClass) : State :=
  { s with notices := s.notices.set c.index { s.notice c with pending := false } }

/-- SUMM (R196). -/
def summRequest (c : Class) (s : State) : Answer :=
  needClass c .control (fun s => doneWith (summaryBytes s) ((summary s).foldl clearPending s)) s

/-- SUMM (R196). -/
def execSumm (c : Class) (s : State) : Host.Outcome State Fault Refusal := .next (takeRequest .summ (summRequest c) s)

/-! ## NLVL, CONF and CNFR -/

/-- The class a position byte names: 1 to 9 (R197). -/
def classAt (b : Byte) : Option (Fin 9) :=
  if h : 1 ≤ b.toNat ∧ b.toNat ≤ 9 then some ⟨b.toNat - 1, by omega⟩ else none

/-- The configuration record takes a value and is marked dirty, in one event (R197, R198). -/
def writeConfig (cfg : ConfigRecord) (s : State) : State := finish (markDirty configNo (s.setConfig cfg))

/-- NLVL past its checks (R197). -/
def setLevel (i : Fin 9) (level : Nat) (s : State) : Answer :=
  { state := writeConfig { s.config with levels := s.config.levels.set i (clampLevel level) } s,
    outcome := clampOutcome (clampLevel level != level), params := [byte (clampLevel level)] }

/-- NLVL (R197). -/
def nlvlRequest (c : Class) (position level : Byte) (s : State) : Answer :=
  needClass c .control (fun s =>
    match classAt position with
    | none => refuse .range s
    | some i => setLevel i level.toNat s) s

/-- NLVL (R197). -/
def execNlvl (c : Class) (position level : Byte) (s : State) : Host.Outcome State Fault Refusal :=
  .next (takeRequest .nlvl (nlvlRequest c position level) s)

/-- CONF past its class check: each field is pulled to its range (R198). -/
def storeConfig (r : ConfigRaw) (s : State) : Answer :=
  { state := writeConfig (configOf r) s, outcome := clampOutcome ((configOf r).bytes != configRawBytes r),
    params := (configOf r).bytes }

/-- CONF (R198). -/
def confRequest (c : Class) (r : ConfigRaw) (s : State) : Answer := needClass c .control (storeConfig r) s

/-- CONF (R198). -/
def execConf (c : Class) (r : ConfigRaw) (s : State) : Host.Outcome State Fault Refusal :=
  .next (takeRequest .conf (confRequest c r) s)

/-- CNFR (R198). -/
def cnfrRequest (c : Class) (s : State) : Answer := needClass c .control (fun s => doneWith s.config.bytes s) s

/-- CNFR (R198). -/
def execCnfr (c : Class) (s : State) : Host.Outcome State Fault Refusal := .next (takeRequest .cnfr (cnfrRequest c) s)

/-! ## RSTR -/

/-- The flush begins (R201): nothing else is taken from now on, the key latch is emptied and key busy asserted (R172), and the
writer finishes the write under way and goes on with the dirty set. -/
def beginFlush (s : State) : State := startFlushWrite { s with phase := .flush, panel := none }

/-- RSTR (R201). Its reply is composed and held, and never staged (R188, log 31); the reply of an RSTR refused with CLASS is
staged like any other (log 41). -/
def rstrRequest (c : Class) (s : State) : Answer := needClass c .service (fun s => done (beginFlush s)) s

/-- RSTR (R201). -/
def execRstr (c : Class) (s : State) : Host.Outcome State Fault Refusal := .next (takeRequest .rstr (rstrRequest c) s)

end Sys2Proof.Machine
end

