-- ==== Sys2Proof/Machine/SourceRequests.lean ====
section
/-! DEFINITION. The meanings of SRCE, PROF, PRFR and SIGS (chapter 6). -/

namespace Sys2Proof.Machine

/-! ## SRCE -/

/-- A selection of kind REQUEST with the request's origin (R138). -/
def requestSelection (c : Class) (i : Input) : Selection := { target := i, origin := classOrigin c, kind := .request }

/-- SRCE past its checks: the selection is dealt with, and the outcome is R122's. -/
def selectInput (c : Class) (i : Input) (s : State) : Answer :=
  { state := makeSelection (requestSelection c i) s, outcome := selectionOutcome i s, params := [] }

/-- SRCE (R138). -/
def srceRequest (c : Class) (input : Byte) (s : State) : Answer :=
  needScope c .source (inputOf input) (fun s =>
    match inputOf input with
    | none => refuse .range s
    | some i => selectInput c i s) s

/-- SRCE (R138). -/
def execSrce (c : Class) (input : Byte) (s : State) : Host.Outcome State Fault Refusal :=
  .next (takeRequest .srce (srceRequest c input) s)

/-! ## PROF and PRFR -/

/-- The profile of the input that a computation is made for was written: a computation (R119, R152). -/
def computeFor (i : Input) (s : State) : State := if geometryTarget s = some i then compute i s else s

/-- PROF past its checks, in one event (R119). -/
def writeProfile (i : Input) (p : Profile) (s : State) : State :=
  finish (computeFor i (markDirty (profileNo i) (s.setProfiles (s.profiles.set i p))))

/-- PROF (R119). -/
def profRequest (c : Class) (input : Byte) (r : ProfileRaw) (s : State) : Answer :=
  needScope c .source (inputOf input) (fun s =>
    match inputOf input with
    | none => refuse .range s
    | some i => match profileOf i r with
      | none => refuse .range s
      | some p => done (writeProfile i p s)) s

/-- PROF (R119). -/
def execProf (c : Class) (input : Byte) (p : ProfileRaw) (s : State) : Host.Outcome State Fault Refusal :=
  .next (takeRequest .prof (profRequest c input p) s)

/-- PRFR (R120). -/
def prfrRequest (c : Class) (input : Byte) (s : State) : Answer :=
  needClass c .control (fun s =>
    match inputOf input with
    | none => refuse .range s
    | some i => doneWith s.profiles[i].bytes s) s

/-- PRFR (R120). -/
def execPrfr (c : Class) (input : Byte) (s : State) : Host.Outcome State Fault Refusal :=
  .next (takeRequest .prfr (prfrRequest c input) s)

/-! ## SIGS -/

/-- The pending selection's target, origin and kind, all 0 when the slot is empty (R193). -/
def pendingBytes (p : Option Selection) : List Byte :=
  match p with
  | some sel => [inputByte sel.target, sel.origin.byte, sel.kind.byte]
  | none => [0, 0, 0]

/-- The last frame: present, its period and its line count. An absent period is 4,294,967,295 (R192); the line count of an
absent frame is a free value (log 17). -/
def lastFrameBytes (n : Nat) (f : Option Frame) : List Byte :=
  match f with
  | some f => [1] ++ be32 f.period ++ be16 f.lines
  | none => [0] ++ be32 4294967295 ++ be16 (Config.freeLineCount n).toNat

/-- The 19 bytes of the signal report (R139, R193). -/
def signalReportBytes (s : State) : List Byte :=
  [s.switch.state.byte, optInputByte s.switch.current, reachedByte s.switch.reachedBy] ++ pendingBytes s.switch.pendingSel
    ++ [optInputByte s.switch.takeInFlight, countByte s.switch.grace, s.switch.presence, s.meter.state.byte]
    ++ lastFrameBytes s.freeCount s.meter.last ++ be16 s.meter.tally

/-- SIGS (R139); it uses up one number of the free values (log 17). -/
def sigsRequest (c : Class) (s : State) : Answer :=
  needClass c .control (fun s => doneWith (signalReportBytes s) { s with freeCount := s.freeCount + 1 }) s

/-- SIGS (R139). -/
def execSigs (c : Class) (s : State) : Host.Outcome State Fault Refusal := .next (takeRequest .sigs (sigsRequest c) s)

end Sys2Proof.Machine
end

