-- ==== Sys2Proof/Machine/ControlLink.lean ====
section
/-! DEFINITION. The control link (chapter 10): frames and bytes, the sorting of a frame, the request frame handed to its owning
block, malformed and overrun frames, and staging. -/

namespace Sys2Proof.Machine

/-! ## The beginning of a frame and its bytes -/

/-- The status of the link (R179): NOT READY while the decoder is BUSY, READY with an unread body, else NONE. -/
def Link.statusNow (l : Link) : LinkStatus :=
  if l.decoder.isSome then .notReady else if l.readPos < l.buffer.length then .ready else .none

/-- A frame begins (R180). Outside RUNNING it is marked an overrun and answered with NOT READY (R188). -/
def beginFrame (running : Bool) (l : Link) : Link :=
  { l with receiving := true, byteCount := 0, bytes := [], overrun := !running || l.decoder.isSome,
           status := if running then l.statusNow else .notReady, owed := false }

/-- FRAME_BEGIN (R180); a fall of the select line while a frame is being received is no fall (log 2). -/
def execFrameBegin (s : State) : Host.Outcome State Fault Refusal :=
  .next (if s.link.receiving then s else s.setLink (beginFrame (s.phase == .running) s.link))

/-- The byte that is on its way out, when the frame has completed `byteCount` bytes: the link status byte, then the body from
the read position on while the status is READY, then fill of 0 (R181). The status byte of a frame that the end of start-up cut off
is NOT READY (R188). -/
def Link.byteOut (l : Link) : Byte :=
  if l.owed then LinkStatus.notReady.byte
  else if l.byteCount = 0 then l.status.byte
  else if l.status = .ready then l.buffer.getD l.readPos 0
  else 0

/-- The byte being clocked out is a byte of the reply body (R181). -/
def Link.bodyByteOut (l : Link) : Bool := l.status == .ready && l.byteCount != 0 && l.readPos < l.buffer.length

/-- A byte is completed: counted, kept if among the first 64, and the body byte clocked out with it read (R180, R181). -/
def completeByte (b : Byte) (l : Link) : Link :=
  { l with byteCount := min Config.top16 (l.byteCount + 1),
           bytes := if l.byteCount < Config.keptBytes then l.bytes ++ [b] else l.bytes,
           readPos := if l.bodyByteOut then l.readPos + 1 else l.readPos }

/-- The status byte that a cut-off frame had loaded is out, or its frame has ended (R181, R188). -/
def Link.paid (l : Link) : Link := { l with owed := false }

/-- BYTE_COMPLETION (R180, R181); clock edges with no frame in progress count for nothing. -/
def execByteCompletion (b : Byte) (s : State) : Host.Outcome State Fault Refusal :=
  .next (s.setLink (if s.link.receiving then completeByte b s.link else s.link.paid))

/-! ## The sorting of a frame -/

/-- Why a frame is malformed (R182). -/
inductive Malformed where
  | tooShort | tooLong | unknownName | wrongLength
  deriving DecidableEq, Repr

/-- The detail code of a malformed frame (R194). -/
def Malformed.code : Malformed → Nat
  | .tooShort => 2 | .tooLong => 3 | .unknownName => 4 | .wrongLength => 5

/-- What a frame is taken as at its end (R180, R182, R185). -/
inductive FrameSort where
  | empty
  | overrun
  | malformed (m : Malformed)
  | fetch
  | request (n : ReqName)
  deriving DecidableEq, Repr

/-- A frame of 5 to 64 bytes with a name: its parameter length is the name's, and the parameters are there (R182). -/
def sortNamed (n : ReqName) (l : Link) : FrameSort :=
  if (u8 l.bytes 4).toNat = n.length ∧ 5 + n.length ≤ l.byteCount then .request n else .malformed .wrongLength

/-- The sorting of R182, for a frame that is not empty and no overrun. -/
def sortBytes (l : Link) : FrameSort :=
  if Config.keptBytes < l.byteCount then .malformed .tooLong
  else if l.byteCount = 1 then .malformed .tooShort
  else if u8 l.bytes 0 = 0 then .fetch
  else if l.byteCount ≤ 4 then .malformed .tooShort
  else match ReqName.ofLetters (l.bytes.take 4) with
    | none => .malformed .unknownName
    | some n => sortNamed n l

/-- What the frame is at its end (R180). -/
def frameSort (l : Link) : FrameSort :=
  if l.byteCount = 0 then .empty else if l.overrun then .overrun else sortBytes l

/-! ## The end of a frame -/

/-- The frame receiver becomes IDLE (R180). -/
def endFrame (s : State) : State := s.setLink { s.link with receiving := false }

/-- The rise of the select line for a row that takes frames of one sort. Outside RUNNING, and for an empty frame, the frame ends
with no further effect (R180, R188); a frame of another sort is not this row's (log 2). A frame that the end of start-up cut off is
discarded (R188). -/
def frameEnds (takes : FrameSort → Bool) (act : FrameSort → State → State) (s : State) : State :=
  if !s.link.receiving then s.setLink s.link.paid
  else if s.phase ≠ .running then endFrame s
  else
    let sort := frameSort s.link
    if sort = .empty then endFrame s
    else if takes sort then act sort (endFrame s)
    else s

/-- The class a request frame has: SERVICE with the service key line asserted at its end, else CONTROL (R97, R183). -/
def frameClass (serviceKey : Bool) : Class := if serviceKey then .service else .control

/-- A request with its parameters is handed to the block that owns it (R183, R190), with the minute arrival it met (R117). -/
def handRequest (n : ReqName) (c : Class) (m : Meeting) (ps : List Byte) (s : State) : Answer :=
  match n with
  | .book => bookRequest c (givenRawOf ps) s
  | .rebk => rebkRequest c (givenRawOf ps) s
  | .unbk => unbkRequest c (u16 ps 0) s
  | .find => findRequest c (u16 ps 0) s
  | .next => nextRequest c (u32 ps 0) s
  | .endn => endnRequest c (u16 ps 0) s
  | .time => timeRequest c (u32 ps 0) (u8 ps 4) s
  | .clck => clckRequest c s
  | .sesn => sesnRequest c s
  | .sesf => sesfRequest c s
  | .lamp => lampRequest c s
  | .fitl => fitlRequest c (u8 ps 0) (u32 ps 1) (u16 ps 5) s
  | .reml => remlRequest c (u8 ps 0) s
  | .clrf => clrfRequest c (u8 ps 0) s
  | .hold => holdRequest c (holdRawOf ps) m s
  | .lift => liftRequest c (u16 ps 0) s
  | .hlds => hldsRequest c s
  | .srce => srceRequest c (u8 ps 0) s
  | .prof => profRequest c (u8 ps 0) (profileRawOf ps 1) s
  | .prfr => prfrRequest c (u8 ps 0) s
  | .sigs => sigsRequest c s
  | .prst => prstRequest c (u8 ps 0) (presetRawOf ps 1) s
  | .prsr => prsrRequest c (u8 ps 0) s
  | .appl => applRequest c (u8 ps 0) s
  | .crnr => crnrRequest c s
  | .mute => muteRequest c s
  | .unmt => unmtRequest c s
  | .summ => summRequest c s
  | .nlvl => nlvlRequest c (u8 ps 0) (u8 ps 1) s
  | .conf => confRequest c (configRawOf ps) s
  | .cnfr => cnfrRequest c s
  | .rstr => rstrRequest c s

/-- The frame is a request frame. -/
def FrameSort.isRequest : FrameSort → Bool
  | .request _ => true
  | .empty => false
  | .overrun => false
  | .malformed _ => false
  | .fetch => false

/-- The frame is malformed. -/
def FrameSort.isMalformed : FrameSort → Bool
  | .malformed _ => true
  | .empty => false
  | .overrun => false
  | .request _ => false
  | .fetch => false

/-- A request frame is taken, with the parameters that follow its fifth byte (R183). -/
def requestTaken (serviceKey : Bool) (m : Meeting) (sort : FrameSort) (s : State) : State :=
  match sort with
  | .request n => reply n (handRequest n (frameClass serviceKey) m (s.link.bytes.drop 5) s)
  | .empty => s
  | .overrun => s
  | .malformed _ => s
  | .fetch => s

/-- REQUEST_FRAME_END (R180, R182, R183); the operand is the service key line at the frame's end and the minute arrival that the
request meets, which a HOLD alone reads (R117). -/
def execRequestFrameEnd (e : FrameEnd) (s : State) : Host.Outcome State Fault Refusal :=
  .next (frameEnds FrameSort.isRequest (requestTaken e.serviceKey e.meets) s)

/-- FETCH_FRAME: no request, and no further effect (R182, R187). -/
def execFetchFrame (s : State) : Host.Outcome State Fault Refusal :=
  .next (frameEnds (· == .fetch) (fun _ s => s) s)

/-- The body that answers a malformed frame: its first four bytes, with 0 in place of any not received, and MALFORMED (R186). -/
def malformedBody (bs : List Byte) : List Byte := replyBody [u8 bs 0, u8 bs 1, u8 bs 2, u8 bs 3] .malformed []

/-- A malformed frame is answered, with its notice (R186). -/
def malformedTaken (sort : FrameSort) (s : State) : State :=
  match sort with
  | .malformed m =>
    malformedNotice m.code s.link.bytes (s.setLink { s.link with decoder := some (malformedBody s.link.bytes) })
  | .empty => s
  | .overrun => s
  | .request _ => s
  | .fetch => s

/-- MALFORMED_FRAME (R182, R186). -/
def execMalformedFrame (s : State) : Host.Outcome State Fault Refusal :=
  .next (frameEnds FrameSort.isMalformed malformedTaken s)

/-- An overrun: what the frame carried is discarded, with its notice (R185). -/
def overrunTaken (s : State) : State := overrunNotice s.link.bytes s

/-- OVERRUN_FRAME (R185). -/
def execOverrunFrame (s : State) : Host.Outcome State Fault Refusal :=
  .next (frameEnds (· == .overrun) (fun _ s => overrunTaken s) s)

/-! ## Staging -/

/-- The reply held by the decoder is staged (R184). -/
def stageReply (l : Link) : Link :=
  match l.decoder with
  | some body => { l with buffer := body, readPos := 0, decoder := none }
  | none => l

/-- REPLY_STAGING: nothing is staged in the flush and in start-up (R184, R188). That the reply of a refused RSTR is staged is log
41. -/
def execReplyStaging (s : State) : Host.Outcome State Fault Refusal :=
  .next (whenRunning (fun s => s.setLink (stageReply s.link)) s)

end Sys2Proof.Machine
end

