-- ==== Sys2Proof/Machine/Panel.lean ====
section
/-! DEFINITION. The lectern panel (chapter 9): the key strobe and the taking of the latched key. A key row takes the code that
stands in the latch if it is one of its own codes, and changes nothing otherwise (log 2). -/

namespace Sys2Proof.Machine

/-! ## The strobe -/

/-- A code is strobed: latched if the latch is empty, dropped with its notice otherwise (R172, R173). -/
def keyStrobed (code : Byte) (s : State) : State :=
  match s.panel with
  | none => s.setPanel (some code)
  | some _ => droppedKeyNotice code s

/-- KEY_STROBE: outside RUNNING a strobe is not latched and raises no notice (R172). -/
def execKeyStrobe (code : Byte) (s : State) : Host.Outcome State Fault Refusal := .next (whenRunning (keyStrobed code) s)

/-! ## Taking a key -/

/-- The latched code, if it is one that the row takes. -/
def latchedCode (takes : Byte → Bool) (s : State) : Option Byte := s.panel.filter takes

/-- The port takes the latched key if the row names it, and the latch becomes empty (R172). -/
def takeKey (takes : Byte → Bool) (act : Byte → State → State) (s : State) : State :=
  match latchedCode takes s with
  | some code => (act code s).setPanel none
  | none => s

/-- A refused key changes no record and raises its notice (R174). -/
def refuseKey (code : Byte) (o : ReqOutcome) (s : State) : State := refusedKeyNotice code o s

/-- The checks of a known key in order: KEYS, then its own scope, then its own test (R174). -/
def keyChecks (code : Byte) (own : Option (Scope × Option Input)) (test : Bool) (act : State → State) (s : State) : State :=
  if s.held .panel .keys none then refuseKey code .held s
  else if own.any (fun x => s.held .panel x.1 x.2) then refuseKey code .held s
  else if test then act s else refuseKey code .state s

/-! ## The keys -/

/-- The codes of the keys (9.2). -/
def isPowerOn (code : Byte) : Bool := code == 1
def isPowerOff (code : Byte) : Bool := code == 2
def isMuteKey (code : Byte) : Bool := code == 3
def isSourceKey (code : Byte) : Bool := 4 ≤ code.toNat && code.toNat ≤ 11
def isPresetKey (code : Byte) : Bool := 12 ≤ code.toNat && code.toNat ≤ 19
def isUnknownKey (code : Byte) : Bool := code.toNat == 0 || 20 ≤ code.toNat

/-- POWER ON (R175). -/
def powerOnKey (code : Byte) (s : State) : State := keyChecks code (some (.session, none)) true startSession s

/-- POWER_ON: the latched code 1 is taken (R172, R175). -/
def execPowerOn (s : State) : Host.Outcome State Fault Refusal := .next (whenRunning (takeKey isPowerOn powerOnKey) s)

/-- The scope POWER OFF has, from the state it finds (R175). -/
def powerOffScope (s : State) : Option (Scope × Option Input) :=
  if s.sched.session then some (.session, none) else if s.activeBooking.isSome then some (.bookings, none) else none

/-- What POWER OFF does past its checks (R50, R175). -/
def powerOffAct (s : State) : State :=
  if s.sched.session then finish (endSession s)
  else match s.activeBooking with
    | some b => finish (endByRequest b s)
    | none => s

/-- POWER OFF (R175). -/
def powerOffKey (code : Byte) (s : State) : State := keyChecks code (powerOffScope s) true powerOffAct s

/-- POWER_OFF: the latched code 2 is taken (R172, R175). -/
def execPowerOff (s : State) : Host.Outcome State Fault Refusal := .next (whenRunning (takeKey isPowerOff powerOffKey) s)

/-- MUTE (R160, R176). -/
def muteToggle (code : Byte) (s : State) : State := keyChecks code none true (fun s => setMute (!s.gate.mute) s) s

/-- MUTE_KEY: the latched code 3 is taken (R172, R176). -/
def execMuteKey (s : State) : Host.Outcome State Fault Refusal := .next (whenRunning (takeKey isMuteKey muteToggle) s)

/-- The input of a SOURCE key: code - 3 (9.2). Input k is numbered k - 1 here. -/
def sourceKeyInput (code : Byte) : Input := ⟨(code.toNat - 4) % 8, Nat.mod_lt _ (by decide)⟩

/-- A selection of kind KEY with origin PANEL (R177). -/
def keySelection (i : Input) : Selection := { target := i, origin := .panel, kind := .key }

/-- SOURCE n (R177). -/
def sourceKeyTaken (code : Byte) (s : State) : State :=
  let i := sourceKeyInput code
  keyChecks code (some (.source, some i)) s.profiles[i].panelSelectable
    (makeSelection (keySelection i)) s

/-- SOURCE_KEY: a latched code 4 to 11 is taken (R172, R177). -/
def execSourceKey (s : State) : Host.Outcome State Fault Refusal :=
  .next (whenRunning (takeKey isSourceKey sourceKeyTaken) s)

/-- The preset of a PRESET key: code - 12 (9.2). -/
def presetKeyNo (code : Byte) : PresetNo := ⟨(code.toNat - 12) % 8, Nat.mod_lt _ (by decide)⟩

/-- PRESET n (R146, R177). -/
def presetKeyTaken (code : Byte) (s : State) : State :=
  keyChecks code (some (.geometry, none)) (lectureInHand s) (applyOverride (some (presetKeyNo code))) s

/-- PRESET_KEY: a latched code 12 to 19 is taken (R172, R177). -/
def execPresetKey (s : State) : Host.Outcome State Fault Refusal :=
  .next (whenRunning (takeKey isPresetKey presetKeyTaken) s)

/-- An unknown key raises its notice and changes no other state (R173). -/
def unknownKeyTaken (code : Byte) (s : State) : State := unknownKeyNotice code s

/-- UNKNOWN_KEY: a latched code 0 or 20 to 255 is taken (R172, R173). -/
def execUnknownKey (s : State) : Host.Outcome State Fault Refusal :=
  .next (whenRunning (takeKey isUnknownKey unknownKeyTaken) s)

end Sys2Proof.Machine
end

