-- ==== Sys2Proof/Machine/StoreEvents.lean ====
section
/-! DEFINITION. The meanings of the store's and the resets' events (chapter 11). -/

namespace Sys2Proof.Machine

/-- A write ends: in the flush by R201, otherwise by R199. With the writer IDLE there is no write to end (log 2). -/
def writeEndTaken (r : ReadBack) (s : State) : State :=
  match s.store.writing with
  | none => s
  | some w => if s.phase = .flush then flushWriteEnds r w s else writeEnds r w s

/-- WRITE_END (R199, R201). -/
def execWriteEnd (r : ReadBack) (s : State) : Host.Outcome State Fault Refusal := .next (writeEndTaken r s)

/-- The retry wait of a record ends, and the writer takes the oldest ready record (R199). -/
def retryWaitEnds (n : Nat) (s : State) : State :=
  if s.phase ≠ .flush ∧ n ∈ s.store.waiting then
    startWrite (s.setStore { s.store with waiting := s.store.waiting.erase n })
  else s

/-- RETRY_WAIT_END (R199; log 33). -/
def execRetryWaitEnd (record : Nat) (s : State) : Host.Outcome State Fault Refusal := .next (retryWaitEnds record s)

/-- POWER_RESET (R30, R199, R200), in every phase. -/
def execPowerReset (cutOff : Damage) (s : State) : Host.Outcome State Fault Refusal := .next (powerResetState cutOff s)

/-- RESTART_FLUSH_END: the restart begins start-up (R201). -/
def execRestartFlushEnd (failed : List (Nat × ReadBack)) (s : State) : Host.Outcome State Fault Refusal :=
  .next (if s.phase = .flush then restartState failed s else s)

/-- START_UP_END (R200). -/
def execStartUpEnd (s : State) : Host.Outcome State Fault Refusal :=
  .next (if s.phase = .startUp then endStartUp s else s)

end Sys2Proof.Machine
end

