-- ==== Sys2Proof/Machine/Timers.lean ====
section
/-! DEFINITION. The meanings of the clock's arrivals, of what runs out within a second, of the timers shorter than a second and
of the sync lines. Each is an event that acts while the part is RUNNING; one that the state does not have due changes nothing
(log 2, log 3). -/

namespace Sys2Proof.Machine

/-! ## The room clock -/

/-- The clock takes its step, in every phase (R29, R200, R201). -/
def stepClock (s : State) : State := s.setClock s.clock.step

/-- A second arrival whole: the clock's step, the second arrival, and the minute arrival where the minute rises, as an event
that follows (R29; log 3, log 4). During start-up and the flush the clock steps and hands nothing out (R200, R201). -/
def secondArrival (s : State) : State :=
  let t := whenRunning secondHanded (stepClock s)
  if s.clock.minuteRises then whenRunning minuteHanded t else t

/-- SECOND_ARRIVAL (R29). -/
def execSecondArrival (s : State) : Host.Outcome State Fault Refusal := .next (secondArrival s)

/-- A minute arrival by itself, where the next step of the clock raises the minute (R29; log 3). -/
def minuteArrival (s : State) : State :=
  if s.clock.minuteRises then whenRunning minuteHanded (stepClock s) else s

/-- MINUTE_ARRIVAL (R29, R36, R113). -/
def execMinuteArrival (s : State) : Host.Outcome State Fault Refusal := .next (minuteArrival s)

/-! ## What runs out within a second -/

/-- An event that acts while RUNNING if it is due, and then ends. -/
def dueEvent (due : State → Bool) (act : State → State) (s : State) : State :=
  whenRunning (fun s => if due s then finish (act s) else s) s

/-- The next lit second of the position brings the unstored count to 60 (R82). -/
def unstoredDue (p : Pos) (s : State) : Bool := (s.lamp p).state == .lit && 60 ≤ (s.lamp p).unstored + 1

/-- UNSTORED_LIT_SECONDS_WRAP (R82). -/
def execUnstoredLitSecondsWrap (p : Pos) (s : State) : Host.Outcome State Fault Refusal :=
  .next (dueEvent (unstoredDue p) (unstoredWraps p) s)

/-- The next lit second of the position brings the continuous count to 600 (R66). -/
def continuousDue (p : Pos) (s : State) : Bool :=
  (s.lamp p).state == .lit && (s.lamp p).continuous + 1 == Config.provedLitSeconds

/-- CONTINUOUS_LIT_600 (R66). -/
def execContinuousLit600 (p : Pos) (s : State) : Host.Outcome State Fault Refusal :=
  .next (dueEvent (continuousDue p) (continuousReaches600 p) s)

/-- The window of a STRIKING position is at its last second (R61). -/
def windowDue (p : Pos) (s : State) : Bool := (s.lamp p).state == .striking && (s.lamp p).window.any (· ≤ 1)

/-- STRIKE_WINDOW_RUNS_OUT (R63). -/
def execStrikeWindowRunsOut (p : Pos) (s : State) : Host.Outcome State Fault Refusal :=
  .next (dueEvent (windowDue p) (windowRunsOut p) s)

/-- The cooldown of a COOLING position is at its last second (R69). -/
def cooldownDue (p : Pos) (s : State) : Bool := (s.lamp p).state == .cooling && (s.lamp p).cooldown ≤ 1

/-- COOLDOWN_END (R69). -/
def execCooldownEnd (p : Pos) (s : State) : Host.Outcome State Fault Refusal :=
  .next (dueEvent (cooldownDue p) (cooldownEnds p) s)

/-- The next second brings the unattended count to its limit (R52). -/
def unattendedDue (s : State) : Bool := s.sched.session && unattendedLimit s ≤ unattendedNext s

/-- UNATTENDED_END (R52). -/
def execUnattendedEnd (s : State) : Host.Outcome State Fault Refusal := .next (dueEvent unattendedDue unattendedEnds s)

/-- The grace count is at its last second (R132). -/
def graceDue (s : State) : Bool := s.switch.state == .noSignal && s.switch.grace.any (· ≤ 1)

/-- GRACE_RUNS_OUT (R132, R133). -/
def execGraceRunsOut (s : State) : Host.Outcome State Fault Refusal := .next (dueEvent graceDue graceRanOut s)

/-! ## The switch machine's timers and the sync meter -/

/-- The take timer runs (R121). -/
def takeTimerDue (s : State) : Bool := s.switch.state == .taking && s.switch.takeTimer

/-- TAKE_TIMEOUT (R127). -/
def execTakeTimeout (s : State) : Host.Outcome State Fault Refusal := .next (dueEvent takeTimerDue takeTimesOut s)

/-- The settle timer runs (R121). -/
def settleTimerDue (s : State) : Bool := s.switch.state == .settling && s.switch.settleTimer

/-- SETTLE_TIMEOUT (R130). -/
def execSettleTimeout (s : State) : Host.Outcome State Fault Refusal := .next (dueEvent settleTimerDue settleTimesOut s)

/-- The loss timer runs (R135). -/
def lossTimerDue (s : State) : Bool := s.meter.state != .idle && s.meter.lossTimer

/-- LOSS_TIMER_RUNS_OUT (R137). -/
def execLossTimerRunsOut (s : State) : Host.Outcome State Fault Refusal := .next (dueEvent lossTimerDue lossTimesOut s)

/-- FRAME_EDGE (R135 to R137); the operand is the time of the edge on the microsecond count (log 22). -/
def execFrameEdge (time : Nat) (s : State) : Host.Outcome State Fault Refusal :=
  .next (whenRunning (fun s => finish (frameEdgeTaken time s)) s)

/-- LINE_EDGE (R135). -/
def execLineEdge (s : State) : Host.Outcome State Fault Refusal := .next (whenRunning lineEdgeTaken s)

end Sys2Proof.Machine
end

