-- ==== Sys2Proof/Machine/Dispatch.lean ====
section
/-! DEFINITION. The dispatch: one arm for each command, each one call of that command's meaning. -/

namespace Sys2Proof.Machine

def exec (i : Instr) (s : State) : Host.Outcome State Fault Refusal :=
  match i with
  | .book c g => Sys2Proof.Machine.execBook c g s
  | .rebk c g => Sys2Proof.Machine.execRebk c g s
  | .unbk c tag => Sys2Proof.Machine.execUnbk c tag s
  | .find c tag => Sys2Proof.Machine.execFind c tag s
  | .next c minute => Sys2Proof.Machine.execNext c minute s
  | .endn c tag => Sys2Proof.Machine.execEndn c tag s
  | .time c minute second => Sys2Proof.Machine.execTime c minute second s
  | .clck c => Sys2Proof.Machine.execClck c s
  | .sesn c => Sys2Proof.Machine.execSesn c s
  | .sesf c => Sys2Proof.Machine.execSesf c s
  | .lamp c => Sys2Proof.Machine.execLamp c s
  | .fitl c position serial rated => Sys2Proof.Machine.execFitl c position serial rated s
  | .reml c position => Sys2Proof.Machine.execReml c position s
  | .clrf c position => Sys2Proof.Machine.execClrf c position s
  | .hold c h => Sys2Proof.Machine.execHold c h s
  | .lift c tag => Sys2Proof.Machine.execLift c tag s
  | .hlds c => Sys2Proof.Machine.execHlds c s
  | .srce c input => Sys2Proof.Machine.execSrce c input s
  | .prof c input p => Sys2Proof.Machine.execProf c input p s
  | .prfr c input => Sys2Proof.Machine.execPrfr c input s
  | .sigs c => Sys2Proof.Machine.execSigs c s
  | .prst c number p => Sys2Proof.Machine.execPrst c number p s
  | .prsr c number => Sys2Proof.Machine.execPrsr c number s
  | .appl c number => Sys2Proof.Machine.execAppl c number s
  | .crnr c => Sys2Proof.Machine.execCrnr c s
  | .mute c => Sys2Proof.Machine.execMute c s
  | .unmt c => Sys2Proof.Machine.execUnmt c s
  | .summ c => Sys2Proof.Machine.execSumm c s
  | .nlvl c position level => Sys2Proof.Machine.execNlvl c position level s
  | .conf c r => Sys2Proof.Machine.execConf c r s
  | .cnfr c => Sys2Proof.Machine.execCnfr c s
  | .rstr c => Sys2Proof.Machine.execRstr c s
  | .restartFlushEnd failed => Sys2Proof.Machine.execRestartFlushEnd failed s
  | .keyStrobe code => Sys2Proof.Machine.execKeyStrobe code s
  | .powerOn => Sys2Proof.Machine.execPowerOn s
  | .powerOff => Sys2Proof.Machine.execPowerOff s
  | .muteKey => Sys2Proof.Machine.execMuteKey s
  | .sourceKey => Sys2Proof.Machine.execSourceKey s
  | .presetKey => Sys2Proof.Machine.execPresetKey s
  | .unknownKey => Sys2Proof.Machine.execUnknownKey s
  | .secondArrival => Sys2Proof.Machine.execSecondArrival s
  | .minuteArrival => Sys2Proof.Machine.execMinuteArrival s
  | .unstoredLitSecondsWrap p => Sys2Proof.Machine.execUnstoredLitSecondsWrap p s
  | .continuousLit600 p => Sys2Proof.Machine.execContinuousLit600 p s
  | .strikeWindowRunsOut p => Sys2Proof.Machine.execStrikeWindowRunsOut p s
  | .cooldownEnd p => Sys2Proof.Machine.execCooldownEnd p s
  | .unattendedEnd => Sys2Proof.Machine.execUnattendedEnd s
  | .graceRunsOut => Sys2Proof.Machine.execGraceRunsOut s
  | .takeTimeout => Sys2Proof.Machine.execTakeTimeout s
  | .settleTimeout => Sys2Proof.Machine.execSettleTimeout s
  | .lossTimerRunsOut => Sys2Proof.Machine.execLossTimerRunsOut s
  | .frameEdge time => Sys2Proof.Machine.execFrameEdge time s
  | .lineEdge => Sys2Proof.Machine.execLineEdge s
  | .acknowledgeTimeout => Sys2Proof.Machine.execAcknowledgeTimeout s
  | .engineAcknowledge => Sys2Proof.Machine.execEngineAcknowledge s
  | .engineInboundStrobe m => Sys2Proof.Machine.execEngineInboundStrobe m s
  | .lampSense => Sys2Proof.Machine.execLampSense s
  | .thermal => Sys2Proof.Machine.execThermal s
  | .door => Sys2Proof.Machine.execDoor s
  | .statusReport => Sys2Proof.Machine.execStatusReport s
  | .matrixInboundStrobe m => Sys2Proof.Machine.execMatrixInboundStrobe m s
  | .takeAck => Sys2Proof.Machine.execTakeAck s
  | .presence => Sys2Proof.Machine.execPresence s
  | .fireLineChange active => Sys2Proof.Machine.execFireLineChange active s
  | .frameBegin => Sys2Proof.Machine.execFrameBegin s
  | .requestFrameEnd e => Sys2Proof.Machine.execRequestFrameEnd e s
  | .fetchFrame => Sys2Proof.Machine.execFetchFrame s
  | .malformedFrame => Sys2Proof.Machine.execMalformedFrame s
  | .overrunFrame => Sys2Proof.Machine.execOverrunFrame s
  | .replyStaging => Sys2Proof.Machine.execReplyStaging s
  | .writeEnd r => Sys2Proof.Machine.execWriteEnd r s
  | .retryWaitEnd record => Sys2Proof.Machine.execRetryWaitEnd record s
  | .powerReset cutOff => Sys2Proof.Machine.execPowerReset cutOff s
  | .startUpEnd => Sys2Proof.Machine.execStartUpEnd s
  | .byteCompletion b => Sys2Proof.Machine.execByteCompletion b s

end Sys2Proof.Machine
end

