-- ==== Sys2Proof/Safety.lean ====
section
/-! DEFINITION. What the statements speak of: the properties that every step is to keep, each from a rule of the spec, and the
words in which a request's reply is stated. -/

namespace Sys2Proof.Machine

/-! ## Replies -/

/-- The state with the reply of a request held by the decoder (R183, R191), and nothing else changed. -/
def State.replied (s : State) (n : ReqName) (o : ReqOutcome) (params : List Byte) : State :=
  { s with link := { s.link with decoder := some (n.letters ++ [o.byte, byte params.length] ++ params) } }

/-- In `t` the decoder holds the reply of a request. -/
def Replied (t : State) (n : ReqName) (o : ReqOutcome) (params : List Byte) : Prop :=
  t.link.decoder = some (n.letters ++ [o.byte, byte params.length] ++ params)

/-- The command is refused with an outcome: the reply carries it with no parameters, and nothing else changes (R1, R183). -/
def Refused (i : Instr) (n : ReqName) (o : ReqOutcome) (s : State) : Prop := exec i s = .next (s.replied n o [])

/-- A record was marked dirty in the event that leads from `s` to `t` (R199): it stands in the dirty set, or the writer was IDLE
and has taken it with its content as it now stands. A write of it that was under way before does not count. -/
def MarkedDirty (n : Nat) (s t : State) : Prop :=
  n ∈ t.store.dirty ∨ (s.store.writing = none ∧ t.store.writing =
    some { number := n, record := { content := recordContent n t, check := crc8 (recordContent n t) } })

/-- The command whose row a request frame names, with the frame's class and parameters (R183, R190, R193) and the minute arrival that
it meets, which HOLD alone reads (R117). -/
def rowOf (n : ReqName) (c : Class) (m : Meeting) (ps : List Byte) : Instr :=
  match n with
  | .book => .book c (givenRawOf ps)
  | .rebk => .rebk c (givenRawOf ps)
  | .unbk => .unbk c (u16 ps 0)
  | .find => .find c (u16 ps 0)
  | .next => .next c (u32 ps 0)
  | .endn => .endn c (u16 ps 0)
  | .time => .time c (u32 ps 0) (u8 ps 4)
  | .clck => .clck c
  | .sesn => .sesn c
  | .sesf => .sesf c
  | .lamp => .lamp c
  | .fitl => .fitl c (u8 ps 0) (u32 ps 1) (u16 ps 5)
  | .reml => .reml c (u8 ps 0)
  | .clrf => .clrf c (u8 ps 0)
  | .hold => .hold c ⟨holdRawOf ps, m⟩
  | .lift => .lift c (u16 ps 0)
  | .hlds => .hlds c
  | .srce => .srce c (u8 ps 0)
  | .prof => .prof c (u8 ps 0) (profileRawOf ps 1)
  | .prfr => .prfr c (u8 ps 0)
  | .sigs => .sigs c
  | .prst => .prst c (u8 ps 0) (presetRawOf ps 1)
  | .prsr => .prsr c (u8 ps 0)
  | .appl => .appl c (u8 ps 0)
  | .crnr => .crnr c
  | .mute => .mute c
  | .unmt => .unmt c
  | .summ => .summ c
  | .nlvl => .nlvl c (u8 ps 0) (u8 ps 1)
  | .conf => .conf c (configRawOf ps)
  | .cnfr => .cnfr c
  | .rstr => .rstr c

/-! ## Words of the statements -/

/-- The scope and the target of the hold check of a request, where it is in a scope (R100, R190). -/
def requestScope (n : ReqName) (ps : List Byte) : Option (Scope × Option Input) :=
  match n with
  | .book => some (.bookings, none)
  | .rebk => some (.bookings, none)
  | .unbk => some (.bookings, none)
  | .endn => some (.bookings, none)
  | .sesn => some (.session, none)
  | .sesf => some (.session, none)
  | .srce => some (.source, inputOf (u8 ps 0))
  | .prof => some (.source, inputOf (u8 ps 0))
  | .prst => some (.geometry, none)
  | .appl => some (.geometry, none)
  | .find | .next | .time | .clck | .lamp | .fitl | .reml | .clrf | .hold | .lift | .hlds | .prfr | .sigs | .prsr | .crnr
  | .mute | .unmt | .summ | .nlvl | .conf | .cnfr | .rstr => none

/-- Some hold holds an action of the origin in the scope with the target: the scope is among its scopes, the origin among its
bound origins, and, in scope SOURCE, the target is not among its allowed inputs where it has any (R98). -/
def Held (o : Origin) (sc : Scope) (target : Option Input) (s : State) : Prop :=
  ∃ h, some h ∈ s.holds.toList ∧ h.scopes.has sc = true ∧ h.bound.has o = true
    ∧ (sc = .source → ∀ set, h.allowed = some set → ∀ i, target = some i → hasInput set i = false)

/-- What no arrival of a booking touches: phase, clock, configuration, profiles, presets, fire line, thermal report, key latch,
the model's own counter and queue, and the link but for the reply that the decoder holds. -/
def RestKept (s t : State) : Prop :=
  t.phase = s.phase ∧ t.clock = s.clock ∧ t.config = s.config ∧ t.profiles = s.profiles ∧ t.geom.presets = s.geom.presets
    ∧ t.fire = s.fire ∧ t.thermal = s.thermal ∧ t.panel = s.panel ∧ t.freeCount = s.freeCount ∧ t.pending = s.pending
    ∧ { t.link with decoder := s.link.decoder } = s.link

/-- A position may be struck (R60): it is wanted, its state is COLD, no hold with STRIKE is in the table, its wear is below its
spent limit, and the channel is not in FAULT. -/
def MayStrike (p : Pos) (s : State) : Prop :=
  (s.lamp p).wanted = true ∧ (s.lamp p).state = .cold ∧ (∀ h, some h ∈ s.holds.toList → h.scopes.strike = false)
    ∧ (s.lamp p).record.wear < (s.lamp p).record.spentLimit ∧ s.engine.state ≠ .fault

/-- The state after the superseded notice of the selection that stands in the pending slot, if one does (R124). -/
def supersededIn (s : State) : State :=
  match s.switch.pendingSel with
  | some old => raiseNotice .source 6 (noticeArg2 (inputByte old.target) old.kind.byte) s
  | none => s

/-- How a selection that passed its tests is dealt with, before its event ends (R122, R123, R124): nothing changes for the input
already SHOWN; a selection made in SHOWN for another input, in IDLE or in NO SIGNAL is taken; one made in TAKING or SETTLING goes
to the pending slot, and for the current input empties it. -/
def SelectionDealt (sel : Selection) (s t : State) : Prop :=
  (s.switch.state = .shown ∧ s.switch.current = some sel.target → t = s)
    ∧ ((s.switch.state = .shown ∧ s.switch.current ≠ some sel.target) ∨ s.switch.state = .idle ∨ s.switch.state = .noSignal →
        t = { s with
          switch := { s.switch with state := .taking, current := some sel.target, reachedBy := some sel.kind,
                                    takeInFlight := some sel.target, takeTimer := true, settleTimer := false, grace := none },
          meter := { state := .seeking, refEdge := none, tally := 0, last := none, previous := none, lossTimer := true } })
    ∧ (s.switch.state = .taking ∨ s.switch.state = .settling →
        t = { supersededIn s with
          switch := { s.switch with pendingSel := if s.switch.current = some sel.target then none else some sel } })

/-- What a selection that passed its tests leaves when its event has ended (R122): nothing changes for the input already
SHOWN. -/
def Selected (sel : Selection) (s t : State) : Prop :=
  (s.switch.state = .shown ∧ s.switch.current = some sel.target → t = s)
    ∧ (¬ (s.switch.state = .shown ∧ s.switch.current = some sel.target) → ∃ u, SelectionDealt sel s u ∧ t = finish u)

/-! ## Words of the statements: records marked and messages offered -/

/-- The dirty set after a record is marked (R199): it joins the tail, or keeps its place. -/
def dirtyWith (n : Nat) (dirty : List Nat) : List Nat := if n ∈ dirty then dirty else dirty ++ [n]

/-- The state with a record marked, and nothing else changed (R199). -/
def State.marked (s : State) (n : Nat) : State :=
  { s with store := { s.store with dirty := dirtyWith n s.store.dirty } }

/-- The state after a lamp message was offered to its slot (R162): in FAULT it is discarded, otherwise it stands in the slot. -/
def State.lampOffered (s : State) (p : Pos) (m : LampMsg) : State :=
  if s.engine.state = .fault then s
  else match p with
    | .a => { s with engine := { s.engine with lampASlot := some m } }
    | .b => { s with engine := { s.engine with lampBSlot := some m } }

/-! ## Words of the statements: what the lamp unit pursues -/

/-- The effective set of a demand as it is written (R57). -/
def EffectiveSet (d : Demand) (s : State) (eff : LampSet) : Prop :=
  (d.basis = .idle → eff = ⟨false, false⟩) ∧ (d.basis = .gap → eff = d.asked)
    ∧ (d.basis = .booking ∨ d.basis = .session →
        (d.asked = ⟨false, false⟩ → eff = ⟨false, false⟩)
        ∧ (d.plan = .dual → eff = ⟨d.asked.a && s.lampA.usable, d.asked.b && s.lampB.usable⟩)
        ∧ ∀ p, d.plan = .eco ∨ d.plan = .full → d.asked = .only p →
            ((s.lamp p).usable = true → eff = .only p)
            ∧ ((s.lamp p).usable = false → (s.lamp (otherPos p)).usable = true → eff = .only (otherPos p))
            ∧ ((s.lamp p).usable = false → (s.lamp (otherPos p)).usable = false → eff = ⟨false, false⟩))

/-- The effective set of a BOOKING or SESSION demand when a position became usable or stopped being usable (R58): a plan for one
lamp keeps the usable position it is on. -/
def EffectiveAgain (s : State) (eff : LampSet) : Prop :=
  let d := s.sched.demand
  (d.asked = ⟨false, false⟩ → eff = ⟨false, false⟩)
    ∧ (d.plan = .dual → eff = ⟨d.asked.a && s.lampA.usable, d.asked.b && s.lampB.usable⟩)
    ∧ ∀ p, d.plan = .eco ∨ d.plan = .full → d.asked = .only p →
        (∀ q, s.effective = .only q → (s.lamp q).usable = true → eff = .only q)
        ∧ ((∀ q, s.effective = .only q → (s.lamp q).usable = false) → s.effective ≠ ⟨true, true⟩ →
            ((s.lamp p).usable = true → eff = .only p)
            ∧ ((s.lamp p).usable = false → (s.lamp (otherPos p)).usable = true → eff = .only (otherPos p))
            ∧ ((s.lamp p).usable = false → (s.lamp (otherPos p)).usable = false → eff = ⟨false, false⟩))

/-- The wanted power of a position is evaluated (R59, R65): a LIT lamp at another power takes it with a POWER message, a STRIKING
one whose STRIKE waits in its slot takes it with a new STRIKE, and nothing is sent otherwise. -/
def PowerEvaluated (p : Pos) (s t : State) : Prop :=
  let l := s.lamp p
  let w := s.wantedPower p
  (l.wanted = true → l.power ≠ w → l.state = .lit → t = (s.lampOffered p (.power w)).setLamp p { l with power := w })
    ∧ (l.wanted = true → l.power ≠ w → l.state = .striking → s.engine.strikeWaits p = true →
        t = (s.lampOffered p (.strike w)).setLamp p { l with power := w })
    ∧ (l.wanted = false ∨ l.power = w ∨ (l.state ≠ .lit ∧ (l.state = .striking → s.engine.strikeWaits p = false)) → t = s)

/-- The strike test of one position (R60). -/
def StrikeTested (p : Pos) (s t : State) : Prop :=
  (MayStrike p s → t = (s.lampOffered p (.strike (s.wantedPower p))).setLamp p
      { s.lamp p with power := s.wantedPower p, state := .striking, window := none })
    ∧ (¬ MayStrike p s → t = s)

/-- A position takes its place in an effective set (R57, R64, R67): one that leaves it is doused, for 60 s if it was STRIKING and
for 120 s if it was LIT, whose record is marked. -/
def WantedSet (eff : LampSet) (p : Pos) (s t : State) : Prop :=
  let l := { s.lamp p with wanted := eff.has p }
  ((s.lamp p).wanted = true → eff.has p = false → l.state = .striking →
      t = (s.lampOffered p .douse).setLamp p { l with state := .cooling, cooldown := 60, window := none, continuous := 0 })
    ∧ ((s.lamp p).wanted = true → eff.has p = false → l.state = .lit →
      t = ((s.lampOffered p .douse).marked (lampNo p)).setLamp p
        { l with state := .cooling, cooldown := 120, window := none, continuous := 0, unstored := 0 })
    ∧ ((s.lamp p).wanted = false ∨ eff.has p = true ∨ (l.state ≠ .striking ∧ l.state ≠ .lit) → t = s.setLamp p l)

/-- The lamp unit pursues an effective set (R57): each position takes its place in it, then its wanted power, then its strike
test. That A comes before B, and so whose record is marked first where both are doused, is the model's choice (log 46). -/
def Pursued (eff : LampSet) (s t : State) : Prop :=
  ∃ u1 u2 u3 u4 u5, WantedSet eff .a s u1 ∧ WantedSet eff .b u1 u2 ∧ PowerEvaluated .a u2 u3 ∧ PowerEvaluated .b u3 u4
    ∧ StrikeTested .a u4 u5 ∧ StrikeTested .b u5 t

/-- The lamp demand record is written (R57): its effective set is pursued, and the notice degraded follows where a BOOKING or
SESSION set differs from a non-empty asked set. -/
def DemandWritten (d : Demand) (s t : State) : Prop :=
  ∃ eff u, EffectiveSet d s eff ∧ Pursued eff { s with sched := { s.sched with demand := d } } u
    ∧ t = (if (d.basis = .booking ∨ d.basis = .session) ∧ d.asked ≠ ⟨false, false⟩ ∧ eff ≠ d.asked then
        raiseNotice .lamp 8 (noticeArg eff.byte 0 0 0) u else u)

/-- A position became usable or stopped being usable (R58): under GAP and IDLE nothing is computed; otherwise a set that differs
from the one pursued is pursued, with the notice degraded where it differs from the asked lamps. -/
def UsabilityRecomputed (s t : State) : Prop :=
  (s.sched.demand.basis = .idle ∨ s.sched.demand.basis = .gap → t = s)
    ∧ (s.sched.demand.basis = .booking ∨ s.sched.demand.basis = .session →
        ∃ eff, EffectiveAgain s eff ∧ (eff = s.effective → t = s)
          ∧ (eff ≠ s.effective → ∃ u, Pursued eff s u
              ∧ t = (if eff ≠ s.sched.demand.asked then raiseNotice .lamp 8 (noticeArg eff.byte 0 0 0) u else u)))

/-- A position went out for a cause other than the demand (R43, R73): under GAP a kept lamp leaves the kept set, and the demand is
written, with basis IDLE when the set is empty; otherwise nothing changes. -/
def KeptLampExit (p : Pos) (s t : State) : Prop :=
  let d := s.sched.demand
  (d.basis = .gap → d.asked.has p = true → d.asked.has (otherPos p) = true →
      DemandWritten { d with asked := .only (otherPos p) } s t)
    ∧ (d.basis = .gap → d.asked.has p = true → d.asked.has (otherPos p) = false → DemandWritten .idle s t)
    ∧ (d.basis ≠ .gap ∨ d.asked.has p = false → t = s)

/-- The demand after the positions that burned went out (R43, R73): the kept lamps among them leave a GAP demand. -/
def GapAfterExits (exits : LampSet) (d d' : Demand) : Prop :=
  (d.basis ≠ .gap ∨ (d.asked.inter exits = ⟨false, false⟩) → d' = d)
    ∧ (d.basis = .gap → d.asked.inter exits ≠ ⟨false, false⟩ →
        (d.asked.inter exits = d.asked → d' = .idle)
        ∧ (d.asked.inter exits ≠ d.asked →
            d' = { d with asked := LampSet.mk (d.asked.a && !exits.a) (d.asked.b && !exits.b) }))

/-- Every position that is STRIKING or LIT cools for 120 s, and a LIT one's record is marked; the kept lamps among them leave a GAP
demand, and every other thing about the lamps stays (R43, R70, R71, R73). `slot p` is what the slot of such a position holds
then. Nothing but the lamps, the demand, the lamp slots and the dirty set changes. -/
def BurningCooled (slot : Pos → Option LampMsg) (s t : State) : Prop :=
  ∃ d, GapAfterExits ⟨s.lampA.burning, s.lampB.burning⟩ s.sched.demand d
    ∧ { t with lampA := s.lampA, lampB := s.lampB, engine := s.engine, store := s.store }
        = { s with sched := { s.sched with demand := d } }
    ∧ { t.engine with lampASlot := s.engine.lampASlot, lampBSlot := s.engine.lampBSlot } = s.engine
    ∧ { t.store with dirty := s.store.dirty } = s.store
    ∧ (∀ n, n ∈ t.store.dirty ↔ n ∈ s.store.dirty ∨ ∃ p, n = lampNo p ∧ (s.lamp p).state = .lit)
    ∧ ∀ p,
      let w := if d = s.sched.demand then (s.lamp p).wanted else d.asked.has p
      ((s.lamp p).state = .striking → t.lamp p = { s.lamp p with
          state := .cooling, cooldown := 120, window := none, continuous := 0, wanted := w } ∧ t.engine.lampSlot p = slot p)
      ∧ ((s.lamp p).state = .lit → t.lamp p = { s.lamp p with
          state := .cooling, cooldown := 120, window := none, continuous := 0, unstored := 0, wanted := w }
          ∧ t.engine.lampSlot p = slot p)
      ∧ ((s.lamp p).state ≠ .striking → (s.lamp p).state ≠ .lit →
          t.lamp p = { s.lamp p with wanted := w } ∧ t.engine.lampSlot p = s.engine.lampSlot p)

/-- The attempt count, which has risen, decides the state of a position that failed to strike or dropped (R63, R68): below 3 it
cools for 60 s with the notice `code`; at 3 it is FAILED and no longer usable. -/
def AttemptCounted (p : Pos) (code : Nat) (s t : State) : Prop :=
  ((s.lamp p).attempts < 3 → KeptLampExit p (raiseNotice .lamp code (noticeArg (posByte p) 0 0 0)
      (s.setLamp p { s.lamp p with state := .cooling, cooldown := 60, window := none, continuous := 0 })) t)
    ∧ (3 ≤ (s.lamp p).attempts → ∃ u, KeptLampExit p (raiseNotice .lamp 3 (noticeArg (posByte p) 0 0 0)
        (s.setLamp p { s.lamp p with state := .failed, cooldown := 0, window := none, continuous := 0 })) u
      ∧ UsabilityRecomputed u t)

/-- The engine reports the lamp of a position lit or unlit (R62, R68, R72, R81, R169). -/
def LampReported (p : Pos) (lit : Bool) (s t : State) : Prop :=
  let l := s.lamp p
  (lit = true → l.state = .striking → PowerEvaluated p (raiseNotice .lamp 1 (noticeArg (posByte p) 0 0 0)
      ((s.marked (lampNo p)).setLamp p { l with
        state := .lit, window := none, continuous := 0, unstored := 0,
        record := { l.record with wear := min 4294967295 (l.record.wear + 2880),
                                  strikes := min 65535 (l.record.strikes + 1) } })) t)
    ∧ (lit = false → l.state = .lit → AttemptCounted p 4
        ((s.marked (lampNo p)).setLamp p { l with attempts := l.attempts + 1, continuous := 0, unstored := 0 }) t)
    ∧ (lit = true → l.state ≠ .striking → l.state ≠ .lit →
        ¬ (l.state = .cooling ∧ (s.engine.lampSlot p = some .douse ∨ s.engine.inFlight = some (.lamp p .douse))) →
        t = raiseNotice .lamp 9 (noticeArg (posByte p) 0 0 0) (s.lampOffered p .douse))
    ∧ ((lit = true ∧ l.state = .lit) ∨ (lit = false ∧ l.state ≠ .lit)
        ∨ (lit = true ∧ l.state = .cooling
            ∧ (s.engine.lampSlot p = some .douse ∨ s.engine.inFlight = some (.lamp p .douse))) → t = s)

/-- A position's usability follows a change of its lamp, which was usable or not before it (R58). -/
def UsabilityFollowed (was : Bool) (p : Pos) (s t : State) : Prop :=
  ((s.lamp p).usable = was → t = s) ∧ ((s.lamp p).usable ≠ was → UsabilityRecomputed s t)

/-! ## Words of the statements: the hold table -/

/-- The engine or the fire line reports the cause of a system hold (R70, R105, R106, R108, R109, R115), before the strike test that
follows a lifting: a hold that is reported and not in its slot is placed with its notice, and the lamps that burn are doused; one
that is no longer reported is lifted with its notice; a report that agrees with the slot changes nothing. -/
def ReportActed (slot : Fin 16) (h : Hold) (report : Bool) (s t : State) : Prop :=
  (s.holds[slot] = none → report = true →
      BurningCooled (fun p => if s.engine.state = .fault then s.engine.lampSlot p else some .douse)
        (raiseNotice .hold 1 (holdNoticeArg slot.val h) { s with holds := s.holds.set slot (some h) }) t)
    ∧ (∀ old, s.holds[slot] = some old → report = false →
        t = raiseNotice .hold 2 (holdNoticeArg slot.val old) { s with holds := s.holds.set slot none })
    ∧ ((s.holds[slot] = none ↔ report = false) → t = s)

/-- The report lifts the hold of the slot. -/
def Lifts (slot : Fin 16) (report : Bool) (s : State) : Prop := s.holds[slot] ≠ none ∧ report = false

/-- A report with the strike test that follows a lifting (R109). -/
def ReportTaken (slot : Fin 16) (h : Hold) (report : Bool) (s t : State) : Prop :=
  ∃ u, ReportActed slot h report s u ∧ (Lifts slot report s → t = strikeTests u) ∧ (¬ Lifts slot report s → t = u)

/-- The thermal report is taken, and both wanted powers are evaluated (R59). -/
def ThermalTaken (x : Thermal) (s t : State) : Prop :=
  ∃ u, PowerEvaluated .a { s with thermal := x } u ∧ PowerEvaluated .b u t

/-! ## Words of the statements: the reports -/

/-- The active booking, the first that is WARMING or RUNNING (R34). -/
def ActiveBooking (b : Booking) (s : State) : Prop :=
  ∃ earlier later, s.bookings = earlier ++ b :: later ∧ b.state ≠ .pending ∧ ∀ x ∈ earlier, x.state = .pending

/-- The effective preset of an input and the code of its source: the override, else the active booking's preset, else the preset of
the input's profile (R147, R193). -/
def PresetFrom (s : State) (i : Input) (p : PresetNo) (source : Byte) : Prop :=
  (s.geom.override = some p ∧ source = 1)
    ∨ (s.geom.override = none ∧ (∃ b, ActiveBooking b s ∧ b.given.preset = some p) ∧ source = 2)
    ∨ (s.geom.override = none ∧ (∀ b, ActiveBooking b s → b.given.preset = none) ∧ p = s.profiles[i].preset ∧ source = 3)

/-- The codes of the fields of the LAMP, SIGS and CRNR reports, and of their numbers, the most significant byte first (R192, 10.6). -/
def ReportCodes : Prop :=
  (∀ n, be16 n = [byte (n / 256), byte n]) ∧ (∀ n, be32 n = [byte (n / 16777216), byte (n / 65536), byte (n / 256), byte n])
    ∧ [LampState.empty, .cold, .striking, .lit, .cooling, .failed, .spent].map LampState.byte = [0, 1, 2, 3, 4, 5, 6]
    ∧ [Thermal.normal, .warn, .over].map thermalByte = [0, 1, 2]
    ∧ [Basis.idle, .booking, .gap, .session].map Basis.byte = [0, 1, 2, 3]
    ∧ [(⟨false, false⟩ : LampSet), ⟨true, false⟩, ⟨false, true⟩, ⟨true, true⟩].map LampSet.byte = [0, 1, 2, 3]
    ∧ [SwitchState.idle, .taking, .settling, .shown, .noSignal].map SwitchState.byte = [0, 1, 2, 3, 4]
    ∧ [SelKind.request, .key, .opening, .fallback, .arrival].map SelKind.byte = [1, 2, 3, 4, 5]
    ∧ [MeterState.idle, .seeking, .locked].map MeterState.byte = [0, 1, 2]
    ∧ [Origin.panel, .control, .service, .automatic].map Origin.byte = [1, 2, 4, 8]
    ∧ [false, true].map boolByte = [0, 1]
    ∧ reachedByte none = 0 ∧ (∀ k, reachedByte (some k) = k.byte)
    ∧ optInputByte none = 0 ∧ (∀ i : Input, optInputByte (some i) = byte (i.val + 1))
    ∧ optPresetByte none = 255 ∧ (∀ p : PresetNo, optPresetByte (some p) = byte p.val)
    ∧ countByte none = 255 ∧ ∀ n, countByte (some n) = byte n

/-- The flags byte of a lamp position block, bit by bit (R77, R193). The wanted power of a wanted position is ECO where the demand's
is or where it is forced, and the two forced reasons are shown for an unwanted position too (R59; log 16). -/
def LampFlags (s : State) (p : Pos) (flags : Byte) : Prop :=
  flags.getLsbD 0 = (s.lamp p).record.fitted ∧ flags.getLsbD 1 = (s.lamp p).record.estimated
    ∧ flags.getLsbD 2 = (s.lamp p).wanted
    ∧ (flags.getLsbD 3 = true ↔ (s.lamp p).wanted = true
        ∧ (s.sched.demand.power = .eco ∨ (s.lamp p).derated = true ∨ s.thermal = .warn))
    ∧ flags.getLsbD 4 = (s.lamp p).derated ∧ (flags.getLsbD 5 = true ↔ s.thermal = .warn)
    ∧ flags.getLsbD 6 = (s.lamp p).window.isSome ∧ (flags.getLsbD 7 = true ↔ (s.lamp p).power = .eco)

/-- The 43 bytes of a lamp position block (R77, R193): the flags, the record, the machine's counts, C, and the limits and the figures
of R84 and R88, which are 0 for an unfitted position. -/
def LampBlock (s : State) (p : Pos) (block : List Byte) : Prop :=
  let l := s.lamp p
  let r := l.record
  ∃ flags, LampFlags s p flags ∧ block = [flags] ++ be32 r.serial ++ be16 r.rated ++ be32 r.wear ++ be16 r.strikes
    ++ [l.state.byte, byte l.attempts, byte l.cooldown, countByte l.window] ++ be16 l.continuous ++ be32 l.committed
    ++ (if r.fitted = true then
          be32 (r.rated * 25920) ++ be32 (r.rated * 28800) ++ be32 (r.rated * 31680) ++ be32 (r.wear / 28800)
            ++ be16 (if r.wear < r.rated * 31680 then (r.rated * 31680 - r.wear) / 28800 else 0)
            ++ be16 (min 9999 (r.wear * 1000 / (r.rated * 28800)))
        else List.replicate 20 0)

/-- The 89 bytes of the lamp report (R77, R193). -/
def LampReport (s : State) (report : List Byte) : Prop :=
  ∃ a b, LampBlock s .a a ∧ LampBlock s .b b
    ∧ report = a ++ b ++ [thermalByte s.thermal, s.sched.demand.basis.byte, (⟨s.lampA.wanted, s.lampB.wanted⟩ : LampSet).byte]

/-- The 19 bytes of the signal report (R139, R193). The line count of a last frame that is absent is any two bytes (log 17). -/
def SignalReport (s : State) (report : List Byte) : Prop :=
  ∃ pending frame : List Byte,
    report = [s.switch.state.byte, optInputByte s.switch.current, reachedByte s.switch.reachedBy] ++ pending
      ++ [optInputByte s.switch.takeInFlight, countByte s.switch.grace, s.switch.presence, s.meter.state.byte] ++ frame
      ++ be16 s.meter.tally
    ∧ (s.switch.pendingSel = none → pending = [0, 0, 0])
    ∧ (∀ x, s.switch.pendingSel = some x → pending = [byte (x.target.val + 1), x.origin.byte, x.kind.byte])
    ∧ (s.meter.last = none → ∃ x y : Byte, frame = [0, 255, 255, 255, 255, x, y])
    ∧ ∀ f, s.meter.last = some f → frame = [1] ++ be32 f.period ++ be16 f.lines

/-- The 16 bytes of four corners, TL, TR, BR, BL, each x and then y (R193). -/
def fourCorners (c : Corners) : List Byte :=
  be16 c.tl.x ++ be16 c.tl.y ++ be16 c.tr.x ++ be16 c.tr.y ++ be16 c.br.x ++ be16 c.br.y ++ be16 c.bl.x ++ be16 c.bl.y

/-- The 39 bytes of the corner report (R155, R193). The corners of a set that is absent are any 16 bytes (log 17). -/
def CornerReport (s : State) (report : List Byte) : Prop :=
  ∃ (effective wanted applied : List Byte),
    report = [optPresetByte s.geom.override] ++ effective
      ++ [boolByte s.geom.wanted.isSome, optInputByte (s.geom.wanted.map (·.input))] ++ wanted
      ++ [boolByte s.geom.applied.isSome] ++ applied ++ [optInputByte s.geom.appliedFor]
    ∧ (s.switch.current = none → effective = [255, 0])
    ∧ (∀ i, s.switch.current = some i → ∃ p source, PresetFrom s i p source ∧ effective = [byte p.val, source])
    ∧ (∀ w, s.geom.wanted = some w → wanted = fourCorners w.corners) ∧ wanted.length = 16
    ∧ (∀ c, s.geom.applied = some c → applied = fourCorners c) ∧ applied.length = 16

/-! ## Words of the statements: geometry -/

/-- A computation for an input (R151): its result is the wanted corner set, and its WARP is in its slot while the channel is not in
FAULT. -/
def ComputedFor (i : Input) (s t : State) : Prop :=
  let w : CornerSet := { corners := computeCorners s.profiles[i].aspect s.geom.presets[effectivePreset s i], input := i }
  t = { s with geom := { s.geom with wanted := some w },
               engine := if s.engine.state = .fault then s.engine else { s.engine with warpSlot := some w } }

/-- A computation for the input that one would be made for, if there is one (R152). -/
def ComputedNow (s t : State) : Prop :=
  (∀ i, geometryTarget s = some i → ComputedFor i s t) ∧ (geometryTarget s = none → t = s)

/-- A computation follows where the effective preset is no longer the one in force before the event (R147, R152). -/
def ComputedIfChanged (before : Option PresetNo) (s t : State) : Prop :=
  (effectiveNow s = before → t = s) ∧ (effectiveNow s ≠ before → ComputedNow s t)

/-! ## Words of the statements: the booking table -/

/-- The planned wear of a booking for a position as though the position were assigned (R89, R90): of a continuing lamp the gap at
ECO, of any other the lead and the strike, and the run at the plan's rate, up to 353,280. -/
def PlannedAs (lead : Nat) (bridged : Bool) (pred : Option Booking) (g : Given) (p : Pos) (n : Nat) : Prop :=
  let rate := match g.plan with | .noLight => 0 | .eco => 5 | .full => 8 | .dual => 8
  let run := (g.fin - g.start) * 60 * rate
  (g.plan = .noLight → n = 0)
    ∧ (g.plan ≠ .noLight →
        (∀ q, pred = some q → bridged = true → q.assignment.has p = true →
          n = min 353280 ((g.start - q.given.fin) * 60 * 5 + run))
        ∧ ((∀ q, pred = some q → bridged = false ∨ q.assignment.has p = false) →
          n = min 353280 (lead * 60 * rate + 2880 + run)))

/-- `y` is the booking `x` evaluated against a predecessor (R9, R10, R12, R89, R90). -/
def EvaluatedAgainst (cfg : ConfigRecord) (pred : Option Booking) (x y : Booking) : Prop :=
  (y.bridged = true ↔ ∃ p, pred = some p ∧ x.given.start - p.given.fin ≤ cfg.bridge ∧ p.given.plan ≠ .noLight
      ∧ x.given.plan ≠ .noLight)
    ∧ (x.assignment.a = true → PlannedAs cfg.lead y.bridged pred x.given .a y.plannedA)
    ∧ (x.assignment.a = false → y.plannedA = 0)
    ∧ (x.assignment.b = true → PlannedAs cfg.lead y.bridged pred x.given .b y.plannedB)
    ∧ (x.assignment.b = false → y.plannedB = 0)
    ∧ { y with bridged := x.bridged, plannedA := x.plannedA, plannedB := x.plannedB } = x

/-- The position that comes first in the candidate order (R92): the predecessor's own, where the booking is bridged from one that has
a single position; otherwise the one with the lower W + C, A when they are equal. -/
def ComesFirst (bridged : Bool) (pred : Option Booking) (wcA wcB : Nat) (x : Pos) : Prop :=
  (∀ q p, pred = some q → bridged = true → q.assignment = .only p → x = p)
    ∧ ((∀ q, pred = some q → bridged = true → ∀ p, q.assignment ≠ .only p) → x = if wcA ≤ wcB then .a else .b)

/-- A position passes the life check with a planned wear (R92, R93): it is usable, and W + C + p is at most its spent limit. -/
def LifePasses (s : State) (c planned : Nat) (p : Pos) : Prop :=
  (s.lamp p).usable = true ∧ (s.lamp p).record.wear + c + planned ≤ (s.lamp p).record.rated * 31680

/-- Of two numbers, the one of a position. -/
def ofPos (a b : Nat) : Pos → Nat
  | .a => a
  | .b => b

/-- What the life check of a booking against a table finds (R9, R19, R89, R90, R92, R93), with C of each position as given: plan NONE
passes unchecked; DUAL passes when both positions do; ECO and FULL take the first position of the candidate order that passes; and
nothing is found otherwise. -/
def LifeChecked (s : State) (table : List Booking) (cA cB : Nat) (g : Given) (r : Option Admission) : Prop :=
  let pred := predecessorAt g.start table
  ∃ (bridged : Bool) (pA pB : Nat) (first : Pos),
    (bridged = true ↔ ∃ q, pred = some q ∧ g.start - q.given.fin ≤ s.config.bridge ∧ q.given.plan ≠ .noLight
      ∧ g.plan ≠ .noLight)
    ∧ PlannedAs s.config.lead bridged pred g .a pA ∧ PlannedAs s.config.lead bridged pred g .b pB
    ∧ ComesFirst bridged pred (s.lampA.record.wear + cA) (s.lampB.record.wear + cB) first
    ∧ (g.plan = .noLight →
        r = some { assignment := ⟨false, false⟩, bridged := bridged, plannedA := 0, plannedB := 0 })
    ∧ (g.plan = .dual →
        (LifePasses s cA pA .a → LifePasses s cB pB .b →
          r = some { assignment := ⟨true, true⟩, bridged := bridged, plannedA := pA, plannedB := pB })
        ∧ (¬ (LifePasses s cA pA .a ∧ LifePasses s cB pB .b) → r = none))
    ∧ (g.plan = .eco ∨ g.plan = .full →
        let passes := fun p => LifePasses s (ofPos cA cB p) (ofPos pA pB p) p
        let takes := fun p => some (Admission.mk (.only p) bridged (if p = .a then pA else 0) (if p = .b then pB else 0))
        (passes first → r = takes first)
        ∧ (¬ passes first → passes (otherPos first) → r = takes (otherPos first))
        ∧ (¬ passes first → ¬ passes (otherPos first) → r = none))

/-- The table `bs` is the table `base` with the bookings of the tags evaluated in start order, each against the booking before it,
and every other booking as it was (R10). -/
def TableEvaluated (cfg : ConfigRecord) (tags : List Nat) (base bs : List Booking) : Prop :=
  bs.length = base.length ∧ ∀ k x y, base[k]? = some x → bs[k]? = some y →
    (x.given.tag ∈ tags → EvaluatedAgainst cfg (if k = 0 then none else bs[k - 1]?) x y) ∧ (x.given.tag ∉ tags → y = x)

/-- The table `new` is the table `old` with one booking placed in start order (R6). -/
def PlacedInOrder (b : Booking) (old new : List Booking) : Prop :=
  ∃ pre post, old = pre ++ post ∧ new = pre ++ b :: post ∧ (∀ x ∈ pre, x.given.start < b.given.start)
    ∧ ∀ x, post.head? = some x → b.given.start ≤ x.given.start

/-- The tag of a booking that may not be there, as a list. -/
def tagOf (b : Option Booking) : List Nat :=
  match b with
  | some x => [x.given.tag]
  | none => []

/-- A position is overcommitted (R15): W + C is above its spent limit, or above 0 when it is unfitted. -/
def Overcommitted (l : Lamp) : Prop :=
  (if l.record.fitted = true then l.record.rated * 31680 else 0) < l.record.wear + l.committed

/-- Whether C rose from `l` to `l'` and the position is now overcommitted (R15). -/
def RisenOver (l l' : Lamp) : Prop := l.committed < l'.committed ∧ Overcommitted l'

/-- The overcommitted test that ends an event of the table (R15): one notice names the positions whose C rose and that are
overcommitted. -/
def OvercommittedTested (s t : State) : Prop :=
  (¬ RisenOver s.lampA t.lampA → ¬ RisenOver s.lampB t.lampB → t.notices = s.notices)
    ∧ (RisenOver s.lampA t.lampA → ¬ RisenOver s.lampB t.lampB →
        t.notices = (raiseNotice .schedule 6 (noticeArg 1 0 0 0) s).notices)
    ∧ (¬ RisenOver s.lampA t.lampA → RisenOver s.lampB t.lampB →
        t.notices = (raiseNotice .schedule 6 (noticeArg 2 0 0 0) s).notices)
    ∧ (RisenOver s.lampA t.lampA → RisenOver s.lampB t.lampB →
        t.notices = (raiseNotice .schedule 6 (noticeArg 3 0 0 0) s).notices)

/-- The state with the table `bs`, the committed wear of each position moved by the change of the PENDING bookings' planned wear
(R13). -/
def State.withTable (s : State) (bs : List Booking) : State :=
  { s with
    bookings := bs
    lampA := { s.lampA with committed := s.lampA.committed + pendingWear .a bs - pendingWear .a s.bookings }
    lampB := { s.lampB with committed := s.lampB.committed + pendingWear .b bs - pendingWear .b s.bookings } }

/-- The table changes to `bs` by an admission, an amendment or a departure (R7, R13, R15): C follows, the overcommitted test is
made, the slot's record is marked if a stored field changed, and nothing else changes. -/
def TableChanged (bs : List Booking) (marked : Option Nat) (s t : State) : Prop :=
  OvercommittedTested s t
    ∧ { t with notices := s.notices } =
        (match marked with
          | some slot => (s.withTable bs).marked (slotNo slot)
          | none => s.withTable bs)

/-- A GAP demand ends where its gap booking is no longer first in the table, PENDING and bridged (R43). -/
def GapEnded (s t : State) : Prop :=
  let stands := ∃ b rest, s.bookings = b :: rest ∧ s.sched.demand.gapBooking = some b.given.tag ∧ b.state = .pending
    ∧ b.bridged = true
  (s.sched.demand.basis ≠ .gap ∨ stands → t = s) ∧ (s.sched.demand.basis = .gap → ¬ stands → DemandWritten .idle s t)

/-! ## Words of the statements: the arrivals of a booking -/

/-- The table with the booking of a tag changed. -/
def withBooking (tag : Nat) (f : Booking → Booking) (bs : List Booking) : List Booking :=
  bs.map (fun x => if x.given.tag = tag then f x else x)

/-- The demand that serves a booking (R35, R38). The power of a plan NONE, which asks for no lamp, is log 18. -/
def demandFor (b : Booking) : Demand :=
  { basis := .booking, plan := b.given.plan, asked := b.assignment,
    power := (match b.given.plan with | .full => .full | .dual => .full | .eco => .eco | .noLight => .eco), gapBooking := none }

/-- The EXAM hold of a booking (R107, table 5.3). -/
def examHoldOf (b : Booking) : Hold :=
  { kind := .exam, placer := none, tag := none, scopes := ⟨false, false, true, true, true, true, false⟩,
    bound := ⟨true, false, false, true⟩, allowed := b.given.examInputs, expiry := none, bookingTag := some b.given.tag }

/-- The opening selection of a lead arrival (R39): the opening input, or the lowest exam input of an exam booking; a held one is
dropped with its notice. -/
def OpeningMade (g : Given) (s t : State) : Prop :=
  (g.opening = none → g.exam = false ∨ g.examInputs = none ∨ g.examInputs = some 0 → t = s)
    ∧ ∀ i : Input,
      (g.opening = some i ∨ (g.opening = none ∧ g.exam = true ∧ ∃ set, g.examInputs = some set ∧ hasInput set i = true
          ∧ ∀ j, j < i → hasInput set j = false)) →
      (Held .automatic .source (some i) s → t = raiseNotice .source 5 (noticeArg (inputByte i) 3 0 0) s)
      ∧ (¬ Held .automatic .source (some i) s → SelectionDealt { target := i, origin := .automatic, kind := .opening } s t)

/-- What the session's end leaves but for the demand and geometry (R49): OFF, a count of 0, mute off and no override. -/
def sessionPutOff (s : State) : State :=
  { s with sched := { s.sched with session := false, unattended := 0 }, gate := { s.gate with mute := false },
           geom := { s.geom with override := none } }

/-- The first three steps of the lead arrival of a booking (R13, R38, R51): it is WARMING and active, its planned wear leaves C,
and a session that is ON is absorbed. -/
def warmed (b : Booking) (s : State) : State :=
  let x := s.withTable (withBooking b.given.tag (fun y => { y with state := .warming }) s.bookings)
  let y := { x with sched := { x.sched with active := some b.given.tag } }
  if s.sched.session = true then raiseNotice .schedule 4 (noticeTag b.given.tag) (sessionPutOff y) else y

/-- The lead arrival of a booking (R13, R38, R39, R51): it is WARMING, the demand is its own, its preset comes into force, and its
opening selection is made. That the computation comes before the selection is log 10. -/
def LeadArrived (before : Option PresetNo) (b : Booking) (s t : State) : Prop :=
  ∃ u w, DemandWritten (demandFor b) (warmed b s) u ∧ ComputedIfChanged before u w ∧ OpeningMade b.given w t

/-- The start arrival of a booking (R40, R107, R115): it is RUNNING, shown since start is whether the machine is SHOWN, the
started-at minute is now, and an exam booking's EXAM hold is placed. -/
def StartArrived (b : Booking) (s t : State) : Prop :=
  let x := s.withTable (withBooking b.given.tag
    (fun y => { y with state := .running, shownSinceStart := decide (s.switch.state = .shown) }) s.bookings)
  let u := { x with sched := { x.sched with startedAt := some s.clock.minute } }
  (b.given.exam = false → t = u)
    ∧ (b.given.exam = true →
        t = raiseNotice .hold 1 (noticeArg 3 255 0 0) { u with holds := s.holds.set examSlot (some (examHoldOf b)) })

/-- The kept lamps of an end arrival (R42): those in both assignments that are LIT or STRIKING. -/
def keptAt (b n : Booking) (s : State) : LampSet :=
  ⟨b.assignment.a && n.assignment.a && s.lampA.burning, b.assignment.b && n.assignment.b && s.lampB.burning⟩

/-- The demand an end arrival writes (R42, R43): basis GAP across a bridge with a kept lamp, else basis IDLE. -/
def DemandAtEnd (b : Booking) (s : State) (d : Demand) : Prop :=
  (∀ n, successorAt b.given.start s.bookings = some n → n.bridged = true → keptAt b n s ≠ ⟨false, false⟩ →
      d = { basis := .gap, plan := .noLight, asked := keptAt b n s, power := .eco, gapBooking := some n.given.tag })
    ∧ ((∀ n, successorAt b.given.start s.bookings = some n → n.bridged = false ∨ keptAt b n s = ⟨false, false⟩) → d = .idle)

/-- The EXAM hold that names a booking is lifted, with the strike test of R109 if STRIKE were among its scopes (R42, R107). -/
def ExamLifted (b : Booking) (s t : State) : Prop :=
  (∀ h, s.holds[examSlot] = some h → h.bookingTag = some b.given.tag →
      t = (if h.scopes.strike then
          strikeTests (raiseNotice .hold 2 (holdNoticeArg 3 h) { s with holds := s.holds.set examSlot none })
        else raiseNotice .hold 2 (holdNoticeArg 3 h) { s with holds := s.holds.set examSlot none }))
    ∧ ((∀ h, s.holds[examSlot] = some h → h.bookingTag ≠ some b.given.tag) → t = s)

/-- The end of an active booking, by whatever cause, but for its notice and the geometry computation (R7, R11, R42, R107): its EXAM
hold is lifted, mute and the override end, the demand is written, and it leaves the table with its slot marked. -/
def BookingRetired (b : Booking) (s t : State) : Prop :=
  ∃ (x v u : State) (d : Demand), ExamLifted b s x
    ∧ v = { x with gate := { x.gate with mute := false }, geom := { x.geom with override := none } }
    ∧ DemandAtEnd b v d ∧ DemandWritten d v u
    ∧ t = ({ u with sched := { u.sched with active := none, startedAt := none } }.withTable
        (u.bookings.filter (fun y => y.given.tag != b.given.tag))).marked (slotNo b.slot)

/-- A PENDING booking is retired as missed (R7, R13, R15, R43, R45): it leaves the table, its successor is evaluated, a GAP demand
that waited for it ends, and its notice is raised. -/
def BookingMissed (b : Booking) (s t : State) : Prop :=
  ∃ bs v u, TableEvaluated s.config (tagOf (successorAt b.given.start s.bookings))
      (s.bookings.filter (fun y => y.given.tag != b.given.tag)) bs
    ∧ TableChanged bs (some b.slot) s v ∧ GapEnded v u ∧ t = raiseNotice .schedule 3 (noticeTag b.given.tag) u

/-- The bookings that phase 2 of the schedule check retires as missed (R36). -/
def overdue (s : State) : List Booking :=
  s.bookings.filter (fun b => b.state == .pending && b.given.fin ≤ s.clock.minute)

/-- Phases 3 and 4 of the schedule check (R36, R37, R38, R40): the first booking's lead arrival if nothing is active, it is PENDING
and its lead minute has come, and the start arrival of a WARMING booking whose start has come. -/
def LeadAndStart (before : Option PresetNo) (s t : State) : Prop :=
  ∃ u, (∀ b rest, s.bookings = b :: rest → s.activeBooking = none → b.given.start - s.config.lead ≤ s.clock.minute →
          u = leadArrival before b s)
    ∧ (s.activeBooking ≠ none ∨ s.bookings = []
          ∨ (∃ b rest, s.bookings = b :: rest ∧ s.clock.minute < b.given.start - s.config.lead) →
        ComputedIfChanged before s u)
    ∧ (∀ b, u.activeBooking = some b → b.state = .warming → b.given.start ≤ u.clock.minute → t = startArrival b u)
    ∧ ((∀ b, u.activeBooking = some b → b.state ≠ .warming ∨ u.clock.minute < b.given.start) → t = u)

/-- The no-show condition of the active booking (R44). -/
def NoShow (b : Booking) (s : State) : Prop :=
  s.activeBooking = some b ∧ s.config.noShow ≠ 0 ∧ b.state = .running ∧ b.shownSinceStart = false
    ∧ ∃ m, s.sched.startedAt = some m ∧ m + s.config.noShow ≤ s.clock.minute

/-- The schedule check in its five phases (R36, R44, R45), with the effective preset that was in force before the event. While the
clock is UNSET nothing is done. -/
def ScheduleChecked (before : Option PresetNo) (s t : State) : Prop :=
  (s.clock.isSet = false → t = s)
    ∧ (s.clock.isSet = true → ∃ x z : State,
        (∀ b, s.activeBooking = some b → b.given.fin ≤ s.clock.minute → x = endArrival b s)
        ∧ ((∀ b, s.activeBooking = some b → s.clock.minute < b.given.fin) → x = s)
        ∧ LeadAndStart before ((overdue x).foldl retireMissed x) z
        ∧ (∀ b, NoShow b z → LeadAndStart (effectiveNow z) (noShowRelease b z) t)
        ∧ ((∀ b, ¬ NoShow b z) → t = z))

/-- The re-examination that ends an admission, an amendment or a removal (R21, R36): the schedule check where no booking is active
and the table holds one. -/
def Reexamined (s t : State) : Prop :=
  (s.activeBooking = none → s.bookings ≠ [] → ScheduleChecked (effectiveNow s) s t)
    ∧ (s.activeBooking ≠ none ∨ s.bookings = [] → t = s)

/-- An event that changed the table from `v` on goes on to its end (R21, R43): a GAP demand that no longer stands ends, and the
first booking is re-examined. -/
def TableEventEnded (v t : State) : Prop := ∃ u w, GapEnded v u ∧ Reexamined u w ∧ t = finish w

/-- What turning the session ON leaves (R47, R48): the session ON with an unattended count of 0 and the SESSION demand with the
plan of the configuration; with any plan no lamp is asked for when neither is usable, and otherwise with DUAL both, with ECO or FULL
the usable one with the lower W + C, A when they are equal. Nothing but what the writing of the demand and the end of the event bring changes. -/
def SessionTurnedOn (s t : State) : Prop :=
  { t with sched := s.sched, lampA := s.lampA, lampB := s.lampB, notices := s.notices, gate := s.gate, engine := s.engine,
           store := s.store, link := s.link } = s
    ∧ t.sched.active = s.sched.active ∧ t.sched.startedAt = s.sched.startedAt ∧ t.sched.session = true
    ∧ t.sched.unattended = 0 ∧ t.sched.demand.basis = .session ∧ t.sched.demand.plan = s.config.plan
    ∧ t.sched.demand.gapBooking = none
    ∧ (s.lampA.usable = false → s.lampB.usable = false → t.sched.demand.asked = ⟨false, false⟩)
    ∧ (s.config.plan = .dual → t.sched.demand.power = .full
        ∧ (s.lampA.usable = true ∨ s.lampB.usable = true → t.sched.demand.asked = ⟨true, true⟩))
    ∧ (s.config.plan = .full → t.sched.demand.power = .full) ∧ (s.config.plan = .eco → t.sched.demand.power = .eco)
    ∧ (s.config.plan = .full ∨ s.config.plan = .eco →
        (s.lampA.usable = true → s.lampB.usable = true → t.sched.demand.asked =
          if s.lampA.record.wear + s.lampA.committed ≤ s.lampB.record.wear + s.lampB.committed then ⟨true, false⟩
          else ⟨false, true⟩)
        ∧ (s.lampA.usable = true → s.lampB.usable = false → t.sched.demand.asked = ⟨true, false⟩)
        ∧ (s.lampA.usable = false → s.lampB.usable = true → t.sched.demand.asked = ⟨false, true⟩))
    ∧ ∃ u, DemandWritten t.sched.demand { s with sched := { s.sched with session := true, unattended := 0 } } u
        ∧ { t with link := s.link } = finish u

/-- What the session's end leaves, but for a notice of its cause (R49): the session OFF with a count of 0, mute off, no override,
the demand with basis IDLE, and a computation if the effective preset changed. -/
def SessionEnded (s t : State) : Prop :=
  t.sched = { s.sched with session := false, unattended := 0, demand := .idle } ∧ t.gate.mute = false
    ∧ t.geom.override = none
    ∧ ∃ u v, DemandWritten .idle (sessionPutOff s) u ∧ ComputedIfChanged (effectiveNow s) u v
        ∧ { t with link := s.link, notices := s.notices } = finish v

/-- The active booking is gone, with all that its end by request takes with it (R36, R42, R46, R50): no booking has its tag, its
slot was marked, mute is off and there is no override; and the schedule check follows its end arrival in the same event. -/
def BookingEnded (b : Booking) (s t : State) : Prop :=
  (∀ x ∈ t.bookings, x.given.tag ≠ b.given.tag) ∧ MarkedDirty (slotNo b.slot) s t ∧ t.gate.mute = false
    ∧ t.geom.override = none ∧ RestKept s t
    ∧ ∃ v, (s.clock.isSet = true → ScheduleChecked (effectiveNow s) (endArrival b s) v)
        ∧ (s.clock.isSet = false → ComputedIfChanged (effectiveNow s) (endArrival b s) v)
        ∧ { t with link := s.link } = finish v

/-! ## Words of the statements: seconds and minutes -/

/-- The strike window of a STRIKING position runs out (R63, R81). -/
def WindowRanOut (p : Pos) (s t : State) : Prop :=
  let l := s.lamp p
  AttemptCounted p 2 (((s.marked (lampNo p)).lampOffered p .douse).setLamp p { l with
    attempts := l.attempts + 1, window := none, unstored := 0,
    record := { l.record with wear := min 4294967295 (l.record.wear + 1440) } }) t

/-- The cooldown of a COOLING position ends (R58, R60, R69, R87). -/
def CooldownEnded (p : Pos) (s t : State) : Prop :=
  let l := s.lamp p
  (l.record.rated * 31680 ≤ l.record.wear → UsabilityRecomputed (raiseNotice .lamp 5 (noticeArg (posByte p) 0 0 0)
      (s.setLamp p { l with state := .spent, cooldown := 0 })) t)
    ∧ (l.record.wear < l.record.rated * 31680 → StrikeTested p (s.setLamp p { l with state := .cold, cooldown := 0 }) t)

/-- The accrual of a second arrival (R80, R82): a LIT lamp wears by 8 wu at FULL and by 5 at ECO, and its unstored lit seconds
rise, or wrap at 60 with the record marked. -/
def LitSecond (p : Pos) (s t : State) : Prop :=
  let l := s.lamp p
  let worn := { l.record with wear := min 4294967295 (l.record.wear + (match l.power with | .full => 8 | .eco => 5)) }
  (l.state ≠ .lit → t = s)
    ∧ (l.state = .lit → l.unstored + 1 < 60 → t = s.setLamp p { l with record := worn, unstored := l.unstored + 1 })
    ∧ (l.state = .lit → 60 ≤ l.unstored + 1 →
        t = (s.marked (lampNo p)).setLamp p { l with record := worn, unstored := 0 })

/-- The limit test of a second arrival (R84, R85, R86): a fitted lamp that has reached its warn limit is warned, then one that has
reached its derate limit is derated and forced to ECO, each once and with its notice. -/
def LimitTested (p : Pos) (s t : State) : Prop :=
  let l := s.lamp p
  let warns := l.warned = false ∧ l.record.rated * 25920 ≤ l.record.wear
  let derates := l.derated = false ∧ l.record.rated * 28800 ≤ l.record.wear
  (l.record.fitted = false → t = s)
    ∧ (l.record.fitted = true → ∃ u,
        (warns → u = raiseNotice .lamp 6 (noticeArg (posByte p) 0 0 0) (s.setLamp p { l with warned := true }))
        ∧ (¬ warns → u = s)
        ∧ (derates → PowerEvaluated p (raiseNotice .lamp 7 (noticeArg (posByte p) 0 0 0)
            (u.setLamp p { u.lamp p with derated := true })) t)
        ∧ (¬ derates → t = u))

/-- What a second arrival does to a position by its state (R61, R63, R66, R69): a running window and a cooldown fall by 1, and run
out at 0; the continuous lit seconds rise to 600, where the attempt count becomes 0. -/
def MachineSecond (p : Pos) (s t : State) : Prop :=
  let l := s.lamp p
  (l.state = .striking → (l.window = none → t = s)
      ∧ ∀ n, (l.window = some (n + 2) → t = s.setLamp p { l with window := some (n + 1) })
        ∧ (l.window = some n → n ≤ 1 → WindowRanOut p s t))
    ∧ (l.state = .cooling →
      (∀ n, l.cooldown = n + 2 → t = s.setLamp p { l with cooldown := n + 1 }) ∧ (l.cooldown ≤ 1 → CooldownEnded p s t))
    ∧ (l.state = .lit → (l.continuous < 599 → t = s.setLamp p { l with continuous := l.continuous + 1 })
      ∧ (l.continuous = 599 → t = s.setLamp p { l with continuous := 600, attempts := 0 })
      ∧ (600 ≤ l.continuous → t = s))
    ∧ (l.state ≠ .striking → l.state ≠ .cooling → l.state ≠ .lit → t = s)

/-- The grace count of NO SIGNAL runs out (R132, R133): a fallback that is due and not held is taken, one that is held is dropped,
and with none due the signal is lost, each with its notice. -/
def GraceRanOut (s t : State) : Prop :=
  (∀ i f, s.switch.current = some i → s.profiles[i].fallback = some f → hasInput s.switch.presence f = true →
      s.switch.reachedBy ≠ some .fallback →
      (¬ Held .automatic .source (some f) s →
        t = { raiseNotice .source 4 (noticeArg (inputByte i) (inputByte f) 0 0) s with
          switch := { s.switch with state := .taking, current := some f, reachedBy := some .fallback,
                                    takeInFlight := some f, takeTimer := true, settleTimer := false, grace := none }
          meter := { state := .seeking, refEdge := none, tally := 0, last := none, previous := none, lossTimer := true } })
      ∧ (Held .automatic .source (some f) s →
        t = { raiseNotice .source 5 (noticeArg (inputByte f) 4 0 0) s with switch := { s.switch with grace := none } }))
    ∧ ((∀ i f, s.switch.current = some i → s.profiles[i].fallback = some f →
          hasInput s.switch.presence f = false ∨ s.switch.reachedBy = some .fallback) →
        t = { raiseNotice .source 3 (noticeArg (optInputByte s.switch.current) 0 0 0) s with
          switch := { s.switch with grace := none } })

/-- A second arrival at the source unit (R132): a running grace count of NO SIGNAL falls by 1, and runs out at 0. -/
def SourceSecond (s t : State) : Prop :=
  (s.switch.state ≠ .noSignal ∨ s.switch.grace = none → t = s)
    ∧ (s.switch.state = .noSignal →
        ∀ n, (s.switch.grace = some (n + 2) → t = { s with switch := { s.switch with grace := some (n + 1) } })
          ∧ (s.switch.grace = some n → n ≤ 1 → GraceRanOut s t))

/-- A second arrival at the session (R52): the unattended count becomes 0 while SHOWN and rises by 1 otherwise, and the session ends
with its notice where it reaches its limit. -/
def SessionSecond (s t : State) : Prop :=
  let n := if s.switch.state = .shown then 0 else s.sched.unattended + 1
  (s.sched.session = false → t = s)
    ∧ (s.sched.session = true → n < s.config.unattended * 60 → t = { s with sched := { s.sched with unattended := n } })
    ∧ (s.sched.session = true → s.config.unattended * 60 ≤ n →
        ∃ u v, DemandWritten .idle (sessionPutOff s) u ∧ ComputedIfChanged (effectiveNow s) u v
          ∧ t = raiseNotice .schedule 5 0 v)

/-- A second arrival that the clock hands out (R29): the accruals, the limit tests, the lamps' states, the grace count and the
unattended count. The order of the blocks, and A before B in each, is log 4. -/
def SecondHanded (s t : State) : Prop :=
  ∃ u1 u2 u3 u4 u5 u6 u7 u8, LitSecond .a s u1 ∧ LitSecond .b u1 u2 ∧ LimitTested .a u2 u3 ∧ LimitTested .b u3 u4
    ∧ MachineSecond .a u4 u5 ∧ MachineSecond .b u5 u6 ∧ SourceSecond u6 u7 ∧ SessionSecond u7 u8 ∧ t = finish u8

/-- A requested hold whose expiry minute has come (R113). -/
def ExpiresAt (minute : Nat) (h : Hold) : Prop := h.kind = .requested ∧ ∃ e, h.expiry = some e ∧ e ≤ minute

/-- The expiries of a minute arrival (R109, R113, R115): each requested hold whose minute has come leaves its slot, the notice names
the one in the highest slot, and one strike test follows if one of them had STRIKE among its scopes. -/
def HoldsExpired (minute : Nat) (s t : State) : Prop :=
  ∃ u, { u with holds := s.holds, notices := s.notices } = s
    ∧ (∀ i : Fin 16, i.val < 4 → u.holds[i] = s.holds[i])
    ∧ (∀ i : Fin 16, 4 ≤ i.val →
        (∀ h, s.holds[i] = some h → ExpiresAt minute h → u.holds[i] = none)
        ∧ ((∀ h, s.holds[i] = some h → ¬ ExpiresAt minute h) → u.holds[i] = s.holds[i]))
    ∧ ((∀ (i : Fin 16) h, 4 ≤ i.val → s.holds[i] = some h → ¬ ExpiresAt minute h) → u.notices = s.notices)
    ∧ (∀ (i : Fin 16) h, 4 ≤ i.val → s.holds[i] = some h → ExpiresAt minute h →
        (∀ j : Fin 16, i < j → ∀ k, s.holds[j] = some k → ¬ ExpiresAt minute k) →
        u.notices = (raiseNotice .hold 3 (holdNoticeArg i.val h) s).notices)
    ∧ ((∃ (i : Fin 16) (h : Hold), 4 ≤ i.val ∧ s.holds[i] = some h ∧ ExpiresAt minute h ∧ h.scopes.strike = true) → t = strikeTests u)
    ∧ ((∀ (i : Fin 16) h, 4 ≤ i.val → s.holds[i] = some h → ExpiresAt minute h → h.scopes.strike = false) → t = u)

/-- The minute that check 5 of a HOLD uses (R29, R110, R117): now, but where the HOLD meets a minute arrival the new minute if the HOLD
is taken first, and the old one if the arrival is. Which of these it is, the command says, and a meeting that the clock's second rules
out is none (log 42). -/
def CheckedAt (m : Meeting) (k : Clock) (minute : Nat) : Prop :=
  (m = .arrivalFollows → k.second = 59 → k.minute < 2147483647 → minute = k.minute + 1)
    ∧ (m = .arrivalTaken → k.second = 0 → minute = k.minute - 1)
    ∧ (m = .apart ∨ (m = .arrivalFollows ∧ (k.second ≠ 59 ∨ 2147483647 ≤ k.minute)) ∨ (m = .arrivalTaken ∧ k.second ≠ 0) →
        minute = k.minute)

/-- A minute arrival that the clock hands out (R29, R36, R113): the schedule check, then the expiries; that order is log 4. -/
def MinuteHanded (s t : State) : Prop :=
  ∃ u v, ScheduleChecked (effectiveNow s) s u ∧ HoldsExpired s.clock.minute u v ∧ t = finish v

/-! ## Words of the statements: the switch machine -/

/-- The entry of the switch machine to SHOWN (R41, R52, R131, R152). -/
def ShownEntered (s t : State) : Prop :=
  ∀ i, s.switch.current = some i → ∃ u v : State,
    v = { raiseNotice .source 1 (noticeArg (inputByte i) (reachedByte s.switch.reachedBy) 0 0) s with
        switch := { s.switch with state := .shown, grace := none, settleTimer := false } }
    ∧ (s.geom.appliedFor = some i → u = v) ∧ (s.geom.appliedFor ≠ some i → ComputedFor i v u)
    ∧ t = { u with
        bookings := u.bookings.map (fun b => if b.state = .running then { b with shownSinceStart := true } else b)
        sched := if u.sched.session = true then { u.sched with unattended := 0 } else u.sched }

/-- The stable report of the sync meter (R125, R130, R132): in NO SIGNAL, and in SETTLING with no pending selection, the machine is
SHOWN; in SETTLING a pending selection that is not held is taken instead, and one that is held is dropped with its notice. -/
def StableReported (s t : State) : Prop :=
  (s.switch.state = .noSignal → ShownEntered s t)
    ∧ (s.switch.state = .settling → s.switch.pendingSel = none → ShownEntered s t)
    ∧ (∀ sel, s.switch.state = .settling → s.switch.pendingSel = some sel →
      ¬ Held sel.origin .source (some sel.target) s →
      t = { s with
        switch := { s.switch with pendingSel := none, state := .taking, current := some sel.target,
                                  reachedBy := some sel.kind, takeInFlight := some sel.target, takeTimer := true,
                                  settleTimer := false, grace := none }
        meter := { state := .seeking, refEdge := none, tally := 0, last := none, previous := none, lossTimer := true } })
    ∧ (∀ sel, s.switch.state = .settling → s.switch.pendingSel = some sel → Held sel.origin .source (some sel.target) s →
      ShownEntered (raiseNotice .source 5 (noticeArg (inputByte sel.target) sel.kind.byte 0 0)
        { s with switch := { s.switch with pendingSel := none } }) t)
    ∧ (s.switch.state ≠ .noSignal → s.switch.state ≠ .settling → t = s)

/-! ## Words of the statements: fields out of range -/

/-- The given fields of a booking break a range or the consistency of R17, the horizon aside. -/
def GivenOutOfRange (r : GivenRaw) : Prop :=
  r.tag = 0 ∨ r.fin.toNat < r.start.toNat + 10 ∨ r.start.toNat + 720 < r.fin.toNat ∨ 2147483647 < r.fin.toNat
    ∨ 3 < r.plan.toNat ∨ 8 < r.opening.toNat ∨ (7 < r.preset.toNat ∧ r.preset ≠ 255) ∨ 1 < r.exam.toNat
    ∨ (r.exam = 0 ∧ r.examInputs ≠ 0) ∨ (r.exam = 1 ∧ r.examInputs = 0)
    ∨ (r.exam = 1 ∧ ∃ i : Input, r.opening.toNat = i.val + 1 ∧ hasInput r.examInputs i = false)

/-- The fields of a HOLD break check 3 (R110, R192). -/
def HoldOutOfRange (r : HoldRaw) : Prop :=
  r.tag = 0 ∨ r.scopes = 0 ∨ 128 ≤ r.scopes.toNat ∨ 16 ≤ r.bound.toNat
    ∨ (4 ≤ r.scopes.toNat ∧ r.bound = 0) ∨ (r.scopes.toNat < 4 ∧ r.bound ≠ 0)
    ∨ (r.allowed ≠ 0 ∧ r.scopes.getLsbD 2 = false) ∨ (2147483647 < r.expiry.toNat ∧ r.expiry ≠ 4294967295)

/-- A label of 8 bytes: some printable characters of value 32 to 126, and then bytes of value 0 (R119). -/
def LabelFits (label : List Byte) : Prop :=
  ∃ k, label.length = 8 ∧ (∀ b ∈ label.take k, 32 ≤ b.toNat ∧ b.toNat ≤ 126) ∧ ∀ b ∈ label.drop k, b = 0

/-- The fields of a PROF for an input break check 3 (R119). -/
def ProfileOutOfRange (i : Input) (r : ProfileRaw) : Prop :=
  ¬ LabelFits r.label ∨ 3 < r.aspect.toNat ∨ 7 < r.preset.toNat ∨ 8 < r.fallback.toNat ∨ r.fallback.toNat = i.val + 1
    ∨ 1 < r.takeOnArrival.toNat ∨ 1 < r.panelSelectable.toNat

/-! ## Words of the statements: the four stages -/

/-- The fit of an aspect: its width and height, L and T, as the table of R148 gives them. -/
def fitOf : Aspect → Nat × Nat × Nat × Nat
  | .a16x10 => (1920, 1200, 0, 0)
  | .a16x9 => (1920, 1080, 0, 60)
  | .a4x3 => (1600, 1200, 160, 0)
  | .a5x4 => (1500, 1200, 210, 0)

/-- The keystone amount of an edge: round(n × |k| / 2000), half up (R2, R149). -/
def drawnIn (n : Nat) (k : Int) : Int := ((n * k.natAbs + 1000) / 2000 : Nat)

/-- The corners that the four stages give (R148 to R150): each coordinate is the fitted one, drawn in by the keystone, moved by its
trim and pulled into the raster. -/
def FourStages (a : Aspect) (p : Preset) (c : Corners) : Prop :=
  let left : Int := (fitOf a).2.2.1
  let top : Int := (fitOf a).2.2.2
  let right : Int := left + (fitOf a).1 - 1
  let bottom : Int := top + (fitOf a).2.1 - 1
  let iv := drawnIn (fitOf a).1 p.kv
  let ih := drawnIn (fitOf a).2.1 p.kh
  (c.tl.x : Int) = max 0 (min 1919 ((if 0 < p.kv then left + iv else left) + p.tlDx))
    ∧ (c.tr.x : Int) = max 0 (min 1919 ((if 0 < p.kv then right - iv else right) + p.trDx))
    ∧ (c.br.x : Int) = max 0 (min 1919 ((if p.kv < 0 then right - iv else right) + p.brDx))
    ∧ (c.bl.x : Int) = max 0 (min 1919 ((if p.kv < 0 then left + iv else left) + p.blDx))
    ∧ (c.tl.y : Int) = max 0 (min 1199 ((if p.kh < 0 then top + ih else top) + p.tlDy))
    ∧ (c.tr.y : Int) = max 0 (min 1199 ((if 0 < p.kh then top + ih else top) + p.trDy))
    ∧ (c.br.y : Int) = max 0 (min 1199 ((if 0 < p.kh then bottom - ih else bottom) + p.brDy))
    ∧ (c.bl.y : Int) = max 0 (min 1199 ((if p.kh < 0 then bottom - ih else bottom) + p.blDy))

/-! ## Words of the statements: stored records -/

/-- A stored record holds a content and agrees with its check byte (R199, R200). -/
def Stored (r : StoredRecord) (content : List Byte) : Prop := r.content = content ∧ r.check = crc8 content

/-- A configuration record is in the ranges of R198. -/
def ConfigInRange (c : ConfigRecord) : Prop :=
  1 ≤ c.lead ∧ c.lead ≤ 10 ∧ c.bridge ≤ 30 ∧ 5 ≤ c.unattended ∧ c.unattended ≤ 120
    ∧ (c.noShow = 0 ∨ (5 ≤ c.noShow ∧ c.noShow ≤ 60)) ∧ 2 ≤ c.grace ∧ c.grace ≤ 60 ∧ c.plan ≠ .noLight
    ∧ ∀ x ∈ c.levels.toList, x ≤ 3

/-- A profile of an input is in the ranges of R118: its label fits, and its fallback is another input. -/
def ProfileFits (i : Input) (p : Profile) : Prop := LabelFits p.label ∧ p.fallback ≠ some i

/-- A trim of a preset is in its range (R142). -/
def TrimInRange (v : Int) : Prop := -64 ≤ v ∧ v ≤ 63

/-- A preset is in the ranges of R142. -/
def PresetInRange (p : Preset) : Prop :=
  -300 ≤ p.kv ∧ p.kv ≤ 300 ∧ -200 ≤ p.kh ∧ p.kh ≤ 200 ∧ TrimInRange p.tlDx ∧ TrimInRange p.tlDy ∧ TrimInRange p.trDx
    ∧ TrimInRange p.trDy ∧ TrimInRange p.brDx ∧ TrimInRange p.brDy ∧ TrimInRange p.blDx ∧ TrimInRange p.blDy

/-- A lamp record is in the ranges of R55; a position with no lamp holds the cleared record. -/
def LampRecordFits (l : LampRecord) : Prop :=
  (l.fitted = true → 100 ≤ l.rated ∧ l.rated ≤ 20000 ∧ l.serial ≤ 4294967295 ∧ l.wear ≤ 4294967295 ∧ l.strikes ≤ 65535)
    ∧ (l.fitted = false → l = { fitted := false, serial := 0, rated := 0, wear := 0, strikes := 0, estimated := false })

/-- A stored booking slot holds a booking that R8 does not discard for itself: its check byte, its given fields, its owner class
and its assignment are right (R5, R7, R8; the layout is log 5). -/
def SlotHolds (r : StoredRecord) (g : Given) (owner : Class) (assignment : LampSet) : Prop :=
  Stored r (g.bytes ++ [classByte owner, assignment.byte]) ∧ g.inRange = true ∧ (owner = .control ∨ owner = .service)
    ∧ (g.plan = .noLight → assignment = ⟨false, false⟩) ∧ (g.plan = .dual → assignment = ⟨true, true⟩)
    ∧ (g.plan = .eco ∨ g.plan = .full → ∃ p, assignment = .only p)

/-- The stored configuration fails its check at the load: no configuration record in range is stored (R200). -/
def ConfigFails (records : List StoredRecord) : Prop := ∀ c, ConfigInRange c → ¬ Stored (storedAt records 0) c.bytes

/-- The stored profile of an input fails its check at the load (R200). -/
def ProfileFails (records : List StoredRecord) (i : Input) : Prop :=
  ∀ p, ProfileFits i p → ¬ Stored (storedAt records (1 + i.val)) p.bytes

/-- A stored preset fails its check at the load (R200). -/
def PresetFails (records : List StoredRecord) (n : PresetNo) : Prop :=
  ∀ p, PresetInRange p → ¬ Stored (storedAt records (9 + n.val)) p.bytes

/-- The stored lamp record of a position fails its check at the load (R200). -/
def LampFails (records : List StoredRecord) (p : Pos) : Prop :=
  ∀ l, LampRecordFits l → ¬ Stored (storedAt records (lampNo p)) l.bytes

/-- A booking slot is discarded at the load into the table `bs`: it is not empty, and no booking of the table comes from it (R8). -/
def SlotDiscarded (records : List StoredRecord) (bs : List Booking) (slot : Nat) : Prop :=
  ¬ Stored (storedAt records (19 + slot)) (List.replicate 17 0) ∧ ∀ b ∈ bs, b.slot ≠ slot

/-- A record number whose record fails at the load (R8, R199, R200). -/
def RecordFails (records : List StoredRecord) (bs : List Booking) (n : Nat) : Prop :=
  (n = 0 ∧ ConfigFails records) ∨ (∃ i, n = 1 + i.val ∧ ProfileFails records i)
    ∨ (∃ k, n = 9 + k.val ∧ PresetFails records k) ∨ (∃ p, n = lampNo p ∧ LampFails records p)
    ∨ ∃ slot, slot < 48 ∧ n = 19 + slot ∧ SlotDiscarded records bs slot

/-- What a stored record is after a write of `new` over `old` whose read-back came out so (R199, R201; what a failed write leaves
is log 7). -/
def StoredAfter (r : ReadBack) (old new x : StoredRecord) : Prop :=
  (r = .matched → x = new) ∧ (r = .kept → x = old)
    ∧ ∀ d : Damage, r = .damaged d → d.error ≠ 0 → x = { content := d.content, check := crc8 d.content ^^^ d.error }

/-- How the flush's writes of a record came out: as the first entry for it in the list says, and without one they matched
(log 24). -/
def FlushOutcome (failed : List (Nat × ReadBack)) (n : Nat) (r : ReadBack) : Prop :=
  ((∀ x ∈ failed, x.1 ≠ n) → r = .matched)
    ∧ ∀ pre x post, failed = pre ++ (n, x) :: post → (∀ y ∈ pre, y.1 ≠ n) → r = x

/-- The stored records after the flush (R201): each record of the dirty set is written once with its content as it stands, a write
that was under way is finished, each as its read-back came out, and every other record is as it was. -/
def Flushed (failed : List (Nat × ReadBack)) (s : State) (rs : List StoredRecord) : Prop :=
  rs.length = s.store.records.length ∧ ∀ n, n < rs.length → ∃ r, FlushOutcome failed n r
    ∧ (n ∈ s.store.dirty → StoredAfter r (storedAt s.store.records n)
        { content := recordContent n s, check := crc8 (recordContent n s) } (storedAt rs n))
    ∧ (n ∉ s.store.dirty → ∀ w, s.store.writing = some w → w.number = n →
        StoredAfter r (storedAt s.store.records n) w.record (storedAt rs n))
    ∧ (n ∉ s.store.dirty → (∀ w, s.store.writing = some w → w.number ≠ n) → storedAt rs n = storedAt s.store.records n)

/-! ## Words of the statements: start-up -/

/-- The store's lists and its notice after the load (R8, R199, R200): the records that failed are marked in the order of their
numbers, the writer has taken the first of them with its new content, and one STORE notice keeps the number of the last; with no
failure there is none. The place of the number in the notice is log 31. -/
def FaultsMarked (t : State) : Prop :=
  ∃ l : List Nat, l.Pairwise (· < ·) ∧ (∀ n, n ∈ l ↔ RecordFails t.store.records t.bookings n)
    ∧ (l = [] → t.store.dirty = [] ∧ t.store.writing = none
        ∧ t.notice .store = { pending := false, code := 0, arg := 0 })
    ∧ (∀ n rest, l = n :: rest → t.store.dirty = rest ∧ t.store.writing =
        some { number := n, record := { content := recordContent n t, check := crc8 (recordContent n t) } })
    ∧ ∀ pre n, l = pre ++ [n] → t.notice .store = { pending := true, code := 1, arg := noticeArg (byte n) 0 0 0 }

/-- The notices at the start of start-up, after the load (R8, R15, R194, R200): every class is reset but STORE, which names the last
record that failed if one did, and SCHEDULE, which names the overcommitted positions if there are any. -/
def NoticesAtStartUp (t : State) : Prop :=
  (∀ k : NoticeClass, k ≠ .store → k ≠ .schedule → t.notice k = { pending := false, code := 0, arg := 0 })
    ∧ FaultsMarked t
    ∧ (¬ Overcommitted t.lampA → ¬ Overcommitted t.lampB →
        t.notice .schedule = { pending := false, code := 0, arg := 0 })
    ∧ (Overcommitted t.lampA → ¬ Overcommitted t.lampB →
        t.notice .schedule = { pending := true, code := 6, arg := noticeArg 1 0 0 0 })
    ∧ (¬ Overcommitted t.lampA → Overcommitted t.lampB →
        t.notice .schedule = { pending := true, code := 6, arg := noticeArg 2 0 0 0 })
    ∧ (Overcommitted t.lampA → Overcommitted t.lampB →
        t.notice .schedule = { pending := true, code := 6, arg := noticeArg 3 0 0 0 })

/-- The estimated record that a lamp record gives whose check failed (R95), from the bytes as they were read: the serial from byte 1
on, the rated life from byte 5 on and the strikes from byte 11 on, which is log 5. -/
def EstimatedFrom (content : List Byte) (l : LampRecord) : Prop :=
  l.fitted = true ∧ l.serial = (u32 content 1).toNat ∧ l.strikes = (u16 content 11).toNat ∧ l.estimated = true
    ∧ (100 ≤ (u16 content 5).toNat → (u16 content 5).toNat ≤ 20000 → l.rated = (u16 content 5).toNat)
    ∧ ((u16 content 5).toNat < 100 ∨ 20000 < (u16 content 5).toNat → l.rated = 100) ∧ l.wear = l.rated * 28800

/-- What the configuration, the profiles, the presets and the lamp records take at the load (R55, R95, R118, R142, R198, R200): the
stored record where it passes its check, and where it fails the default, or for a lamp the estimated record. The eighth byte of a
default label is log 26. -/
def SettingsLoaded (records : List StoredRecord) (t : State) : Prop :=
  (∀ c, ConfigInRange c → Stored (storedAt records 0) c.bytes → t.config = c)
    ∧ (ConfigFails records → t.config = { lead := 3, bridge := 15, unattended := 20, noShow := 0, grace := 10, plan := .dual,
                                          levels := #v[2, 1, 1, 2, 3, 3, 3, 1, 0] })
    ∧ (∀ (i : Input) (p : Profile), ProfileFits i p → Stored (storedAt records (1 + i.val)) p.bytes → t.profiles[i] = p)
    ∧ (∀ i : Input, ProfileFails records i → t.profiles[i] =
        { label := [73, 78, 80, 85, 84, 32, byte (49 + i.val), 0], aspect := .a16x10, preset := 0, fallback := none,
          takeOnArrival := false, panelSelectable := true })
    ∧ (∀ (n : PresetNo) (p : Preset), PresetInRange p → Stored (storedAt records (9 + n.val)) p.bytes →
        t.geom.presets[n] = p)
    ∧ (∀ n : PresetNo, PresetFails records n → t.geom.presets[n] = ⟨0, 0, 0, 0, 0, 0, 0, 0, 0, 0⟩)
    ∧ (∀ p l, LampRecordFits l → Stored (storedAt records (lampNo p)) l.bytes → (t.lamp p).record = l)
    ∧ ∀ p, LampFails records p → EstimatedFrom (storedAt records (lampNo p)).content (t.lamp p).record

/-- The booking table that the rebuild makes (R8, R9, R10, R12, R13): each booking comes from its slot, in start order, no two with
one tag or overlapping; a slot that holds a booking is in the table unless one from a lower slot has its tag or overlaps it; every
booking is evaluated against the one before it; and C is the sum of the planned wear. -/
def TableRebuilt (records : List StoredRecord) (t : State) : Prop :=
  (∀ b ∈ t.bookings, b.slot < 48 ∧ SlotHolds (storedAt records (19 + b.slot)) b.given b.owner b.assignment)
    ∧ (t.bookings.map (·.slot)).Nodup
    ∧ t.bookings.Pairwise (fun b c => b.given.fin ≤ c.given.start ∧ b.given.tag ≠ c.given.tag)
    ∧ (∀ slot g owner assignment, slot < 48 → SlotHolds (storedAt records (19 + slot)) g owner assignment →
        (∃ b ∈ t.bookings, b.slot = slot)
        ∨ ∃ b ∈ t.bookings, b.slot < slot
            ∧ (b.given.tag = g.tag ∨ (g.start < b.given.fin ∧ b.given.start < g.fin)))
    ∧ (∀ k y, t.bookings[k]? = some y →
        EvaluatedAgainst t.config (if k = 0 then none else t.bookings[k - 1]?) y y)
    ∧ t.lampA.committed = ((t.bookings.filter (fun b => b.state == .pending)).map (·.plannedA)).sum
    ∧ t.lampB.committed = ((t.bookings.filter (fun b => b.state == .pending)).map (·.plannedB)).sum

/-- What the load took from the stored records, and the table rebuilt from them (R8, R200). -/
def LoadedFrom (records : List StoredRecord) (t : State) : Prop := SettingsLoaded records t ∧ TableRebuilt records t

/-- The control link at the start of start-up (R179, R188): the decoder is FREE and the reply buffer empty, and a frame in progress goes
on, with NOT READY for its status and marked as an overrun; a cut-off frame that still owes its status byte goes on owing it
(log 43). -/
def LinkRestarted (l m : Link) : Prop :=
  (l.receiving = false → m = { Link.reset with owed := l.owed })
    ∧ (l.receiving = true → m = { Link.reset with receiving := true, byteCount := l.byteCount, bytes := l.bytes, overrun := true,
                                                  status := .notReady, owed := l.owed })

/-- The values of the blocks at the start of start-up, after the load (R34, R78, R116, R121, R135, R140, R156, R161, R170, R179,
R194, R200): whatever the store held, no booking is active, no hold stands, no lamp burns, the channel is in FAULT and the notices
are those of the load. The fire line's level, the model's counter and the queue are kept. -/
def AtStartUp (s t : State) : Prop :=
  t.phase = .startUp ∧ (∀ b ∈ t.bookings, b.state = .pending ∧ b.shownSinceStart = false)
    ∧ (∀ i : Fin 16, t.holds[i] = none) ∧ t.sched = Schedule.reset ∧ t.thermal = .normal ∧ t.switch = Switch.reset
    ∧ t.meter = Meter.idle ∧ t.geom.override = none ∧ t.geom.wanted = none ∧ t.geom.applied = none
    ∧ t.geom.appliedFor = none ∧ t.gate.shutterOpen = false ∧ t.gate.mute = false ∧ t.engine = Engine.reset
    ∧ LinkRestarted s.link t.link ∧ t.panel = none ∧ t.store.waiting = [] ∧ NoticesAtStartUp t ∧ LoadedFrom t.store.records t
    ∧ (∀ p, (t.lamp p).state = (if (t.lamp p).record.fitted then .cooling else .empty)
        ∧ (t.lamp p).cooldown = (if (t.lamp p).record.fitted then 120 else 0) ∧ (t.lamp p).attempts = 0
        ∧ (t.lamp p).window = none ∧ (t.lamp p).power = .eco ∧ (t.lamp p).unstored = 0 ∧ (t.lamp p).continuous = 0
        ∧ (t.lamp p).wanted = false ∧ (t.lamp p).warned = false ∧ (t.lamp p).derated = false)
    ∧ t.fire.level = s.fire.level ∧ t.freeCount = s.freeCount ∧ t.pending = s.pending

/-! ## Words of the statements: the sync meter -/

/-- The previous and the last frame are stable (R136): both periods are 8,000 to 50,000 µs, they differ by at most 1 part in 200
of the previous, and the line counts by at most 1. -/
def StablePair (f g : Frame) : Prop :=
  8000 ≤ f.period ∧ f.period ≤ 50000 ∧ 8000 ≤ g.period ∧ g.period ≤ 50000 ∧ (f.period - g.period) * 200 ≤ f.period
    ∧ (g.period - f.period) * 200 ≤ f.period ∧ f.lines ≤ g.lines + 1 ∧ g.lines ≤ f.lines + 1

/-! ## The gate (R158) -/

/-- A lamp is LIT. -/
def LampIsLit (s : State) : Prop := s.lampA.state = .lit ∨ s.lampB.state = .lit

/-- The applied-for input is not none and equal to the current input. -/
def WarpFits (s : State) : Prop := ∃ i, s.geom.appliedFor = some i ∧ s.switch.current = some i

/-- No hold with SHUTTER among its scopes is in the table. -/
def NoShutterHold (s : State) : Prop := ∀ h, some h ∈ s.holds.toList → h.scopes.shutter = false

/-- A booking is RUNNING or the session is ON. -/
def LectureOrSession (s : State) : Prop := (∃ b ∈ s.bookings, b.state = .running) ∨ s.sched.session = true

/-- The seven conditions of the shutter (R158). -/
def ShutterConditions (s : State) : Prop :=
  LampIsLit s ∧ s.switch.state = .shown ∧ WarpFits s ∧ NoShutterHold s ∧ s.gate.mute = false ∧ LectureOrSession s
    ∧ s.engine.state ≠ .fault

/-- The shutter is OPEN exactly when the seven conditions hold (R158). -/
def GateAgrees (s : State) : Prop := s.gate.shutterOpen = true ↔ ShutterConditions s

/-! ## Committed wear (R94) -/

/-- The sum of the planned wear of the PENDING bookings. -/
def pendingSum (planned : Booking → Nat) (bs : List Booking) : Nat :=
  ((bs.filter (fun b => b.state == .pending)).map planned).sum

/-- For each lamp position, the committed wear equals the sum of the planned wear of the PENDING bookings (R94). A booking's
planned wear for a position that is not assigned to it is 0 (R90). -/
def CommittedAgrees (s : State) : Prop :=
  s.lampA.committed = pendingSum (·.plannedA) s.bookings ∧ s.lampB.committed = pendingSum (·.plannedB) s.bookings

/-! ## Corners (R150) -/

/-- A point of the raster of 1920 × 1200. -/
def Point.InRaster (p : Point) : Prop := p.x ≤ 1919 ∧ p.y ≤ 1199

/-- Four corners within the raster. -/
def Corners.InRaster (c : Corners) : Prop := c.tl.InRaster ∧ c.tr.InRaster ∧ c.br.InRaster ∧ c.bl.InRaster

/-- Every corner of every WARP message queued, in flight or delivered, and of the wanted corner set, is in the raster (R150). -/
def CornersInRaster (s : State) : Prop :=
  (∀ w, s.geom.wanted = some w → w.corners.InRaster) ∧ (∀ c, s.geom.applied = some c → c.InRaster)
    ∧ (∀ w, s.engine.warpSlot = some w → w.corners.InRaster)
    ∧ (∀ w, s.engine.inFlight = some (.warp w) → w.corners.InRaster)

/-! ## The engine channel (R161, R163) -/

/-- Every slot is empty. -/
def Engine.SlotsEmpty (e : Engine) : Prop :=
  e.shutterSlot = none ∧ e.lampASlot = none ∧ e.lampBSlot = none ∧ e.warpSlot = none

/-- In READY the acknowledge timer is stopped and nothing is in flight, and no slot waits for the arbiter; in SENDING the timer
runs and one message is in flight; in FAULT the timer is stopped, nothing is in flight and every slot is empty (R161, R163). -/
def ChannelShape (s : State) : Prop :=
  match s.engine.state with
  | .ready => s.engine.ackTimer = false ∧ s.engine.inFlight = none ∧ s.engine.SlotsEmpty
  | .sending => s.engine.ackTimer = true ∧ s.engine.inFlight ≠ none
  | .fault => s.engine.ackTimer = false ∧ s.engine.inFlight = none ∧ s.engine.SlotsEmpty

/-! ## The switch machine (R121, R124) -/

/-- The switch machine's items agree: no current input and no reached by exactly in IDLE; the take timer and the take in flight
exactly in TAKING; the settle timer exactly in SETTLING; a pending selection in TAKING and SETTLING only; the grace count in NO
SIGNAL only (R121 to R127, R132). -/
def SwitchShape (s : State) : Prop :=
  (s.switch.current = none ↔ s.switch.state = .idle) ∧ (s.switch.reachedBy = none ↔ s.switch.current = none)
    ∧ (s.switch.takeTimer = true ↔ s.switch.state = .taking) ∧ (s.switch.takeInFlight ≠ none ↔ s.switch.state = .taking)
    ∧ (s.switch.settleTimer = true ↔ s.switch.state = .settling)
    ∧ (s.switch.pendingSel ≠ none → s.switch.state = .taking ∨ s.switch.state = .settling)
    ∧ (s.switch.grace ≠ none → s.switch.state = .noSignal)

/-! ## The lamps (R56, R82, R87) -/

/-- No lamp is STRIKING while its wear is at or beyond its spent limit (R87). -/
def StrikingBelowSpent (s : State) : Prop :=
  ∀ p, (s.lamp p).state = .striking → (s.lamp p).record.wear < (s.lamp p).record.spentLimit

/-- A lamp's counts are in their ranges and agree with its state (R56, R61, R63, R66, R68, R82): EMPTY exactly while unfitted; a
strike window only in STRIKING; a cooldown count of 1 to 120 in COOLING and of 0 outside it; at most 3 attempts, and at most 2
outside FAILED; continuous lit seconds up to 600 and only in LIT; unstored lit seconds up to 59; wear and strikes at most at
their tops. -/
def Lamp.Shape (l : Lamp) : Prop :=
  (l.record.fitted = false ↔ l.state = .empty) ∧ (l.window ≠ none → l.state = .striking)
    ∧ (l.state = .cooling → 1 ≤ l.cooldown) ∧ l.cooldown ≤ 120 ∧ (l.state ≠ .cooling → l.cooldown = 0)
    ∧ l.attempts ≤ 3 ∧ (l.state ≠ .failed → l.attempts ≤ 2) ∧ l.continuous ≤ 600 ∧ (l.state ≠ .lit → l.continuous = 0)
    ∧ l.unstored ≤ 59 ∧ l.record.wear ≤ 4294967295 ∧ l.record.strikes ≤ 65535

/-- No lamp is STRIKING or LIT while a FIRE, DOOR or THERMAL hold stands, or while the channel is in FAULT (R70, R71). -/
def DarkUnderHold (s : State) : Prop :=
  s.holds[fireSlot] ≠ none ∨ s.holds[doorSlot] ≠ none ∨ s.holds[thermalSlot] ≠ none ∨ s.engine.state = .fault →
    ∀ p, (s.lamp p).state ≠ .striking ∧ (s.lamp p).state ≠ .lit

/-- Both lamps have the shape. -/
def LampShape (s : State) : Prop := s.lampA.Shape ∧ s.lampB.Shape

/-! ## The settings store (R199) -/

/-- The store has its 67 records; a record stands in the dirty set once, the records that wait for a retry are in the dirty set,
and every number in the dirty set or under way is one of the 67, 0 to 66 (R199). -/
def StoreShape (s : State) : Prop :=
  s.store.records.length = 67 ∧ s.store.dirty.Nodup ∧ s.store.waiting.Nodup ∧ (∀ n ∈ s.store.waiting, n ∈ s.store.dirty)
    ∧ (∀ n ∈ s.store.dirty, n < 67) ∧ ∀ w, s.store.writing = some w → w.number < 67

/-- The bookings occupy distinct slots, 0 to 47 (R7). -/
def SlotsDistinct (s : State) : Prop := (s.bookings.map (·.slot)).Nodup ∧ ∀ b ∈ s.bookings, b.slot < 48

/-! ## The hold table (R101, R102) -/

/-- The kind of hold that a slot is for (R102). -/
def slotKind (i : Fin 16) : HoldKind :=
  if i = 0 then .fire else if i = 1 then .door else if i = 2 then .thermal else if i = 3 then .exam else .requested

/-- Each hold stands in a slot of its kind; a REQUESTED hold has a placer of class CONTROL or SERVICE and a tag, and two of them
have different tags (R101, R102). -/
def HoldTableShape (s : State) : Prop :=
  (∀ (i : Fin 16) h, s.holds[i] = some h → h.kind = slotKind i)
    ∧ (∀ (i : Fin 16) h, s.holds[i] = some h → h.kind = .requested →
        (h.placer = some .control ∨ h.placer = some .service) ∧ ∃ t, h.tag = some t ∧ 1 ≤ t ∧ t ≤ 65535)
    ∧ (∀ (i j : Fin 16) h k, s.holds[i] = some h → s.holds[j] = some k → h.kind = .requested → k.kind = .requested →
        h.tag = k.tag → i = j)

/-- A system hold: it has no placer, no tag, no expiry, no allowed inputs and no booking (R101). -/
def systemHold (k : HoldKind) (scopes : Scopes) (bound : Origins) : Hold :=
  { kind := k, placer := none, tag := none, scopes := scopes, bound := bound, allowed := none, expiry := none,
    bookingTag := none }

/-- The FIRE, DOOR and THERMAL holds stand as the manual writes them (table 5.3; R101). -/
def SystemHolds (s : State) : Prop :=
  (∀ h, s.holds[fireSlot] = some h →
      h = systemHold .fire ⟨true, true, true, true, true, true, true⟩ ⟨true, true, false, true⟩)
    ∧ (∀ h, s.holds[doorSlot] = some h →
      h = systemHold .door ⟨true, true, false, false, false, false, false⟩ ⟨false, false, false, false⟩)
    ∧ ∀ h, s.holds[thermalSlot] = some h →
      h = systemHold .thermal ⟨true, true, false, false, false, false, false⟩ ⟨false, false, false, false⟩

/-! ## The booking table and the schedule (R3, R6, R34, R35, R50, R107) -/

/-- The bookings stand in start order and do not overlap, their spans and tags are in range, two have different tags, there are
at most 48, and none but the first is WARMING or RUNNING (R3, R6, R34). -/
def TableShape (s : State) : Prop :=
  s.bookings.Pairwise (fun b c => b.given.fin ≤ c.given.start ∧ b.given.tag ≠ c.given.tag)
    ∧ (∀ b ∈ s.bookings, b.given.inRange = true) ∧ s.bookings.length ≤ 48
    ∧ ∀ b ∈ s.bookings.tail, b.state = .pending

/-- The session and an active booking never stand together (R50). -/
def SessionAlone (s : State) : Prop := s.sched.session = true → ∀ b ∈ s.bookings, b.state = .pending

/-- The EXAM hold stands, as the hold of that booking, exactly while a RUNNING booking is an exam (R107). -/
def ExamAgrees (s : State) : Prop :=
  (∀ b ∈ s.bookings, b.state = .running → b.given.exam = true → s.holds[examSlot] = some (examHoldOf b))
    ∧ ∀ h, s.holds[examSlot] = some h →
      ∃ b ∈ s.bookings, b.state = .running ∧ b.given.exam = true ∧ h = examHoldOf b

/-- The active booking is the tag of the booking that is WARMING or RUNNING, the demand is that booking's, and the started-at
minute is present exactly while one is RUNNING (R34, R35). That it stays the tag of the first booking through an amendment is log
35. -/
def ActiveAgrees (s : State) : Prop :=
  (∀ b ∈ s.bookings, b.state ≠ .pending → s.sched.active = some b.given.tag ∧ s.sched.demand = demandFor b)
    ∧ (∀ tag, s.sched.active = some tag → ∃ b ∈ s.bookings, b.given.tag = tag ∧ b.state ≠ .pending)
    ∧ (s.sched.startedAt ≠ none ↔ ∃ b ∈ s.bookings, b.state = .running)

/-! ## The clock and the configuration (R29, R198) -/

/-- The clock and the configuration record are in their ranges (R29, R198). -/
def ClockAndConfigInRange (s : State) : Prop :=
  s.clock.minute ≤ 2147483647 ∧ s.clock.second ≤ 59 ∧ ConfigInRange s.config

/-- Every step keeps a property. -/
def KeptByStep (P : State → Prop) : Prop := ∀ s t, P s → step s = .next t → P t

end Sys2Proof.Machine
end

