-- ==== Sys2Proof/Certificates/Slice0/Obligations.lean ====
section
/-! DEFINITION. The statements for the provers. Each docstring names the rules a statement comes from, and the log entries it
rests on where it states a choice of the model. `finish` is the end of an event; `Obligations.EventEnd` says what it does. -/

open Sys2Proof Sys2Proof.Machine

/-! ## Steps and events -/

/-- A step takes the command at the front of the queue and runs it on the state with the queue's rest (00_scope, "Events and
time"); a step with an empty queue changes nothing, which is the model's choice (log 1). -/
def Obligations.StepTakesFront : Prop :=
  (∀ (c : Instr) (rest : List Instr) (s : State),
    step { s with pending := c :: rest } = exec c { s with pending := rest })
  ∧ ∀ s : State, s.pending = [] → step s = .next s

/-- At the end of an event the shutter state is OPEN exactly when the seven conditions hold, a SHUTTER message is offered if it
changed, the arbiter acts, the IDLE writer takes its next record with its content as it stands, and nothing else changes (R158,
R159, R162, R163, R199; log 13). `recordContent` gives a record's content. -/
def Obligations.EventEnd : Prop :=
  ∀ s t : State, t = finish s →
    { t with gate := s.gate, engine := s.engine, store := s.store } = s
    ∧ t.gate.mute = s.gate.mute
    ∧ (t.gate.shutterOpen = true ↔ ShutterConditions s)
    ∧ (t.gate.shutterOpen = s.gate.shutterOpen → t.engine = s.engine.arbitrate)
    ∧ (t.gate.shutterOpen ≠ s.gate.shutterOpen → s.engine.state = .fault → t.engine = s.engine)
    ∧ (t.gate.shutterOpen ≠ s.gate.shutterOpen → s.engine.state ≠ .fault →
        t.engine = Engine.arbitrate { s.engine with shutterSlot := some t.gate.shutterOpen })
    ∧ ((∃ w, s.store.writing = some w) → t.store = s.store)
    ∧ ((∀ n ∈ s.store.dirty, n ∈ s.store.waiting) → t.store = s.store)
    ∧ ∀ pre n post, s.store.writing = none → s.store.dirty = pre ++ n :: post → (∀ m ∈ pre, m ∈ s.store.waiting) →
        n ∉ s.store.waiting →
          t.store = { s.store with
            dirty := s.store.dirty.erase n,
            writing := some { number := n, record := { content := recordContent n s, check := crc8 (recordContent n s) } } }

/-- A READY channel with a slot occupied takes the first in the order SHUTTER, LAMP A, LAMP B, WARP: the message leaves its slot
and is in flight, the acknowledge timer runs and the channel is SENDING; otherwise the arbiter does nothing, and no event ends
with a READY channel and an occupied slot (R163). -/
def Obligations.ArbiterTakesFirstSlot : Prop :=
  (∀ (e : Engine) (o : Bool), e.state = .ready → e.shutterSlot = some o →
    e.arbitrate = { e with shutterSlot := none, inFlight := some (.shutter o), ackTimer := true, state := .sending })
  ∧ (∀ (e : Engine) (m : LampMsg), e.state = .ready → e.shutterSlot = none → e.lampASlot = some m →
    e.arbitrate = { e with lampASlot := none, inFlight := some (.lamp .a m), ackTimer := true, state := .sending })
  ∧ (∀ (e : Engine) (m : LampMsg), e.state = .ready → e.shutterSlot = none → e.lampASlot = none → e.lampBSlot = some m →
    e.arbitrate = { e with lampBSlot := none, inFlight := some (.lamp .b m), ackTimer := true, state := .sending })
  ∧ (∀ (e : Engine) (w : CornerSet), e.state = .ready → e.shutterSlot = none → e.lampASlot = none → e.lampBSlot = none →
    e.warpSlot = some w →
    e.arbitrate = { e with warpSlot := none, inFlight := some (.warp w), ackTimer := true, state := .sending })
  ∧ (∀ e : Engine, e.state ≠ .ready ∨ e.SlotsEmpty → e.arbitrate = e)
  ∧ ∀ s : State, (finish s).engine.state = .ready → (finish s).engine.SlotsEmpty

/-- The strike test: every position that may be struck by R60 becomes STRIKING at its wanted power, its window not running and
its STRIKE in its slot; a position that may not be struck, and everything else, stays as it was. The test of one position does so
for that one alone. -/
def Obligations.StrikeTestStrikes : Prop :=
  (∀ s t : State, t = strikeTests s →
    { t with lampA := s.lampA, lampB := s.lampB, engine := s.engine } = s
    ∧ { t.engine with lampASlot := s.engine.lampASlot, lampBSlot := s.engine.lampBSlot } = s.engine
    ∧ ∀ p : Pos,
      (MayStrike p s → t.lamp p = { s.lamp p with power := s.wantedPower p, state := .striking, window := none }
        ∧ t.engine.lampSlot p = some (.strike (s.wantedPower p)))
      ∧ (¬ MayStrike p s → t.lamp p = s.lamp p ∧ t.engine.lampSlot p = s.engine.lampSlot p))
  ∧ ∀ (p : Pos) (s : State), StrikeTested p s (strikeTest p s)

/-! ## Requests in general -/

/-- Every request that is taken while the part is RUNNING leaves the decoder holding its reply; a refusal changes nothing else
(R1, R183, R190). Outside RUNNING what a request row carries is discarded (R188; log 15). `rowOf n c m ps` is the command whose row
the request of name `n`, class `c` and parameter bytes `ps` is, with the minute arrival it meets (log 42). -/
def Obligations.EveryRequestReplies : Prop :=
  (∀ (n : ReqName) (c : Sys2Proof.Class) (m : Meeting) (ps : List Byte) (s : State), s.phase = .running →
    ∃ (t : State) (o : ReqOutcome) (params : List Byte), exec (rowOf n c m ps) s = .next t ∧ Replied t n o params
      ∧ (16 ≤ o.byte.toNat → t = s.replied n o params))
  ∧ ∀ (n : ReqName) (c : Sys2Proof.Class) (m : Meeting) (ps : List Byte) (s : State), s.phase ≠ .running → exec (rowOf n c m ps) s = .next s

/-- The class check comes first: class PANEL is refused every request but SESN, and class CONTROL is refused FITL, REML, CLRF and
RSTR (R97, R99, R190; rows of class PANEL are log 32). A request in a scope whose action is held is refused with HELD (R98,
R99, R100). -/
def Obligations.ClassAndHoldChecks : Prop :=
  (∀ (n : ReqName) (m : Meeting) (ps : List Byte) (s : State), s.phase = .running → n ≠ .sesn → Refused (rowOf n .panel m ps) n .class' s)
  ∧ (∀ (n : ReqName) (m : Meeting) (ps : List Byte) (s : State), s.phase = .running → n = .fitl ∨ n = .reml ∨ n = .clrf ∨ n = .rstr →
      Refused (rowOf n .control m ps) n .class' s)
  ∧ ∀ (n : ReqName) (c : Sys2Proof.Class) (m : Meeting) (ps : List Byte) (s : State) (sc : Scope) (target : Option Input), s.phase = .running →
      c ≠ .panel ∨ n = .sesn → requestScope n ps = some (sc, target) → Held (classOrigin c) sc target s →
      Refused (rowOf n c m ps) n .held s

/-- The readings LAMP, HLDS, CLCK and CNFR reply DONE with what stands when they are taken and change nothing (R77, R88, R114, R32,
R198); that LAMP's forced flags of an unwanted position are its derated flag and the report WARN, as for a wanted one, is log 16.
SIGS and CRNR do so too, and use up one number of the model's free values (R139, R155; log 17). The bytes of the LAMP, SIGS and CRNR
reports are those of R193, with the codes of R192. -/
def Obligations.ReadingsChangeNothing : Prop :=
  ReportCodes ∧ ∀ (c : Sys2Proof.Class) (s : State), s.phase = .running → c ≠ .panel →
    exec (.clck c) s = .next (s.replied .clck .done
      (be32 s.clock.minute ++ [byte s.clock.second, boolByte s.clock.isSet]))
    ∧ exec (.cnfr c) s = .next (s.replied .cnfr .done
      ([byte s.config.lead, byte s.config.bridge, byte s.config.unattended, byte s.config.noShow, byte s.config.grace,
        s.config.plan.byte] ++ s.config.levels.toList.map byte))
    ∧ (∃ report, exec (.lamp c) s = .next (s.replied .lamp .done report) ∧ LampReport s report)
    ∧ exec (.hlds c) s = .next (s.replied .hlds .done
      (byte (allSlots.countP (fun i => s.holds[i].isSome)) ::
        allSlots.flatMap (fun i => (s.holds[i].map (Hold.bytes i.val)).getD [])))
    ∧ (∃ report, exec (.sigs c) s = .next ({ s with freeCount := s.freeCount + 1 }.replied .sigs .done report)
        ∧ SignalReport s report)
    ∧ (∃ report, exec (.crnr c) s = .next ({ s with freeCount := s.freeCount + 1 }.replied .crnr .done report)
        ∧ CornerReport s report)

/-! ## The booking table -/

/-- FIND and NEXT, whole (R26, R27). -/
def Obligations.FindAndNext : Prop :=
  (∀ (c : Sys2Proof.Class) (tag : BitVec 16) (s : State), s.phase = .running →
    (c = .panel → Refused (.find c tag) .find .class' s)
    ∧ (c ≠ .panel → tag = 0 → Refused (.find c tag) .find .range s)
    ∧ (c ≠ .panel → tag ≠ 0 → (∀ b ∈ s.bookings, b.given.tag ≠ tag.toNat) → Refused (.find c tag) .find .missing s)
    ∧ (c ≠ .panel → tag ≠ 0 → ∀ b ∈ s.bookings, b.given.tag = tag.toNat →
        (∀ x ∈ s.bookings, x.given.tag = tag.toNat → x = b) →
        exec (.find c tag) s = .next (s.replied .find .done b.bytes)))
  ∧ ∀ (c : Sys2Proof.Class) (m : BitVec 32) (s : State), s.phase = .running →
    (c = .panel → Refused (.next c m) .next .class' s)
    ∧ (c ≠ .panel → 2147483647 < m.toNat → Refused (.next c m) .next .range s)
    ∧ (c ≠ .panel → m.toNat ≤ 2147483647 → (∀ b ∈ s.bookings, b.given.fin ≤ m.toNat) →
        exec (.next c m) s = .next (s.replied .next .missing [byte s.bookings.length]))
    ∧ (c ≠ .panel → m.toNat ≤ 2147483647 → ∀ pre b post, s.bookings = pre ++ b :: post →
        (∀ x ∈ pre, x.given.fin ≤ m.toNat) → m.toNat < b.given.fin →
        exec (.next c m) s = .next (s.replied .next .done (byte s.bookings.length :: b.bytes))
        ∧ (TableShape s → ∀ x ∈ s.bookings, m.toNat < x.given.fin → b.given.fin ≤ x.given.fin))

/-- A BOOK that passes its eight checks is admitted: the booking `b` is placed in start order, PENDING and not shown, with the
given fields carried, its owner class, the assignment, bridged flag and planned wear the life check found against its predecessor,
and the lowest-numbered free slot; its successor is evaluated against it, which may change the successor's bridged flag and
planned wear; C follows, the overcommitted test is made, and its slot is marked; no other booking is touched. A GAP demand that no
longer stands ends and the first booking is re-examined. The reply is DONE with the booking's fields as they stand after the event
(R4, R6, R7, R10, R13, R15 to R21). Each check that fails refuses the request, in their order (R16, R17, R18, R19). The life check
passes plan NONE unchecked, and else takes the first assignment, in candidate order, whose positions are usable and meet the
admission inequality: W + C + p at most the spent limit (R19, R89, R90, R92, R93). That the test of R15 compares C over the event
whole is log 12. -/
def Obligations.BookAdmits : Prop :=
  (∀ (s : State) (table : List Booking) (cA cB : Nat) (g : Given), LifeChecked s table cA cB g (lifeCheck s table cA cB g))
  ∧ (∀ r : GivenRaw, (givenOf r = none ↔ GivenOutOfRange r) ∧ ∀ g, givenOf r = some g → g.raw = r)
  ∧ (∀ (c : Sys2Proof.Class) (r : GivenRaw) (g : Given) (a : Admission) (s : State), s.phase = .running → c ≠ .panel →
    ¬ Held (classOrigin c) .bookings none s → s.clock.isSet = true → givenOf r = some g →
    s.clock.minute ≤ g.start → g.start ≤ s.clock.minute + 20160 → (∀ b ∈ s.bookings, b.given.tag ≠ g.tag) →
    (∀ b ∈ s.bookings, (b.given.fin ≤ g.start ∨ g.fin ≤ b.given.start) ∧ (b.state ≠ .pending → b.given.start < g.start)) →
    s.bookings.length < 48 → lifeCheck s s.bookings s.lampA.committed s.lampB.committed g = some a →
    ∃ (b after : Booking) (base bs : List Booking) (v t : State),
      b = { given := g, owner := if c = .service then .service else .control, assignment := a.assignment, bridged := a.bridged,
            plannedA := a.plannedA, plannedB := a.plannedB, state := .pending, shownSinceStart := false, slot := b.slot }
      ∧ EvaluatedAgainst s.config (predecessorAt g.start s.bookings) b b
      ∧ (∀ x ∈ s.bookings, x.slot ≠ b.slot) ∧ (∀ n < b.slot, ∃ x ∈ s.bookings, x.slot = n)
      ∧ PlacedInOrder b s.bookings base ∧ TableEvaluated s.config (tagOf (successorAt g.start s.bookings)) base bs
      ∧ TableChanged bs (some b.slot) s v ∧ TableEventEnded v t ∧ MarkedDirty (slotNo b.slot) s t
      ∧ after ∈ t.bookings ∧ after.given = g ∧ after.assignment = b.assignment ∧ after.slot = b.slot
      ∧ exec (.book c r) s = .next (t.replied .book .done
          ([after.assignment.byte, boolByte after.bridged] ++ be32 after.plannedA ++ be32 after.plannedB))
      ∧ RestKept s t)
  ∧ ∀ (c : Sys2Proof.Class) (r : GivenRaw) (s : State), s.phase = .running → c ≠ .panel →
    ¬ Held (classOrigin c) .bookings none s →
    (s.clock.isSet = false → Refused (.book c r) .book .clock s)
    ∧ (s.clock.isSet = true → givenOf r = none → Refused (.book c r) .book .range s)
    ∧ ∀ g, s.clock.isSet = true → givenOf r = some g →
      (g.start < s.clock.minute ∨ s.clock.minute + 20160 < g.start → Refused (.book c r) .book .range s)
      ∧ (s.clock.minute ≤ g.start → g.start ≤ s.clock.minute + 20160 →
        ((∃ b ∈ s.bookings, b.given.tag = g.tag) → Refused (.book c r) .book .duplicate s)
        ∧ ((∀ b ∈ s.bookings, b.given.tag ≠ g.tag) →
          ((∃ b ∈ s.bookings, (g.start < b.given.fin ∧ b.given.start < g.fin) ∨ (b.state ≠ .pending ∧ g.start ≤ b.given.start)) →
            Refused (.book c r) .book .overlap s)
          ∧ ((∀ b ∈ s.bookings,
                (b.given.fin ≤ g.start ∨ g.fin ≤ b.given.start) ∧ (b.state ≠ .pending → b.given.start < g.start)) →
            (48 ≤ s.bookings.length → Refused (.book c r) .book .full s)
            ∧ (s.bookings.length < 48 → lifeCheck s s.bookings s.lampA.committed s.lampB.committed g = none →
              Refused (.book c r) .book .lampLife s))))

/-- REBK of a PENDING booking that passes its checks replaces it, in start order, by the booking with the new given fields and the
assignment the life check found, its owner class and its slot kept; the amended booking, its successor before and its successor
after are evaluated, and what follows an admission follows (R10, R13, R15, R21, R23). REBK of a WARMING or RUNNING booking sets
its end, evaluates it and its successor, and marks its slot (R24; that the new end is a room minute is log 19). No other booking is
touched by either. Each check that fails refuses the request, in their order (R22, R23, R24). What the life check decides is said in
`Obligations.BookAdmits`; for an amendment C is first reduced by the old record's planned wear (R23, R92). That the overcommitted
test compares C over the amendment whole is the model's choice (log 12). -/
def Obligations.RebkAmends : Prop :=
  (∀ (c : Sys2Proof.Class) (r : GivenRaw) (g : Given) (b : Booking) (a : Admission) (s : State), s.phase = .running → c ≠ .panel →
    ¬ Held (classOrigin c) .bookings none s → s.clock.isSet = true → bookingAt g.tag s.bookings = some b →
    atLeast c b.owner = true → b.state = .pending → givenOf r = some g →
    s.clock.minute ≤ g.start → g.start ≤ s.clock.minute + 20160 →
    (∀ x ∈ removeTag g.tag s.bookings,
      (x.given.fin ≤ g.start ∨ g.fin ≤ x.given.start) ∧ (x.state ≠ .pending → x.given.start < g.start)) →
    lifeCheck s (removeTag g.tag s.bookings) (s.lampA.committed - b.plannedA) (s.lampB.committed - b.plannedB) g = some a →
    ∃ (after : Booking) (base bs : List Booking) (v t : State),
      PlacedInOrder { b with given := g, assignment := a.assignment, bridged := a.bridged, plannedA := a.plannedA,
                             plannedB := a.plannedB } (s.bookings.filter (fun x => x.given.tag != g.tag)) base
      ∧ TableEvaluated s.config (g.tag :: (tagOf (successorAt b.given.start s.bookings)
          ++ tagOf (successorAt g.start (removeTag g.tag s.bookings)))) base bs
      ∧ TableChanged bs (if g = b.given ∧ a.assignment = b.assignment then none else some b.slot) s v ∧ TableEventEnded v t
      ∧ after ∈ t.bookings ∧ after.given = g ∧ after.owner = b.owner ∧ after.assignment = a.assignment ∧ after.slot = b.slot
      ∧ (g ≠ b.given ∨ a.assignment ≠ b.assignment → MarkedDirty (slotNo b.slot) s t)
      ∧ exec (.rebk c r) s = .next (t.replied .rebk .done
          ([after.assignment.byte, boolByte after.bridged] ++ be32 after.plannedA ++ be32 after.plannedB))
      ∧ RestKept s t)
  ∧ (∀ (c : Sys2Proof.Class) (r : GivenRaw) (b : Booking) (s : State), s.phase = .running → c ≠ .panel →
    ¬ Held (classOrigin c) .bookings none s → s.clock.isSet = true → r.tag ≠ 0 → bookingAt r.tag.toNat s.bookings = some b →
    atLeast c b.owner = true → b.state ≠ .pending → { r with fin := b.given.raw.fin } = b.given.raw →
    s.clock.minute < r.fin.toNat → b.given.start + 10 ≤ r.fin.toNat → r.fin.toNat ≤ b.given.start + 720 →
    r.fin.toNat ≤ 2147483647 → (∀ n, successorAt b.given.start s.bookings = some n → r.fin.toNat ≤ n.given.start) →
    ∃ (after : Booking) (bs : List Booking) (v t : State),
      TableEvaluated s.config (b.given.tag :: tagOf (successorAt b.given.start s.bookings))
        (withBooking b.given.tag (fun x => { x with given := { x.given with fin := r.fin.toNat } }) s.bookings) bs
      ∧ TableChanged bs (some b.slot) s v ∧ t = finish v ∧ MarkedDirty (slotNo b.slot) s t
      ∧ after ∈ t.bookings ∧ after.given = { b.given with fin := r.fin.toNat } ∧ after.owner = b.owner
      ∧ after.assignment = b.assignment ∧ after.state = b.state ∧ after.shownSinceStart = b.shownSinceStart
      ∧ after.slot = b.slot
      ∧ exec (.rebk c r) s = .next (t.replied .rebk .done
          ([after.assignment.byte, boolByte after.bridged] ++ be32 after.plannedA ++ be32 after.plannedB)))
  ∧ ∀ (c : Sys2Proof.Class) (r : GivenRaw) (s : State), s.phase = .running → c ≠ .panel →
    ¬ Held (classOrigin c) .bookings none s →
    (s.clock.isSet = false → Refused (.rebk c r) .rebk .clock s)
    ∧ (s.clock.isSet = true → r.tag = 0 → Refused (.rebk c r) .rebk .range s)
    ∧ (s.clock.isSet = true → r.tag ≠ 0 → (∀ b ∈ s.bookings, b.given.tag ≠ r.tag.toNat) → Refused (.rebk c r) .rebk .missing s)
    ∧ ∀ b, s.clock.isSet = true → r.tag ≠ 0 → bookingAt r.tag.toNat s.bookings = some b →
      (atLeast c b.owner = false → Refused (.rebk c r) .rebk .class' s)
      ∧ (atLeast c b.owner = true → b.state = .pending →
        (givenOf r = none → Refused (.rebk c r) .rebk .range s)
        ∧ ∀ g, givenOf r = some g →
          (g.start < s.clock.minute ∨ s.clock.minute + 20160 < g.start → Refused (.rebk c r) .rebk .range s)
          ∧ (s.clock.minute ≤ g.start → g.start ≤ s.clock.minute + 20160 →
            ((∃ x ∈ removeTag g.tag s.bookings,
                (g.start < x.given.fin ∧ x.given.start < g.fin) ∨ (x.state ≠ .pending ∧ g.start ≤ x.given.start)) →
              Refused (.rebk c r) .rebk .overlap s)
            ∧ ((∀ x ∈ removeTag g.tag s.bookings,
                (x.given.fin ≤ g.start ∨ g.fin ≤ x.given.start) ∧ (x.state ≠ .pending → x.given.start < g.start)) →
              lifeCheck s (removeTag g.tag s.bookings) (s.lampA.committed - b.plannedA) (s.lampB.committed - b.plannedB) g
                = none →
              Refused (.rebk c r) .rebk .lampLife s)))
      ∧ (atLeast c b.owner = true → b.state ≠ .pending →
        ({ r with fin := b.given.raw.fin } ≠ b.given.raw → Refused (.rebk c r) .rebk .state s)
        ∧ ({ r with fin := b.given.raw.fin } = b.given.raw →
          (r.fin.toNat ≤ s.clock.minute ∨ r.fin.toNat < b.given.start + 10 ∨ b.given.start + 720 < r.fin.toNat
              ∨ 2147483647 < r.fin.toNat → Refused (.rebk c r) .rebk .range s)
          ∧ (s.clock.minute < r.fin.toNat → b.given.start + 10 ≤ r.fin.toNat → r.fin.toNat ≤ b.given.start + 720 →
              r.fin.toNat ≤ 2147483647 → ∀ n, successorAt b.given.start s.bookings = some n → n.given.start < r.fin.toNat →
              Refused (.rebk c r) .rebk .overlap s)))

/-- UNBK removes a PENDING booking: no booking has its tag any more, the booking that was its successor is evaluated, C follows, the
overcommitted test is made, its slot is marked, a GAP demand that no longer stands ends and the first booking is re-examined; no
other booking is touched (R7, R10, R13, R15, R25, R36, R43). ENDN takes the end arrival of an active booking, and the schedule
check follows (R36, R42, R46). Each replies DONE, and each check that fails refuses the request, in their order. That the test
compares C over the removal whole, so that a successor's rise within a net fall is not tested, is the model's choice (log 12). -/
def Obligations.UnbkAndEndn : Prop :=
  (∀ (c : Sys2Proof.Class) (tag : BitVec 16) (b : Booking) (s : State), s.phase = .running → c ≠ .panel →
    ¬ Held (classOrigin c) .bookings none s → tag ≠ 0 → bookingAt tag.toNat s.bookings = some b →
    (atLeast c b.owner = true →
      (b.state = .pending → ∃ (bs : List Booking) (v t : State), exec (.unbk c tag) s = .next (t.replied .unbk .done [])
          ∧ TableEvaluated s.config (tagOf (successorAt b.given.start s.bookings))
              (s.bookings.filter (fun x => x.given.tag != tag.toNat)) bs
          ∧ TableChanged bs (some b.slot) s v ∧ TableEventEnded v t
          ∧ (∀ x ∈ t.bookings, x.given.tag ≠ tag.toNat) ∧ MarkedDirty (slotNo b.slot) s t ∧ RestKept s t)
      ∧ (b.state ≠ .pending → Refused (.unbk c tag) .unbk .state s)
      ∧ (b.state ≠ .pending →
          ∃ t : State, exec (.endn c tag) s = .next (t.replied .endn .done []) ∧ BookingEnded b s t)
      ∧ (b.state = .pending → Refused (.endn c tag) .endn .state s))
    ∧ (atLeast c b.owner = false → Refused (.unbk c tag) .unbk .class' s ∧ Refused (.endn c tag) .endn .class' s))
  ∧ ∀ (c : Sys2Proof.Class) (tag : BitVec 16) (s : State), s.phase = .running → c ≠ .panel →
    ¬ Held (classOrigin c) .bookings none s →
    (tag = 0 → Refused (.unbk c tag) .unbk .range s ∧ Refused (.endn c tag) .endn .range s)
    ∧ (tag ≠ 0 → (∀ b ∈ s.bookings, b.given.tag ≠ tag.toNat) →
        Refused (.unbk c tag) .unbk .missing s ∧ Refused (.endn c tag) .endn .missing s)

/-! ## The schedule -/

/-- TIME sets the clock, makes the schedule check in the same event and replies DONE; a minute or a second out of range is refused
with RANGE (R31, R36). What the check does is `Obligations.BookingArrivals`. The queue of commands stays as it was: that a due second
arrival is left out by the sender, and not taken out by TIME, is the model's choice (log 28), and the phase within a second, which
R31 also sets, is not held (log 22). -/
def Obligations.TimeSetsClock : Prop :=
  ∀ (c : Sys2Proof.Class) (m : BitVec 32) (sec : Byte) (s : State), s.phase = .running → c ≠ .panel →
    (m.toNat ≤ 2147483647 → sec.toNat ≤ 59 → ∃ v : State, ScheduleChecked (effectiveNow s)
        { s with clock := { minute := m.toNat, second := sec.toNat, isSet := true } } v
      ∧ exec (.time c m sec) s = .next ((finish v).replied .time .done [])
      ∧ v.clock = { minute := m.toNat, second := sec.toNat, isSet := true } ∧ RestKept s { v with clock := s.clock })
    ∧ (2147483647 < m.toNat ∨ 59 < sec.toNat → Refused (.time c m sec) .time .range s)

/-- What the schedule check does, and the arrivals it takes (R13, R36 to R45, R51, R107): the end arrival of an active booking whose
end has come; each overdue PENDING booking retired as missed, in start order; the lead arrival and the start arrival that are due;
and the no-show release, with the lead and the start once more. Four things in it are the model's choices: the computation comes
before the opening selection, and the release compares with the preset before itself (log 10); each missed booking's overcommitted
test compares C over its departure whole (log 12); a demand of plan NONE carries the power ECO (log 18); and a GAP demand that its
lead arrival replaces in the same check is pursued in its turn (log 44). -/
def Obligations.BookingArrivals : Prop :=
  (∀ (before : Option PresetNo) (s : State), ScheduleChecked before s (scheduleCheckFrom before s))
  ∧ (∀ (before : Option PresetNo) (b : Booking) (s : State), LeadArrived before b s (leadArrival before b s))
  ∧ (∀ (b : Booking) (s : State), StartArrived b s (startArrival b s))
  ∧ (∀ (b : Booking) (s : State), ∃ u, BookingRetired b s u
      ∧ endArrival b s = raiseNotice .schedule 1 (noticeTag b.given.tag) u
      ∧ noShowRelease b s = raiseNotice .schedule 2 (noticeTag b.given.tag) u)
  ∧ ∀ (b : Booking) (s : State), BookingMissed b s (retireMissed s b)

/-- SESN, which any class may send, turns the session ON when it is OFF and no booking is active, and otherwise replies DONE and
changes nothing (R47, R48); SESF ends a session that is ON, and otherwise replies DONE and changes nothing (R49, R50). -/
def Obligations.SessionRequests : Prop :=
  (∀ (c : Sys2Proof.Class) (s : State), s.phase = .running → ¬ Held (classOrigin c) .session none s →
    (s.sched.session = false → (∀ b ∈ s.bookings, b.state = .pending) →
      ∃ t : State, exec (.sesn c) s = .next (t.replied .sesn .done []) ∧ SessionTurnedOn s t)
    ∧ (s.sched.session = true ∨ (∃ b ∈ s.bookings, b.state ≠ .pending) →
        exec (.sesn c) s = .next (s.replied .sesn .done [])))
  ∧ ∀ (c : Sys2Proof.Class) (s : State), s.phase = .running → c ≠ .panel → ¬ Held (classOrigin c) .session none s →
    (s.sched.session = true → ∃ t : State, exec (.sesf c) s = .next (t.replied .sesf .done []) ∧ SessionEnded s t
      ∧ t.notices = s.notices)
    ∧ (s.sched.session = false → exec (.sesf c) s = .next (s.replied .sesf .done []))

/-! ## Lamp service -/

/-- FITL puts a new lamp with no wear in a position while a DOOR hold stands, REML takes a lamp out and CLRF clears a failure; the
strike test, the usability and the wanted power follow, the record of FITL and of REML is marked, and each replies DONE with its
notice (R55, R58, R59, R60, R74, R75, R76, R85). Each check that fails refuses the request, in their order. -/
def Obligations.LampService : Prop :=
  (∀ (b : Byte) (p : Pos) (s : State), s.phase = .running → posOf b = some p →
    (∀ (serial : BitVec 32) (rated : BitVec 16), 100 ≤ rated.toNat → rated.toNat ≤ 20000 → s.holds[doorSlot] ≠ none →
      (s.lamp p).state = .empty ∨ (s.lamp p).state = .cold ∨ (s.lamp p).state = .failed ∨ (s.lamp p).state = .spent →
      ∃ x y z : State, StrikeTested p (raiseNotice .lamp 10 (noticeArg (posByte p) 0 0 0)
          ((s.marked (lampNo p)).setLamp p { s.lamp p with
            record := { fitted := true, serial := serial.toNat, rated := rated.toNat, wear := 0, strikes := 0,
                        estimated := false },
            state := .cold, attempts := 0, cooldown := 0, window := none, continuous := 0, unstored := 0, warned := false,
            derated := false })) x
        ∧ UsabilityFollowed (s.lamp p).usable p x y ∧ PowerEvaluated p y z
        ∧ exec (.fitl .service b serial rated) s = .next ((finish z).replied .fitl .done [])
        ∧ MarkedDirty (lampNo p) s (finish z))
    ∧ (s.holds[doorSlot] ≠ none →
      (s.lamp p).state = .cold ∨ (s.lamp p).state = .failed ∨ (s.lamp p).state = .spent →
      ∃ x : State, UsabilityFollowed (s.lamp p).usable p (raiseNotice .lamp 11 (noticeArg (posByte p) 0 0 0)
          ((s.marked (lampNo p)).setLamp p { s.lamp p with
            record := { fitted := false, serial := 0, rated := 0, wear := 0, strikes := 0, estimated := false },
            state := .empty, attempts := 0, cooldown := 0, unstored := 0, warned := false, derated := false })) x
        ∧ exec (.reml .service b) s = .next ((finish x).replied .reml .done []) ∧ MarkedDirty (lampNo p) s (finish x))
    ∧ ((s.lamp p).state = .failed →
      ∃ x y : State,
        ((s.lamp p).record.rated * 31680 ≤ (s.lamp p).record.wear →
          x = s.setLamp p { s.lamp p with attempts := 0, state := .spent })
        ∧ ((s.lamp p).record.wear < (s.lamp p).record.rated * 31680 →
          StrikeTested p (s.setLamp p { s.lamp p with attempts := 0, state := .cold, cooldown := 0 }) x)
        ∧ UsabilityFollowed (s.lamp p).usable p (raiseNotice .lamp 12 (noticeArg (posByte p) 0 0 0) x) y
        ∧ exec (.clrf .service b) s = .next ((finish y).replied .clrf .done [])))
  ∧ ∀ (b : Byte) (serial : BitVec 32) (rated : BitVec 16) (s : State), s.phase = .running →
    (posOf b = none → Refused (.fitl .service b serial rated) .fitl .range s ∧ Refused (.reml .service b) .reml .range s
      ∧ Refused (.clrf .service b) .clrf .range s)
    ∧ ∀ p, posOf b = some p →
      (rated.toNat < 100 ∨ 20000 < rated.toNat → Refused (.fitl .service b serial rated) .fitl .range s)
      ∧ (100 ≤ rated.toNat → rated.toNat ≤ 20000 →
          s.holds[doorSlot] = none ∨ (s.lamp p).state = .striking ∨ (s.lamp p).state = .lit ∨ (s.lamp p).state = .cooling →
          Refused (.fitl .service b serial rated) .fitl .state s)
      ∧ (s.holds[doorSlot] = none ∨ (s.lamp p).state = .empty ∨ (s.lamp p).state = .striking ∨ (s.lamp p).state = .lit
          ∨ (s.lamp p).state = .cooling → Refused (.reml .service b) .reml .state s)
      ∧ ((s.lamp p).state ≠ .failed → Refused (.clrf .service b) .clrf .state s)

/-! ## Holds -/

/-- A HOLD that passes its checks stands in the lowest free slot of 4 to 15 with the fields carried, raises its notice and
replies DONE with the slot; no lamp is doused (R110, R111, R115). Where it meets a minute arrival, check 5 uses the new minute if the
HOLD is taken first; if the arrival is, a hold whose expiry is the arriving minute is placed and lifted at once (R113, R117; that
the command says whether and how they meet is log 42). A LIFT takes the hold out, makes the strike test if STRIKE was among its
scopes, raises its notice and replies DONE (R109, R112). Each check that fails refuses the request, in their order; that bound origins
that are no code but have the SERVICE bit are refused to CONTROL with CLASS, and not with RANGE, is the model's choice (log 45). -/
def Obligations.HoldAndLift : Prop :=
  (∀ (c : Sys2Proof.Class) (r : HoldRaw), requestedHoldOf c r = none ↔ HoldOutOfRange r)
  ∧ (∀ (c : Sys2Proof.Class) (r : HoldRaw) (m : Meeting) (now : Nat) (h : Hold) (slot : Fin 16) (s : State), s.phase = .running →
    c ≠ .panel → CheckedAt m s.clock now →
    (c = .control → r.bound.getLsbD 2 = false) → requestedHoldOf c r = some h →
    (∀ e, h.expiry = some e → s.clock.isSet = true ∧ now < e) →
    (∀ (i : Fin 16) k, 4 ≤ i.val → s.holds[i] = some k → k.kind = .requested → k.tag ≠ some r.tag.toNat) →
    4 ≤ slot.val → s.holds[slot] = none → (∀ i : Fin 16, 4 ≤ i.val → i < slot → s.holds[i] ≠ none) →
    (h.kind = .requested ∧ h.placer = some c ∧ h.tag = some r.tag.toNat ∧ Scopes.ofByte r.scopes = some h.scopes
      ∧ Origins.ofByte r.bound = some h.bound ∧ h.allowed = (if r.allowed = 0 then none else some r.allowed)
      ∧ h.expiry = (if r.expiry = 4294967295 then none else some r.expiry.toNat) ∧ h.bookingTag = none)
    ∧ ∃ u, u = raiseNotice .hold 1 (noticeArg 4 (byte slot.val) (byte (r.tag.toNat / 256)) (byte r.tag.toNat))
          { s with holds := s.holds.set slot (some h) }
      ∧ (h.expiry ≠ some s.clock.minute → exec (.hold c ⟨r, m⟩) s = .next ((finish u).replied .hold .done [byte slot.val]))
      ∧ (h.expiry = some s.clock.minute → ∃ v, HoldsExpired s.clock.minute u v
          ∧ exec (.hold c ⟨r, m⟩) s = .next ((finish v).replied .hold .done [byte slot.val])))
  ∧ (∀ (c : Sys2Proof.Class) (r : HoldRaw) (m : Meeting) (now : Nat) (s : State), s.phase = .running → c ≠ .panel →
    CheckedAt m s.clock now →
    (c = .control → r.bound.getLsbD 2 = true → Refused (.hold c ⟨r, m⟩) .hold .class' s)
    ∧ ((c = .control → r.bound.getLsbD 2 = false) →
      (requestedHoldOf c r = none → Refused (.hold c ⟨r, m⟩) .hold .range s)
      ∧ ∀ h, requestedHoldOf c r = some h →
        (h.expiry ≠ none → s.clock.isSet = false → Refused (.hold c ⟨r, m⟩) .hold .clock s)
        ∧ (∀ e, h.expiry = some e → s.clock.isSet = true → e ≤ now → Refused (.hold c ⟨r, m⟩) .hold .range s)
        ∧ ((∀ e, h.expiry = some e → s.clock.isSet = true ∧ now < e) →
          ((∃ (i : Fin 16) (k : Hold), 4 ≤ i.val ∧ s.holds[i] = some k ∧ k.kind = .requested ∧ k.tag = some r.tag.toNat) →
            Refused (.hold c ⟨r, m⟩) .hold .duplicate s)
          ∧ ((∀ (i : Fin 16) k, 4 ≤ i.val → s.holds[i] = some k → k.kind = .requested → k.tag ≠ some r.tag.toNat) →
            (∀ i : Fin 16, 4 ≤ i.val → s.holds[i] ≠ none) → Refused (.hold c ⟨r, m⟩) .hold .full s))))
  ∧ (∀ (c : Sys2Proof.Class) (tag : BitVec 16) (h : Hold) (slot : Fin 16) (s : State), s.phase = .running → c ≠ .panel → tag ≠ 0 →
    requestedHoldAt tag.toNat s = some slot → s.holds[slot] = some h →
    ((∀ k, h.placer = some k → atLeast c k = true) →
      (h.scopes.strike = true → exec (.lift c tag) s = .next ((finish (strikeTests (raiseNotice .hold 2
          (holdNoticeArg slot.val h) { s with holds := s.holds.set slot none }))).replied .lift .done []))
      ∧ (h.scopes.strike = false → exec (.lift c tag) s = .next ((finish (raiseNotice .hold 2
          (holdNoticeArg slot.val h) { s with holds := s.holds.set slot none })).replied .lift .done [])))
    ∧ (∀ k, h.placer = some k → atLeast c k = false → Refused (.lift c tag) .lift .class' s))
  ∧ ∀ (c : Sys2Proof.Class) (tag : BitVec 16) (s : State), s.phase = .running → c ≠ .panel →
    (tag = 0 → Refused (.lift c tag) .lift .range s)
    ∧ (tag ≠ 0 → (∀ (i : Fin 16) k, 4 ≤ i.val → s.holds[i] = some k → k.kind = .requested → k.tag ≠ some tag.toNat) →
        Refused (.lift c tag) .lift .missing s)

/-! ## Sources -/

/-- SRCE that passes its checks deals with its selection, and replies DONE for the input already SHOWN and ACCEPTED otherwise; an
input that is not 1 to 8 is refused with RANGE (R122, R123, R124, R138). -/
def Obligations.SrceSelects : Prop :=
  (∀ (c : Sys2Proof.Class) (b : Byte) (i : Input) (s : State), s.phase = .running → c ≠ .panel → inputOf b = some i →
    ¬ Held (classOrigin c) .source (some i) s →
    ∃ t, Selected { target := i, origin := classOrigin c, kind := .request } s t
      ∧ (s.switch.state = .shown ∧ s.switch.current = some i → exec (.srce c b) s = .next (t.replied .srce .done []))
      ∧ (¬ (s.switch.state = .shown ∧ s.switch.current = some i) →
          exec (.srce c b) s = .next (t.replied .srce .accepted [])))
  ∧ ∀ (c : Sys2Proof.Class) (b : Byte) (s : State), s.phase = .running → c ≠ .panel → b.toNat < 1 ∨ 8 < b.toNat →
    ¬ Held (classOrigin c) .source none s → Refused (.srce c b) .srce .range s

/-- PROF that passes its checks stores the profile, marks its record and replies DONE; for the input a computation is made for, it
computes, and the WARP goes to its slot (R119, R151, R152). An input that is not 1 to 8, or a field of the profile out of range,
is refused with RANGE. -/
def Obligations.ProfStores : Prop :=
  (∀ (c : Sys2Proof.Class) (b : Byte) (r : ProfileRaw) (i : Input) (s : State), s.phase = .running → c ≠ .panel →
    inputOf b = some i → ¬ Held (classOrigin c) .source (some i) s →
    (ProfileOutOfRange i r ↔ profileOf i r = none)
    ∧ (profileOf i r = none → Refused (.prof c b r) .prof .range s)
    ∧ ∀ p, profileOf i r = some p →
      p.label = r.label ∧ p.aspect.byte = r.aspect ∧ byte p.preset.val = r.preset ∧ optInputByte p.fallback = r.fallback
      ∧ boolByte p.takeOnArrival = r.takeOnArrival ∧ boolByte p.panelSelectable = r.panelSelectable
      ∧ ∃ u : State,
        (geometryTarget s ≠ some i → u = { s with profiles := s.profiles.set i p }.marked (profileNo i))
        ∧ (geometryTarget s = some i → ComputedFor i ({ s with profiles := s.profiles.set i p }.marked (profileNo i)) u)
        ∧ exec (.prof c b r) s = .next ((finish u).replied .prof .done []) ∧ MarkedDirty (profileNo i) s (finish u))
  ∧ ∀ (c : Sys2Proof.Class) (b : Byte) (r : ProfileRaw) (s : State), s.phase = .running → c ≠ .panel →
    b.toNat < 1 ∨ 8 < b.toNat → ¬ Held (classOrigin c) .source none s → Refused (.prof c b r) .prof .range s

/-- PRFR and PRSR, whole (R120, R144). -/
def Obligations.ProfileAndPresetRead : Prop :=
  ∀ (c : Sys2Proof.Class) (b : Byte) (s : State), s.phase = .running →
    (c = .panel → Refused (.prfr c b) .prfr .class' s ∧ Refused (.prsr c b) .prsr .class' s)
    ∧ (c ≠ .panel → b.toNat < 1 ∨ 8 < b.toNat → Refused (.prfr c b) .prfr .range s)
    ∧ (c ≠ .panel → ∀ i : Input, b.toNat = i.val + 1 → exec (.prfr c b) s = .next (s.replied .prfr .done
        (s.profiles[i].label ++ [s.profiles[i].aspect.byte, byte s.profiles[i].preset.val,
          optInputByte s.profiles[i].fallback, boolByte s.profiles[i].takeOnArrival,
          boolByte s.profiles[i].panelSelectable])))
    ∧ (c ≠ .panel → 7 < b.toNat → Refused (.prsr c b) .prsr .range s)
    ∧ (c ≠ .panel → ∀ n : PresetNo, b.toNat = n.val → exec (.prsr c b) s = .next (s.replied .prsr .done
        (signed16 s.geom.presets[n].kv ++ signed16 s.geom.presets[n].kh ++ signed16 s.geom.presets[n].tlDx
          ++ signed16 s.geom.presets[n].tlDy ++ signed16 s.geom.presets[n].trDx ++ signed16 s.geom.presets[n].trDy
          ++ signed16 s.geom.presets[n].brDx ++ signed16 s.geom.presets[n].brDy ++ signed16 s.geom.presets[n].blDx
          ++ signed16 s.geom.presets[n].blDy)))

/-! ## Geometry -/

/-- PRST stores the carried values, each pulled to its range, marks the record, replies CLAMPED if a value was pulled and DONE
otherwise, with the values stored; if the preset is the effective one, it computes, and the WARP goes to its slot. A number above
7 is refused with RANGE (R143, R151, R152). -/
def Obligations.PrstStores : Prop :=
  (∀ (c : Sys2Proof.Class) (b : Byte) (n : PresetNo) (r : PresetRaw) (s : State), s.phase = .running → c ≠ .panel →
    presetOf b = some n → ¬ Held (classOrigin c) .geometry none s →
    ∃ (u : State) (p : Preset) (o : ReqOutcome),
      p.kv = max (-300) (min 300 r.kv.toInt) ∧ p.kh = max (-200) (min 200 r.kh.toInt)
      ∧ p.tlDx = max (-64) (min 63 r.tlDx.toInt) ∧ p.tlDy = max (-64) (min 63 r.tlDy.toInt)
      ∧ p.trDx = max (-64) (min 63 r.trDx.toInt) ∧ p.trDy = max (-64) (min 63 r.trDy.toInt)
      ∧ p.brDx = max (-64) (min 63 r.brDx.toInt) ∧ p.brDy = max (-64) (min 63 r.brDy.toInt)
      ∧ p.blDx = max (-64) (min 63 r.blDx.toInt) ∧ p.blDy = max (-64) (min 63 r.blDy.toInt)
      ∧ (p = presetValues r → o = .done) ∧ (p ≠ presetValues r → o = .clamped)
      ∧ (effectiveNow s ≠ some n →
          u = { s with geom := { s.geom with presets := s.geom.presets.set n p } }.marked (presetNo n))
      ∧ (effectiveNow s = some n →
          ComputedNow ({ s with geom := { s.geom with presets := s.geom.presets.set n p } }.marked (presetNo n)) u)
      ∧ exec (.prst c b r) s = .next ((finish u).replied .prst o p.bytes) ∧ MarkedDirty (presetNo n) s (finish u))
  ∧ ∀ (c : Sys2Proof.Class) (b : Byte) (r : PresetRaw) (s : State), s.phase = .running → c ≠ .panel →
    7 < b.toNat → ¬ Held (classOrigin c) .geometry none s → Refused (.prst c b r) .prst .range s

/-- APPL with a lecture in hand sets or clears the override and replies DONE, computing if the effective preset changed, with the
WARP in its slot; with none in hand it is refused with STATE, and a number that is no preset and not none with RANGE (R146, R151,
R152). The effective preset of an input is the override, else the active booking's preset, else the preset of the input's profile
(R147); a computation is made for the current input, and in IDLE for the applied-for input, and the preset in force is that of this
input (R152). -/
def Obligations.ApplSetsOverride : Prop :=
  (∀ (s : State) (i : Input), ∃ source, PresetFrom s i (effectivePreset s i) source)
  ∧ (∀ s : State, (s.switch.state = .idle → geometryTarget s = s.geom.appliedFor)
    ∧ (s.switch.state ≠ .idle → geometryTarget s = s.switch.current)
    ∧ (geometryTarget s = none → effectiveNow s = none)
    ∧ ∀ i, geometryTarget s = some i → effectiveNow s = some (effectivePreset s i))
  ∧ ∀ (c : Sys2Proof.Class) (b : Byte) (s : State), s.phase = .running → c ≠ .panel → ¬ Held (classOrigin c) .geometry none s →
    (∀ p : Option PresetNo, (p = none ∧ b = 255) ∨ (∃ n, p = some n ∧ b.toNat = n.val) →
      s.sched.session = true ∨ (∃ x ∈ s.bookings, x.state ≠ .pending) →
      ∃ u : State, ComputedIfChanged (effectiveNow s) { s with geom := { s.geom with override := p } } u
        ∧ exec (.appl c b) s = .next ((finish u).replied .appl .done []))
    ∧ (b.toNat < 8 ∨ b = 255 → s.sched.session = false → (∀ x ∈ s.bookings, x.state = .pending) →
        Refused (.appl c b) .appl .state s)
    ∧ (8 ≤ b.toNat → b ≠ 255 → Refused (.appl c b) .appl .range s)

/-- The computation of the corners, whole, for every aspect and every preset: the fit, the keystone, the trims and the clamp, in
this order, so that every corner is in the raster (R2, R148, R149, R150). -/
def Obligations.FitAndClamp : Prop :=
  ∀ (a : Aspect) (p : Preset), FourStages a p (computeCorners a p) ∧ (computeCorners a p).InRaster

/-! ## The gate, notices and settings -/

/-- MUTE sets mute on and UNMT sets it off, whatever it was, and each replies DONE; the MUTE key toggles it (R160, R176). -/
def Obligations.MuteAndUnmute : Prop :=
  (∀ (c : Sys2Proof.Class) (s : State), s.phase = .running → c ≠ .panel →
    exec (.mute c) s = .next ((finish { s with gate := { s.gate with mute := true } }).replied .mute .done [])
    ∧ exec (.unmt c) s = .next ((finish { s with gate := { s.gate with mute := false } }).replied .unmt .done []))
  ∧ ∀ s : State, s.phase = .running → s.panel = some 3 → ¬ Held .panel .keys none s →
    exec .muteKey s = .next { finish { s with gate := { s.gate with mute := !s.gate.mute } } with panel := none }

/-- SUMM replies DONE with the count and the entries of the pending classes, ordered by level, highest first, and among equal
levels by position; every pending flag becomes no and every detail is kept (R196). The levels are those a notice level can
have. The attention line is asserted exactly while the part is RUNNING and some class with a level of 1 or more is pending
(R195). That it is deasserted in the FLUSH too, and not only from the reset to the end of start-up, is the model's inference
(log 27). -/
def Obligations.SummReadsNotices : Prop :=
  (∀ s : State, s.attention = true ↔ s.phase = .running ∧ ∃ k, (s.notice k).pending = true ∧ 1 ≤ s.level k)
  ∧ ∀ (c : Sys2Proof.Class) (s : State), s.phase = .running → c ≠ .panel → (∀ k, s.level k ≤ 3) →
    ∃ (t : State) (l : List NoticeClass), exec (.summ c) s = .next t
      ∧ Replied t .summ .done (byte l.length :: l.flatMap (fun k =>
          [byte (k.index.val + 1), byte (s.level k), byte (s.notice k).code] ++ be32 (s.notice k).arg.toNat))
      ∧ (∀ k, k ∈ l ↔ (s.notice k).pending = true)
      ∧ l.Pairwise (fun j k => s.level k < s.level j ∨ (s.level k = s.level j ∧ j.index < k.index))
      ∧ (∀ k, t.notice k = { s.notice k with pending := false })
      ∧ { t with notices := s.notices, link := s.link } = s

/-- NLVL sets the level of one class, pulled down to 3, in the configuration record and marks that record; it replies CLAMPED or
DONE with the level set, and attention follows the levels (R195, R197); the next state is that of the marked record at the event's
end (R159, R163, R199), and nothing else changes. That a level is held once, in the configuration record, is
log 38. -/
def Obligations.NlvlSetsLevel : Prop :=
  ∀ (c : Sys2Proof.Class) (p l : Byte) (s : State), s.phase = .running →
    (c = .panel → Refused (.nlvl c p l) .nlvl .class' s)
    ∧ (c ≠ .panel → p.toNat < 1 ∨ 9 < p.toNat → Refused (.nlvl c p l) .nlvl .range s)
    ∧ (c ≠ .panel → ∀ k : NoticeClass, p.toNat = k.index.val + 1 →
        ∃ t : State, exec (.nlvl c p l) s = .next t
          ∧ t = (finish ({ s with config := { s.config with levels := s.config.levels.set k.index (min 3 l.toNat) } }.marked
                  configNo)).replied .nlvl (if 3 < l.toNat then .clamped else .done) [byte (min 3 l.toNat)]
          ∧ t.level k = min 3 l.toNat ∧ (∀ j, j ≠ k → t.level j = s.level j)
          ∧ (3 < l.toNat → Replied t .nlvl .clamped [byte (t.level k)])
          ∧ (l.toNat ≤ 3 → Replied t .nlvl .done [byte (t.level k)])
          ∧ MarkedDirty configNo s t
          ∧ (t.attention = true ↔ ∃ j, (t.notice j).pending = true ∧ 1 ≤ t.level j)
          ∧ { t with config := { t.config with levels := s.config.levels }, gate := s.gate, engine := s.engine,
                     store := s.store, link := s.link } = s)

/-- CONF stores its record with each field pulled to its range, puts it on its way to the store and replies CLAMPED if a field
was pulled and DONE otherwise, with the record as stored (R198); the next state is that of the marked record at the event's end
(R159, R163, R199), and nothing else changes. -/
def Obligations.ConfStores : Prop :=
  ∀ (c : Sys2Proof.Class) (r : ConfigRaw) (s : State), s.phase = .running → c ≠ .panel → r.levels.length = 9 →
    ∃ (t : State) (o : ReqOutcome), exec (.conf c r) s = .next t
      ∧ t = (finish ({ s with config := t.config }.marked configNo)).replied .conf o t.config.bytes
      ∧ t.config.lead = max 1 (min 10 r.lead.toNat) ∧ t.config.bridge = min 30 r.bridge.toNat
      ∧ t.config.unattended = max 5 (min 120 r.unattended.toNat)
      ∧ t.config.noShow = (if r.noShow = 0 then 0 else max 5 (min 60 r.noShow.toNat))
      ∧ t.config.grace = max 2 (min 60 r.grace.toNat)
      ∧ t.config.plan = (if r.plan.toNat ≤ 1 then .eco else if r.plan.toNat = 2 then .full else .dual)
      ∧ t.config.levels.toList = r.levels.map (fun l => min 3 l.toNat)
      ∧ Replied t .conf o t.config.bytes
      ∧ (t.config.bytes = configRawBytes r → o = .done) ∧ (t.config.bytes ≠ configRawBytes r → o = .clamped)
      ∧ MarkedDirty configNo s t
      ∧ { t with config := s.config, gate := s.gate, engine := s.engine, store := s.store, link := s.link } = s

/-! ## The lectern panel -/

/-- A strobed code is latched in an empty latch, and dropped with its notice by a full one; outside RUNNING it is not latched and
raises no notice (R172, R173). An unknown key is taken with its notice and changes no other state (R173). Key busy is asserted
while the latch holds a code and outside RUNNING (R172), and the indicators show the state of the other blocks and are off outside
RUNNING (R178). -/
def Obligations.KeyStrobesAndUnknownKeys : Prop :=
  (∀ (code : Byte) (s : State),
    (s.phase = .running → s.panel = none → exec (.keyStrobe code) s = .next { s with panel := some code })
    ∧ (s.phase = .running → s.panel ≠ none →
        exec (.keyStrobe code) s = .next (raiseNotice .panel 1 (noticeArg code 0 0 0) s))
    ∧ (s.phase ≠ .running → exec (.keyStrobe code) s = .next s))
  ∧ (∀ (code : Byte) (s : State), s.phase = .running → s.panel = some code → code = 0 ∨ 20 ≤ code.toNat →
    exec .unknownKey s = .next { raiseNotice .panel 2 (noticeArg code 0 0 0) s with panel := none })
  ∧ (∀ s : State, s.keyBusy = true ↔ s.phase ≠ .running ∨ s.panel ≠ none)
  ∧ (∀ s : State, s.phase ≠ .running → s.indicators =
      { input := none, pendingInput := none, lampLit := false, lampWarming := false, locked := false, muted := false,
        lecture := false })
  ∧ ∀ s : State, s.phase = .running →
    (∀ i, s.indicators.input = some i ↔ s.switch.current = some i ∧ s.switch.state ≠ .idle)
    ∧ (∀ i, s.indicators.pendingInput = some i ↔ ∃ sel, s.switch.pendingSel = some sel ∧ sel.target = i)
    ∧ (s.indicators.lampLit = true ↔ ∃ p, (s.lamp p).state = .lit)
    ∧ (s.indicators.lampWarming = true ↔ ∃ p, (s.lamp p).state = .striking ∨ (s.lamp p).state = .cooling)
    ∧ (s.indicators.locked = true ↔ ∃ h, some h ∈ s.holds.toList ∧ h.bound.panel = true)
    ∧ (s.indicators.muted = true ↔ s.gate.mute = true)
    ∧ (s.indicators.lecture = true ↔ ∃ b ∈ s.bookings, b.state = .running)

/-- POWER ON turns the session ON, or changes nothing with the session ON or a booking active. POWER OFF ends the session if it
is ON, else the active booking if there is one, with the schedule check after its end arrival, and else changes nothing. The latch
becomes empty (R36, R46, R50, R172, R175). -/
def Obligations.PowerKeys : Prop :=
  ∀ s : State, s.phase = .running → ¬ Held .panel .keys none s →
    (s.panel = some 1 → ¬ Held .panel .session none s → s.sched.session = false → (∀ b ∈ s.bookings, b.state = .pending) →
      ∃ t : State, exec .powerOn s = .next { t with panel := none } ∧ SessionTurnedOn s t)
    ∧ (s.panel = some 1 → ¬ Held .panel .session none s → s.sched.session = true ∨ (∃ b ∈ s.bookings, b.state ≠ .pending) →
      exec .powerOn s = .next { s with panel := none })
    ∧ (s.panel = some 2 → ¬ Held .panel .session none s → s.sched.session = true →
      ∃ t : State, exec .powerOff s = .next { t with panel := none } ∧ SessionEnded s t ∧ t.notices = s.notices)
    ∧ (∀ b, s.panel = some 2 → ¬ Held .panel .bookings none s → s.sched.session = false → s.activeBooking = some b →
      ∃ t : State, exec .powerOff s = .next { t with panel := none } ∧ BookingEnded b s t)
    ∧ (s.panel = some 2 → s.sched.session = false → (∀ b ∈ s.bookings, b.state = .pending) →
      exec .powerOff s = .next { s with panel := none })

/-- SOURCE n makes a selection of input n with origin PANEL and kind KEY, if its profile lets the panel select it; PRESET n with
a lecture in hand sets the override to n, and computes if the effective preset changed, with the WARP in its slot (R146, R151,
R152, R177). -/
def Obligations.SourceAndPresetKeys : Prop :=
  ∀ (code : Byte) (s : State), s.phase = .running → s.panel = some code → ¬ Held .panel .keys none s →
    (∀ i : Input, code.toNat = i.val + 4 → ¬ Held .panel .source (some i) s → s.profiles[i].panelSelectable = true →
      ∃ t : State, exec .sourceKey s = .next { t with panel := none }
        ∧ Selected { target := i, origin := .panel, kind := .key } s t)
    ∧ ∀ n : PresetNo, code.toNat = n.val + 12 → ¬ Held .panel .geometry none s →
      s.sched.session = true ∨ (∃ x ∈ s.bookings, x.state ≠ .pending) →
      ∃ u : State, ComputedIfChanged (effectiveNow s) { s with geom := { s.geom with override := some n } } u
        ∧ exec .presetKey s = .next { finish u with panel := none }

/-- A known key that is refused changes no record: it raises its notice with the code and the outcome, and the latch becomes
empty. A KEYS hold refuses every known key with HELD before anything else; a hold in the key's own scope refuses it with HELD; a
SOURCE key of an input the panel may not select, and a PRESET key with no lecture in hand, are refused with STATE (R104, R174,
R175, R177). -/
def Obligations.RefusedKeys : Prop :=
  ∀ (code : Byte) (s : State), s.phase = .running → s.panel = some code →
    (Held .panel .keys none s →
      (code = 1 → exec .powerOn s = .next { raiseNotice .panel 3 (noticeArg code 17 0 0) s with panel := none })
      ∧ (code = 2 → exec .powerOff s = .next { raiseNotice .panel 3 (noticeArg code 17 0 0) s with panel := none })
      ∧ (code = 3 → exec .muteKey s = .next { raiseNotice .panel 3 (noticeArg code 17 0 0) s with panel := none })
      ∧ (4 ≤ code.toNat → code.toNat ≤ 11 →
          exec .sourceKey s = .next { raiseNotice .panel 3 (noticeArg code 17 0 0) s with panel := none })
      ∧ (12 ≤ code.toNat → code.toNat ≤ 19 →
          exec .presetKey s = .next { raiseNotice .panel 3 (noticeArg code 17 0 0) s with panel := none }))
    ∧ (code = 1 → Held .panel .session none s →
        exec .powerOn s = .next { raiseNotice .panel 3 (noticeArg code 17 0 0) s with panel := none })
    ∧ (code = 2 → s.sched.session = true → Held .panel .session none s →
        exec .powerOff s = .next { raiseNotice .panel 3 (noticeArg code 17 0 0) s with panel := none })
    ∧ (code = 2 → s.sched.session = false → (∃ b ∈ s.bookings, b.state ≠ .pending) → Held .panel .bookings none s →
        exec .powerOff s = .next { raiseNotice .panel 3 (noticeArg code 17 0 0) s with panel := none })
    ∧ (∀ i : Input, code.toNat = i.val + 4 → Held .panel .source (some i) s →
        exec .sourceKey s = .next { raiseNotice .panel 3 (noticeArg code 17 0 0) s with panel := none })
    ∧ (12 ≤ code.toNat → code.toNat ≤ 19 → Held .panel .geometry none s →
        exec .presetKey s = .next { raiseNotice .panel 3 (noticeArg code 17 0 0) s with panel := none })
    ∧ (∀ i : Input, code.toNat = i.val + 4 → ¬ Held .panel .keys none s → ¬ Held .panel .source (some i) s →
        s.profiles[i].panelSelectable = false →
        exec .sourceKey s = .next { raiseNotice .panel 3 (noticeArg code 24 0 0) s with panel := none })
    ∧ (12 ≤ code.toNat → code.toNat ≤ 19 → ¬ Held .panel .keys none s → ¬ Held .panel .geometry none s →
        s.sched.session = false → (∀ b ∈ s.bookings, b.state = .pending) →
        exec .presetKey s = .next { raiseNotice .panel 3 (noticeArg code 24 0 0) s with panel := none })

/-! ## Time -/

/-- A second arrival steps the clock in every phase, and outside RUNNING does nothing else (R29, R200, R201). While RUNNING it is
handed out: a LIT lamp wears by 8 wu at FULL and 5 at ECO and counts its unstored lit seconds (R80, R82); the limit tests warn and
derate (R85, R86); a running strike window and a cooldown fall by 1 and act at 0, and the continuous lit seconds rise (R61, R63,
R66, R69); the grace count falls and acts at 0 (R132, R133); and the unattended count rises, is cleared while SHOWN, and ends the
session at its limit (R52). Where the minute rises, the minute arrival follows (R29, R36, R113). The order of the blocks within
the arrival, and the minute arrival as an event after it, are log 4 and log 3. -/
def Obligations.SecondArrival : Prop :=
  ∀ (s : State) (c : Clock), c = (if s.clock.second < 59 then { s.clock with second := s.clock.second + 1 }
      else if s.clock.minute < 2147483647 then { s.clock with second := 0, minute := s.clock.minute + 1 }
      else { s.clock with second := 0 }) →
    (s.phase ≠ .running → exec .secondArrival s = .next { s with clock := c })
    ∧ (s.phase = .running → ∃ u t, SecondHanded { s with clock := c } u
        ∧ (c.minute = s.clock.minute → t = u) ∧ (c.minute ≠ s.clock.minute → MinuteHanded u t)
        ∧ exec .secondArrival s = .next t ∧ t.clock = c ∧ RestKept s { t with clock := s.clock })

/-- A minute arrival raises the minute; while RUNNING the schedule check is made, and every REQUESTED hold whose expiry minute is at
or before the new minute leaves the table, and no other REQUESTED hold does (R29, R36, R113). Where the second is not 59 or the
minute is at its top no minute arrival is due, and the row changes nothing (log 2, log 3). That the schedule check comes before the
expiries is the model's choice (log 4). -/
def Obligations.MinuteArrival : Prop :=
  ∀ s : State,
    (59 ≤ s.clock.second → s.clock.minute < 2147483647 →
      (s.phase ≠ .running →
        exec .minuteArrival s = .next { s with clock := { s.clock with second := 0, minute := s.clock.minute + 1 } })
      ∧ (s.phase = .running → ∃ t : State,
        MinuteHanded { s with clock := { s.clock with second := 0, minute := s.clock.minute + 1 } } t
        ∧ exec .minuteArrival s = .next t
        ∧ t.clock = { s.clock with second := 0, minute := s.clock.minute + 1 } ∧ RestKept s { t with clock := s.clock }))
    ∧ (s.clock.second < 59 ∨ 2147483647 ≤ s.clock.minute → exec .minuteArrival s = .next s)

/-- The events that a LIT lamp's counts bring: at 60 unstored lit seconds the record is marked and the count becomes 0 (R82); at
600 continuous lit seconds the attempt count becomes 0 (R66). That the rows act by themselves is log 3. -/
def Obligations.LitCounts : Prop :=
  ∀ (p : Pos) (s : State), s.phase = .running → (s.lamp p).state = .lit →
    ((s.lamp p).unstored = 59 → ∃ t : State, exec (.unstoredLitSecondsWrap p) s = .next t
      ∧ t = finish ((s.marked (lampNo p)).setLamp p { s.lamp p with unstored := 0 }) ∧ MarkedDirty (lampNo p) s t)
    ∧ ((s.lamp p).continuous = 599 → exec (.continuousLit600 p) s =
        .next (finish (s.setLamp p { s.lamp p with continuous := 600, attempts := 0 })))

/-- When the strike window of a STRIKING position runs out its wear rises by 1,440 and its attempt count by 1, its record is marked
and a DOUSE offered; it cools for 60 s with the notice strike failed, or is FAILED with its notice at the third attempt, and a GAP
demand or a substitute follows (R43, R58, R63, R73, R81). When the cooldown of a COOLING position ends it is SPENT with its notice
and no longer usable, or COLD and struck at once if it may be (R58, R60, R69). That the rows act by themselves is log 3. -/
def Obligations.WindowAndCooldown : Prop :=
  ∀ (p : Pos) (s : State), s.phase = .running →
    (∀ n, (s.lamp p).state = .striking → (s.lamp p).window = some n → n ≤ 1 →
      ∃ u : State, WindowRanOut p s u ∧ exec (.strikeWindowRunsOut p) s = .next (finish u)
        ∧ MarkedDirty (lampNo p) s (finish u))
    ∧ ((s.lamp p).state = .cooling → (s.lamp p).cooldown ≤ 1 →
      ∃ u : State, CooldownEnded p s u ∧ exec (.cooldownEnd p) s = .next (finish u))

/-- At the unattended limit the session ends with its notice (R52). When the grace count runs out a fallback that is due and not
held is taken, one that is held is dropped, and with none due the signal is lost, each with its notice (R132, R133). That the rows
act by themselves is log 3. -/
def Obligations.UnattendedAndGrace : Prop :=
  (∀ s : State, s.phase = .running → s.sched.session = true → s.switch.state ≠ .shown →
    s.config.unattended * 60 ≤ s.sched.unattended + 1 →
    ∃ t : State, exec .unattendedEnd s = .next t ∧ SessionEnded s t ∧ t.notices = (raiseNotice .schedule 5 0 s).notices)
  ∧ ∀ (g : Nat) (s : State), s.phase = .running → s.switch.state = .noSignal → s.switch.grace = some g → g ≤ 1 →
    ∃ u : State, GraceRanOut s u ∧ exec .graceRunsOut s = .next (finish u)

/-! ## The switch and the sync meter -/

/-- The take timer's running out, with the machine TAKING (R127; the length of the timer is not held, log 22). That the meter, which
becomes IDLE, loses its reference edge, its frames and its tally is log 39. -/
def Obligations.TakeTimeout : Prop :=
  ∀ s : State, s.phase = .running → s.switch.state = .taking → s.switch.takeTimer = true →
    exec .takeTimeout s = .next (finish { raiseNotice .matrix 1 (noticeArg (optInputByte s.switch.takeInFlight) 0 0 0) s with
      switch := { s.switch with state := .idle, current := none, reachedBy := none, pendingSel := none,
                                takeInFlight := none, takeTimer := false },
      meter := { state := .idle, refEdge := none, tally := 0, last := none, previous := none, lossTimer := false } })

/-- The right TAKE ACK ends a take: the machine is SETTLING with the meter restarted, unless a pending selection that is not held
is taken; any other ACK is stray (R125, R126). The settle timer's running out leaves NO SIGNAL with the grace count, or takes the
pending selection (R125, R130). A pending selection that is held is dropped with its notice (R125). -/
def Obligations.TakeAckAndSettleTimeout : Prop :=
  (∀ (i : Input) (s : State), s.phase = .running → s.switch.latch = some (.takeAck i) →
    (s.switch.state = .taking → s.switch.takeInFlight = some i → s.switch.pendingSel = none →
      exec .takeAck s = .next (finish { s with
        switch := { s.switch with latch := none, takeInFlight := none, takeTimer := false, state := .settling,
                                  settleTimer := true },
        meter := { state := .seeking, refEdge := none, tally := 0, last := none, previous := none, lossTimer := true } }))
    ∧ (∀ sel, s.switch.state = .taking → s.switch.takeInFlight = some i → s.switch.pendingSel = some sel →
      ¬ Held sel.origin .source (some sel.target) s →
      exec .takeAck s = .next (finish { s with
        switch := { s.switch with latch := none, pendingSel := none, state := .taking, current := some sel.target,
                                  reachedBy := some sel.kind, takeInFlight := some sel.target, takeTimer := true,
                                  settleTimer := false, grace := none },
        meter := { state := .seeking, refEdge := none, tally := 0, last := none, previous := none, lossTimer := true } }))
    ∧ (∀ sel, s.switch.state = .taking → s.switch.takeInFlight = some i → s.switch.pendingSel = some sel →
      Held sel.origin .source (some sel.target) s →
      exec .takeAck s = .next (finish { raiseNotice .source 5 (noticeArg (inputByte sel.target) sel.kind.byte 0 0) s with
        switch := { s.switch with latch := none, pendingSel := none, takeInFlight := none, takeTimer := false,
                                  state := .settling, settleTimer := true },
        meter := { state := .seeking, refEdge := none, tally := 0, last := none, previous := none, lossTimer := true } }))
    ∧ (s.switch.state ≠ .taking ∨ s.switch.takeInFlight ≠ some i →
      exec .takeAck s = .next (finish { raiseNotice .matrix 2 (noticeArg (inputByte i) 0 0 0) s with
        switch := { s.switch with latch := none } })))
  ∧ ∀ s : State, s.phase = .running → s.switch.state = .settling → s.switch.settleTimer = true →
    (s.switch.pendingSel = none →
      exec .settleTimeout s = .next (finish { raiseNotice .source 2 (noticeArg (optInputByte s.switch.current) 0 0 0) s with
        switch := { s.switch with state := .noSignal, settleTimer := false, grace := some s.config.grace } }))
    ∧ (∀ sel, s.switch.pendingSel = some sel → ¬ Held sel.origin .source (some sel.target) s →
      exec .settleTimeout s = .next (finish { s with
        switch := { s.switch with pendingSel := none, state := .taking, current := some sel.target,
                                  reachedBy := some sel.kind, takeInFlight := some sel.target, takeTimer := true,
                                  settleTimer := false, grace := none },
        meter := { state := .seeking, refEdge := none, tally := 0, last := none, previous := none, lossTimer := true } }))
    ∧ ∀ sel, s.switch.pendingSel = some sel → Held sel.origin .source (some sel.target) s →
      exec .settleTimeout s = .next (finish { raiseNotice .source 2 (noticeArg (optInputByte s.switch.current) 0 0 0)
          (raiseNotice .source 5 (noticeArg (inputByte sel.target) sel.kind.byte 0 0) s) with
        switch := { s.switch with pendingSel := none, state := .noSignal, settleTimer := false,
                                  grace := some s.config.grace } })

/-- A PRESENCE message replaces the presence set. With a booking RUNNING or the session ON, the lowest joining input whose
profile takes on arrival and that is not the current input is selected, or dropped with its notice if it is held (R99, R122, R128,
R134). -/
def Obligations.PresenceTaken : Prop :=
  ∀ (set : InputSet) (s : State), s.phase = .running → s.switch.latch = some (.presence set) →
    ((∀ i : Input, ¬ LectureOrSession s ∨ hasInput set i = false ∨ hasInput s.switch.presence i = true
          ∨ s.profiles[i].takeOnArrival = false ∨ s.switch.current = some i) →
        exec .presence s = .next (finish { s with switch := { s.switch with presence := set, latch := none } }))
    ∧ ∀ i : Input, LectureOrSession s → hasInput set i = true → hasInput s.switch.presence i = false →
        s.profiles[i].takeOnArrival = true → s.switch.current ≠ some i →
        (∀ j, j < i → hasInput set j = false ∨ hasInput s.switch.presence j = true ∨ s.profiles[j].takeOnArrival = false
          ∨ s.switch.current = some j) →
        (¬ Held .automatic .source (some i) s →
          ∃ t : State, exec .presence s = .next t ∧ Selected { target := i, origin := .automatic, kind := .arrival }
            { s with switch := { s.switch with presence := set, latch := none } } t)
        ∧ (Held .automatic .source (some i) s →
          exec .presence s = .next (finish (raiseNotice .source 5 (noticeArg (inputByte i) 5 0 0)
            { s with switch := { s.switch with presence := set, latch := none } })))

/-- The sync meter: a line edge counts up to 65,535 and an IDLE meter counts nothing (R135); the first frame edge sets the
reference, a frame out of range is dropped, a stable pair locks the meter and hands its stable report to the switch machine, which
is then SHOWN with its notice, its computation and its hand-overs, or takes a pending selection instead (R41, R52, R125, R130,
R131, R132, R135, R136); and a frame out of range or the loss timer's running out brings a LOCKED meter to SEEKING and a SHOWN
machine to NO SIGNAL (R132, R137). An edge is timed by its operand, and one before the reference edge is out of range (log 22). -/
def Obligations.SyncMeter : Prop :=
  (∀ s : State, s.phase = .running →
    (s.meter.state = .idle → exec .lineEdge s = .next s)
    ∧ (s.meter.state ≠ .idle →
        exec .lineEdge s = .next { s with meter := { s.meter with tally := min 65535 (s.meter.tally + 1) } }))
  ∧ (∀ (time : Nat) (s : State), s.phase = .running →
    (s.meter.state = .idle → exec (.frameEdge time) s = .next (finish s))
    ∧ (s.meter.state ≠ .idle → s.meter.refEdge = none → exec (.frameEdge time) s = .next (finish { s with
        meter := { s.meter with refEdge := some time, tally := 0, lossTimer := true } }))
    ∧ (∀ ref, s.meter.state = .seeking → s.meter.refEdge = some ref → time - ref < 8000 ∨ 50000 < time - ref →
        exec (.frameEdge time) s = .next (finish { s with
          meter := { s.meter with refEdge := some time, tally := 0, lossTimer := true, previous := none, last := none } }))
    ∧ (∀ ref, s.meter.state = .locked ∨ s.meter.last = none → s.meter.state ≠ .idle → s.meter.refEdge = some ref →
        8000 ≤ time - ref → time - ref ≤ 50000 →
        exec (.frameEdge time) s = .next (finish { s with
          meter := { s.meter with refEdge := some time, tally := 0, lossTimer := true, previous := s.meter.last,
                                  last := some { period := time - ref, lines := s.meter.tally } } }))
    ∧ (∀ ref, s.meter.state = .locked → s.meter.refEdge = some ref → time - ref < 8000 ∨ 50000 < time - ref →
        (s.switch.state = .shown → exec (.frameEdge time) s = .next (finish
          { raiseNotice .source 2 (noticeArg (optInputByte s.switch.current) 0 0 0) s with
            meter := { state := .seeking, refEdge := some time, tally := 0, lossTimer := true, previous := none, last := none }
            switch := { s.switch with state := .noSignal, settleTimer := false, grace := some s.config.grace } }))
        ∧ (s.switch.state ≠ .shown → exec (.frameEdge time) s = .next (finish { s with
            meter := { state := .seeking, refEdge := some time, tally := 0, lossTimer := true, previous := none,
                       last := none } })))
    ∧ ∀ ref f, s.meter.state = .seeking → s.meter.refEdge = some ref → s.meter.last = some f →
        8000 ≤ time - ref → time - ref ≤ 50000 →
        (¬ StablePair f { period := time - ref, lines := s.meter.tally } →
          exec (.frameEdge time) s = .next (finish { s with
            meter := { state := .seeking, refEdge := some time, tally := 0, lossTimer := true, previous := some f,
                       last := some { period := time - ref, lines := s.meter.tally } } }))
        ∧ (StablePair f { period := time - ref, lines := s.meter.tally } →
          s.switch.state = .settling ∨ s.switch.state = .noSignal → s.switch.current ≠ none →
            ∃ u : State, StableReported { s with
                meter := { state := .locked, refEdge := some time, tally := 0, lossTimer := true, previous := some f,
                           last := some { period := time - ref, lines := s.meter.tally } } } u
              ∧ exec (.frameEdge time) s = .next (finish u))
        ∧ (StablePair f { period := time - ref, lines := s.meter.tally } →
          s.switch.state = .idle ∨ s.switch.state = .taking ∨ s.switch.state = .shown →
            exec (.frameEdge time) s = .next (finish { s with
              meter := { state := .locked, refEdge := some time, tally := 0, lossTimer := true, previous := some f,
                         last := some { period := time - ref, lines := s.meter.tally } } })))
  ∧ ∀ s : State, s.phase = .running → s.meter.lossTimer = true →
    (s.meter.state = .seeking ∨ (s.meter.state = .locked ∧ s.switch.state ≠ .shown) →
      exec .lossTimerRunsOut s = .next (finish { s with
        meter := { s.meter with state := .seeking, refEdge := none, last := none, previous := none } }))
    ∧ (s.meter.state = .locked → s.switch.state = .shown →
      exec .lossTimerRunsOut s = .next (finish { raiseNotice .source 2 (noticeArg (optInputByte s.switch.current) 0 0 0) s with
        meter := { s.meter with state := .seeking, refEdge := none, last := none, previous := none }
        switch := { s.switch with state := .noSignal, settleTimer := false, grace := some s.config.grace } }))

/-! ## The engine channel, the matrix channel and the fire line -/

/-- A message that the engine or the switch strobes goes to an empty latch in every phase, and is dropped with its notice by a
full one (R129, R168, R200, R201). -/
def Obligations.InboundStrobes : Prop :=
  (∀ (m : EngineMsg) (s : State),
    (s.engine.latch = none → exec (.engineInboundStrobe m) s = .next { s with engine := { s.engine with latch := some m } })
    ∧ (s.engine.latch ≠ none → exec (.engineInboundStrobe m) s = .next (raiseNotice .engine 3 0 s)))
  ∧ ∀ (m : MatrixMsg) (s : State),
    (s.switch.latch = none → exec (.matrixInboundStrobe m) s = .next { s with switch := { s.switch with latch := some m } })
    ∧ (s.switch.latch ≠ none → exec (.matrixInboundStrobe m) s = .next (raiseNotice .matrix 3 0 s))

/-- The engine's acknowledge of a SENDING channel delivers the message in flight: a STRIKE starts the window of a position still
STRIKING, a WARP sets the applied corner set and the applied-for input, and the rest only end their flight; a stray acknowledge
raises its notice; while the flush runs none is taken (R61, R153, R164, R201). A STRIKE of a position that was struck anew, whose
new STRIKE waits in its slot, starts nothing (log 40). That a stray acknowledge raises its notice in START-UP too is the model's
inference (log 36). -/
def Obligations.Acknowledge : Prop :=
  ∀ s : State,
    (s.phase ≠ .flush → s.engine.state = .sending →
      (∀ p w, s.engine.inFlight = some (.lamp p (.strike w)) → (s.lamp p).state = .striking →
          (∀ x, s.engine.lampSlot p ≠ some (.strike x)) →
        exec .engineAcknowledge s = .next (finish ({ s with
          engine := { s.engine with state := .ready, inFlight := none, ackTimer := false } }.setLamp p
            { s.lamp p with window := some 20 })))
      ∧ (∀ w, s.engine.inFlight = some (.warp w) →
        exec .engineAcknowledge s = .next (finish { s with
          engine := { s.engine with state := .ready, inFlight := none, ackTimer := false },
          geom := { s.geom with applied := some w.corners, appliedFor := some w.input } }))
      ∧ ((∀ w, s.engine.inFlight ≠ some (.warp w))
          ∧ (∀ p w, s.engine.inFlight = some (.lamp p (.strike w)) →
              (s.lamp p).state ≠ .striking ∨ ∃ x, s.engine.lampSlot p = some (.strike x)) →
        exec .engineAcknowledge s = .next (finish { s with
          engine := { s.engine with state := .ready, inFlight := none, ackTimer := false } })))
    ∧ (s.phase ≠ .flush → s.engine.state ≠ .sending → exec .engineAcknowledge s = .next (raiseNotice .engine 2 0 s))
    ∧ (s.phase = .flush → exec .engineAcknowledge s = .next s)

/-- The acknowledge timer's running out: the channel is in FAULT with nothing in flight and every slot empty, the notice names the
abandoned message, every STRIKING or LIT lamp cools for 120 s with a LIT one's record marked, the kept lamps among them leave a GAP
demand, no corner set is applied and the shutter is CLOSED (R43, R71, R73, R154, R165). -/
def Obligations.AcknowledgeTimeout : Prop :=
  ∀ s : State, s.phase = .running → s.engine.state = .sending → s.engine.ackTimer = true →
    ∃ u : State, BurningCooled (fun _ => none) (raiseNotice .engine 1 (outMsgArg s.engine.inFlight) { s with
        engine := { s.engine with state := .fault, inFlight := none, ackTimer := false, shutterSlot := none,
                                  lampASlot := none, lampBSlot := none, warpSlot := none } }) u
      ∧ exec .acknowledgeTimeout s = .next (finish { u with geom := { s.geom with applied := none, appliedFor := none } })
      ∧ (finish { u with geom := { s.geom with applied := none, appliedFor := none } }).gate = { s.gate with shutterOpen := false }

/-- A LAMP SENSE message (R169): a STRIKING lamp reported lit is LIT, with its strike charge, one strike more, its record marked and
its notice, and takes its wanted power (R62, R65, R81); a LIT lamp reported unlit drops, and cools for 60 s with its notice or is
FAILED with its notice at the third attempt (R68); a stray lit report raises its notice and offers a DOUSE (R72); any other report
changes nothing but the latch. What follows a drop or a failure is the writing of a GAP demand (R43, R73) and the recomputation of
the effective set (R58); the writing of a demand gives the effective set (R57), the wanted flags, the douses, the powers and the
strike tests. That each of these takes A before B, and so marks record 17 before record 18 where one write douses two LIT lamps, is the
model's choice (log 46, unsafe). -/
def Obligations.LampSenseTaken : Prop :=
  (∀ (p : Pos) (lit : Bool) (s : State), s.phase = .running → s.engine.latch = some (.lampSense p lit) →
    ∃ u : State, LampReported p lit { s with engine := { s.engine with latch := none } } u
      ∧ exec .lampSense s = .next (finish u)
      ∧ ((lit = true ∧ (s.lamp p).state = .striking) ∨ (lit = false ∧ (s.lamp p).state = .lit) →
          MarkedDirty (lampNo p) s (finish u)))
  ∧ (∀ (d : Demand) (s : State), DemandWritten d s (writeDemand d s))
  ∧ (∀ s : State, UsabilityRecomputed s (usabilityChanged s))
  ∧ ∀ (p : Pos) (s : State), KeptLampExit p s (gapExit p s)

/-- The FIRE, DOOR and THERMAL holds follow their reports (R70, R105, R106, R108, R109, R115): one that is reported is placed with
its notice and douses every lamp that is STRIKING or LIT, the kept lamps among them leaving a GAP demand (R43, R73); one that is no
longer reported is lifted with its notice and the strike test; a report that agrees with the table changes nothing more. THERMAL
also sets the thermal report, and both wanted powers are evaluated: ECO where the demand, derate or WARN asks for it (R59, R65,
R86). Outside RUNNING, and for a level already seen, the fire line only takes its level (R105, R201). -/
def Obligations.DoorThermalAndFire : Prop :=
  (∀ (p : Pos) (s : State), s.wantedPower p = .eco ↔
    s.sched.demand.power = .eco ∨ (s.lamp p).derated = true ∨ s.thermal = .warn)
  ∧ (∀ (o : Bool) (s : State), s.phase = .running → s.engine.latch = some (.door o) →
    ∃ u : State, ReportTaken doorSlot (lampHold .door) o { s with engine := { s.engine with latch := none } } u
      ∧ exec .door s = .next (finish u))
  ∧ (∀ (x : Thermal) (s : State), s.phase = .running → s.engine.latch = some (.thermal x) →
    ∃ v u : State, ThermalTaken x { s with engine := { s.engine with latch := none } } v
      ∧ ReportTaken thermalSlot (lampHold .thermal) (x == .over) v u ∧ exec .thermal s = .next (finish u))
  ∧ ∀ (active : Bool) (s : State),
    (s.phase = .running → active ≠ s.fire.seen → ∃ u : State,
      ReportTaken fireSlot fireHold active { s with fire := { level := active, seen := active } } u
      ∧ exec (.fireLineChange active) s = .next (finish u))
    ∧ (s.phase ≠ .running ∨ active = s.fire.seen →
        exec (.fireLineChange active) s = .next { s with fire := { s.fire with level := active } })

/-- A STATUS REPORT outside FAULT: the door, the thermal state, the lamp of A and the lamp of B are taken, in this order (R106,
R169). In FAULT the channel recovers (R106, R154, R167, R169): READY, the lamps, the thermal report with THERMAL and then DOOR, one
strike test, a computation while SHOWN whose WARP waits in its slot, the gate with its state offered, and the notice recovered;
SHUTTER is the first message sent, CLOSED in every state where no corner set is applied. That outside FAULT each lifting is followed
by a strike test of its own, before the rest of the report is taken, is the model's inference (log 20, unsafe); the one strike test of
the recovery is R167's. -/
def Obligations.StatusReportTaken : Prop :=
  ∀ (a b : Bool) (x : Thermal) (o : Bool) (s : State), s.phase = .running →
    s.engine.latch = some (.statusReport a b x o) →
    (s.engine.state ≠ .fault → ∃ v1 v2 v3 v4 u : State,
      ReportTaken doorSlot (lampHold .door) o { s with engine := { s.engine with latch := none } } v1
      ∧ ThermalTaken x v1 v2 ∧ ReportTaken thermalSlot (lampHold .thermal) (x == .over) v2 v3
      ∧ LampReported .a a v3 v4 ∧ LampReported .b b v4 u ∧ exec .statusReport s = .next (finish u))
    ∧ (s.engine.state = .fault → ∃ (v1 v2 v3 v4 v5 v6 : State) (g : Bool) (t : State),
      LampReported .a a { s with engine := { s.engine with latch := none, state := .ready } } v1 ∧ LampReported .b b v1 v2
      ∧ ThermalTaken x v2 v3 ∧ ReportActed thermalSlot (lampHold .thermal) (x == .over) v3 v4
      ∧ ReportActed doorSlot (lampHold .door) o v4 v5
      ∧ (∀ i, s.switch.state = .shown → s.switch.current = some i → ComputedFor i (strikeTests v5) v6)
      ∧ (s.switch.state ≠ .shown → v6 = strikeTests v5)
      ∧ (s.switch.current = none → v6 = strikeTests v5)
      ∧ (g = true ↔ ShutterConditions v6)
      ∧ exec .statusReport s = .next t
      ∧ t = finish (raiseNotice .engine 4 0 { v6 with gate := { v6.gate with shutterOpen := g },
                                                      engine := { v6.engine with shutterSlot := some g } })
      ∧ t.engine.state = .sending ∧ t.engine.inFlight = some (.shutter t.gate.shutterOpen) ∧ t.engine.ackTimer = true
      ∧ (s.geom.appliedFor = none → t.gate.shutterOpen = false)
      ∧ t.thermal = x ∧ (t.holds[doorSlot].isSome = true ↔ o = true) ∧ (t.holds[thermalSlot].isSome = true ↔ x = .over))

/-! ## The control link -/

/-- A frame begins at the fall of the select line with an empty count and its overrun mark; the byte clocked out is the status
byte, then the unread body while the status is READY, then fill of 0; each byte completed while RECEIVING is counted and kept if it
is among the first 64, and one that clocks out a body byte moves the read position; staging puts the held reply in the buffer and
frees the decoder (R180, R181, R184, R185, R187, R188). That the reply of an RSTR refused with CLASS is staged like any other, where
R184 and R188 read to the letter except every reply of RSTR, is the model's inference (log 41, unsafe); that staging with a FREE
decoder, or a byte with no frame begun, changes nothing is its choice (log 2). A frame that the end of start-up cut off still clocks
out the NOT READY it had loaded, if it has not, and then fill (R188; log 43). -/
def Obligations.FramesAndStaging : Prop :=
  (∀ s : State, s.link.receiving = false → ∃ l, exec .frameBegin s = .next { s with link := l }
    ∧ l.receiving = true ∧ l.byteCount = 0 ∧ l.bytes = [] ∧ l.decoder = s.link.decoder ∧ l.buffer = s.link.buffer
    ∧ l.readPos = s.link.readPos ∧ l.owed = false
    ∧ (s.phase = .running → (l.overrun = true ↔ s.link.decoder ≠ none)
        ∧ (s.link.decoder ≠ none → l.status = .notReady)
        ∧ (s.link.decoder = none → s.link.readPos < s.link.buffer.length → l.status = .ready)
        ∧ (s.link.decoder = none → s.link.buffer.length ≤ s.link.readPos → l.status = .none))
    ∧ (s.phase ≠ .running → l.status = .notReady))
  ∧ (∀ l : Link, l.owed = true → l.byteOut = 2)
  ∧ (∀ l : Link, l.owed = false →
    (l.byteCount = 0 → l.byteOut = (match l.status with | .none => 0 | .ready => 1 | .notReady => 2))
    ∧ (∀ pre b post, l.byteCount ≠ 0 → l.status = .ready → l.buffer = pre ++ b :: post → pre.length = l.readPos → l.byteOut = b)
    ∧ (l.byteCount ≠ 0 → l.status ≠ .ready ∨ l.buffer.length ≤ l.readPos → l.byteOut = 0))
  ∧ (∀ (b : Byte) (s : State), s.link.receiving = true → ∃ l, exec (.byteCompletion b) s = .next { s with link := l }
    ∧ l.byteCount = min 65535 (s.link.byteCount + 1)
    ∧ (s.link.byteCount < 64 → l.bytes = s.link.bytes ++ [b]) ∧ (64 ≤ s.link.byteCount → l.bytes = s.link.bytes)
    ∧ (s.link.byteCount = 0 ∨ s.link.status ≠ .ready ∨ s.link.buffer.length ≤ s.link.readPos → l.readPos = s.link.readPos)
    ∧ (s.link.byteCount ≠ 0 → s.link.status = .ready → s.link.readPos < s.link.buffer.length →
        l.readPos = s.link.readPos + 1)
    ∧ { l with byteCount := s.link.byteCount, bytes := s.link.bytes, readPos := s.link.readPos } = s.link)
  ∧ (∀ (b : Byte) (s : State), s.link.receiving = false →
    (s.link.owed = false → exec (.byteCompletion b) s = .next s)
    ∧ (s.link.owed = true → exec (.byteCompletion b) s = .next { s with link := { s.link with owed := false } }))
  ∧ ∀ s : State,
    (∀ body, s.phase = .running → s.link.decoder = some body → exec .replyStaging s = .next { s with
      link := { s.link with buffer := body, readPos := 0, decoder := none } })
    ∧ (s.phase ≠ .running ∨ s.link.decoder = none → exec .replyStaging s = .next s)

/-- At the end of a request frame the request is taken: what follows is what the row of that request does, with the class of the
service key line and the parameter bytes of the frame, once the frame has ended (R97, R182, R183, R190; log 15), and with the minute
arrival that the request meets (R117; log 42). -/
def Obligations.RequestFrame : Prop :=
  ∀ (serviceKey : Bool) (m : Meeting) (n : ReqName) (s : State), s.phase = .running → s.link.receiving = true → s.link.overrun = false →
    s.link.byteCount ≤ 64 → 5 + n.length ≤ s.link.byteCount → s.link.bytes.take 4 = n.letters →
    (s.link.bytes.getD 4 0).toNat = n.length →
    ∃ t : State, exec (.requestFrameEnd ⟨serviceKey, m⟩) s = .next t
      ∧ exec (rowOf n (if serviceKey then .service else .control) m (s.link.bytes.drop 5))
          { s with link := { s.link with receiving := false } } = .next t

/-- A fetch frame ends with no further effect; a malformed frame leaves the decoder holding its six-byte answer, and its notice
says why; an overrun is discarded with its notice; a frame of no byte, and any frame outside RUNNING, ends with no further effect
(R180, R182, R185, R186, R188). A rise that ends no frame changes nothing (log 2), but for a frame that the end of start-up cut off:
it is discarded there, and owes no status byte any more (R188; log 43). -/
def Obligations.OtherFrames : Prop :=
  (∀ (s : State) (i : Instr), s.link.receiving = false →
    i = .fetchFrame ∨ i = .malformedFrame ∨ i = .overrunFrame ∨ (∃ e, i = .requestFrameEnd e) →
    exec i s = .next { s with link := { s.link with owed := false } })
  ∧ ∀ s : State, s.link.receiving = true →
    (s.phase = .running → s.link.overrun = false → 2 ≤ s.link.byteCount → s.link.byteCount ≤ 64 →
        s.link.bytes.getD 0 0 = 0 → exec .fetchFrame s = .next { s with link := { s.link with receiving := false } })
    ∧ (∀ m, s.phase = .running → s.link.overrun = false → frameSort s.link = .malformed m →
        exec .malformedFrame s = .next (raiseNotice .link m.code
          (noticeArg (s.link.bytes.getD 0 0) (s.link.bytes.getD 1 0) (s.link.bytes.getD 2 0) (s.link.bytes.getD 3 0))
          { s with link := { s.link with receiving := false, decoder := some [s.link.bytes.getD 0 0, s.link.bytes.getD 1 0,
            s.link.bytes.getD 2 0, s.link.bytes.getD 3 0, 26, 0] } }))
    ∧ (s.link.byteCount ≠ 0 → s.link.overrun = false →
        (64 < s.link.byteCount → frameSort s.link = .malformed .tooLong)
        ∧ (s.link.byteCount = 1 → frameSort s.link = .malformed .tooShort)
        ∧ (2 ≤ s.link.byteCount → s.link.byteCount ≤ 4 → s.link.bytes.getD 0 0 ≠ 0 →
            frameSort s.link = .malformed .tooShort)
        ∧ (5 ≤ s.link.byteCount → s.link.byteCount ≤ 64 → s.link.bytes.getD 0 0 ≠ 0 →
            (∀ n : ReqName, n.letters ≠ s.link.bytes.take 4) → frameSort s.link = .malformed .unknownName)
        ∧ ∀ n : ReqName, 5 ≤ s.link.byteCount → s.link.byteCount ≤ 64 → s.link.bytes.take 4 = n.letters →
            (s.link.bytes.getD 4 0).toNat ≠ n.length ∨ s.link.byteCount < 5 + n.length →
            frameSort s.link = .malformed .wrongLength)
    ∧ (s.phase = .running → s.link.byteCount ≠ 0 → s.link.overrun = true →
        exec .overrunFrame s = .next (raiseNotice .link 1
          (noticeArg (s.link.bytes.getD 0 0) (s.link.bytes.getD 1 0) (s.link.bytes.getD 2 0) (s.link.bytes.getD 3 0))
          { s with link := { s.link with receiving := false } }))
    ∧ (s.phase ≠ .running ∨ s.link.byteCount = 0 → ∀ i : Instr,
        i = .fetchFrame ∨ i = .malformedFrame ∨ i = .overrunFrame ∨ (∃ e, i = .requestFrameEnd e) →
        exec i s = .next { s with link := { s.link with receiving := false } })

/-! ## The settings store and start-up -/

/-- A write that matches at its read-back is stored; one that does not raises its notice, leaves what was stored or a damaged
record, and puts the record at the head of the dirty set to wait for its retry; a retry wait's end lets the record be taken again
(R199; what a failed write leaves is log 7, the record a retry names log 33). That a record marked again during its failed write
stands once, at the head, is log 25, and that the end of a write changes nothing while the writer is IDLE is log 2. In the flush a
write ends as its read-back says, without notice and without retry, and the writer takes the oldest dirty record, even one that
waits (R201; log 24). -/
def Obligations.WritesAndRetries : Prop :=
  (∀ (r : ReadBack) (w : Writing) (s : State), s.phase = .flush → s.store.writing = some w →
    ∃ x, StoredAfter r (storedAt s.store.records w.number) w.record x
      ∧ (s.store.dirty = [] → exec (.writeEnd r) s = .next { s with
          store := { s.store with records := s.store.records.set w.number x, writing := none } })
      ∧ ∀ n rest, s.store.dirty = n :: rest → exec (.writeEnd r) s = .next { s with
          store := { s.store with
            records := s.store.records.set w.number x, dirty := rest, waiting := s.store.waiting.erase n,
            writing := some { number := n, record := { content := recordContent n s, check := crc8 (recordContent n s) } } } })
  ∧ (∀ (r : ReadBack) (w : Writing) (s : State), s.phase ≠ .flush → s.store.writing = some w →
    (r = .matched → exec (.writeEnd r) s = .next (startWrite { s with
      store := { s.store with records := s.store.records.set w.number w.record, writing := none } }))
    ∧ (r = .kept → w.number < s.store.records.length → exec (.writeEnd r) s = .next (startWrite
        { raiseNotice .store 2 (noticeArg (byte w.number) 0 0 0) s with
          store := { s.store with writing := none, dirty := w.number :: s.store.dirty.erase w.number,
                                  waiting := w.number :: s.store.waiting.erase w.number } }))
    ∧ (∀ d : Damage, r = .damaged d → d.error ≠ 0 → exec (.writeEnd r) s = .next (startWrite
        { raiseNotice .store 2 (noticeArg (byte w.number) 0 0 0) s with
          store := { s.store with
            records := s.store.records.set w.number { content := d.content, check := crc8 d.content ^^^ d.error },
            writing := none, dirty := w.number :: s.store.dirty.erase w.number,
            waiting := w.number :: s.store.waiting.erase w.number } })))
  ∧ (∀ (r : ReadBack) (s : State), s.store.writing = none → exec (.writeEnd r) s = .next s)
  ∧ (∀ (n : Nat) (s : State), s.phase ≠ .flush → n ∈ s.store.waiting → exec (.retryWaitEnd n) s =
      .next (startWrite { s with store := { s.store with waiting := s.store.waiting.erase n } }))
  ∧ ∀ s : State, s.store.writing = none → ∀ pre n post, s.store.dirty = pre ++ n :: post →
      (∀ m ∈ pre, m ∈ s.store.waiting) → n ∉ s.store.waiting →
      startWrite s = { s with store := { s.store with
        dirty := s.store.dirty.erase n,
        writing := some { number := n, record := { content := recordContent n s, check := crc8 (recordContent n s) } } } }

/-- RSTR of class SERVICE begins the flush: the key latch is emptied and the writer, when IDLE, takes the oldest dirty record, even
one that waits for a retry, with its content as it stands; its reply DONE is held and never staged (R172, R188, R201; log 24, log
31). The flush's end begins start-up with the clock kept, and a power reset begins it with the clock UNSET at 0 (R30, R200, R201); in
either case every block has its reset values or what was loaded (`AtStartUp`; R78, R116, R140, R156, R170, R179, R194). What the
settings take from their records is `SettingsLoaded` (R95, R118, R142, R198, R200), the rebuilt table is `TableRebuilt` (R8 to R13),
and the records that failed are marked, with the STORE notice of the last (`FaultsMarked`; R199, R200). The stored records that are
loaded are those after the flush, each dirty record written once, its write failed or not, or those that a cut-off write left (R199,
R201; log 5, log 7, log 24, log 26). A frame in progress is answered with NOT READY and fill in either case, and what it carries is lost (log 43).
Outside the flush the flush's end changes nothing (log 2). -/
def Obligations.RestartAndPowerReset : Prop :=
  (∀ s : State, s.phase = .running →
    (s.store.writing ≠ none ∨ s.store.dirty = [] →
      exec (.rstr .service) s = .next ({ s with phase := .flush, panel := none }.replied .rstr .done []))
    ∧ ∀ n rest, s.store.writing = none → s.store.dirty = n :: rest →
      exec (.rstr .service) s = .next ({ s with
        phase := .flush
        panel := none
        store := { s.store with
          dirty := rest, waiting := s.store.waiting.erase n,
          writing := some { number := n, record := { content := recordContent n s, check := crc8 (recordContent n s) } } }
        }.replied .rstr .done []))
  ∧ (∀ (failed : List (Nat × ReadBack)) (s : State), s.phase = .flush →
      ∃ t : State, exec (.restartFlushEnd failed) s = .next t ∧ t.clock = s.clock ∧ AtStartUp s t
        ∧ Flushed failed s t.store.records)
  ∧ (∀ (failed : List (Nat × ReadBack)) (s : State), s.phase ≠ .flush → exec (.restartFlushEnd failed) s = .next s)
  ∧ ∀ (d : Damage) (s : State),
      ∃ t : State, exec (.powerReset d) s = .next t ∧ t.clock = { minute := 0, second := 0, isSet := false } ∧ AtStartUp s t
        ∧ (s.store.writing = none → t.store.records = s.store.records)
        ∧ (∀ w, s.store.writing = some w → d.error ≠ 0 → t.store.records = s.store.records.set w.number
            { content := d.content, check := crc8 d.content ^^^ d.error })

/-- At the end of start-up FIRE is placed, with its notice, if the line is active, the level seen is the line's, the part is
RUNNING, the link has its reset values and the latch is empty; then the schedule check is made if the clock is SET (R36, R105,
R115, R116, R172, R179, R188, R200). A frame already begun is discarded, and owes the status NOT READY it had loaded if no byte of it
is out (log 43). A message in the engine latch
stays there until its own row takes it (log 21). In any other phase the row changes nothing (log 2). -/
def Obligations.StartUpEnds : Prop :=
  ∀ s : State,
    (s.phase = .startUp → ∃ u v w : State,
      (s.fire.level = true → BurningCooled (fun p => if s.engine.state = .fault then s.engine.lampSlot p else some .douse)
        (raiseNotice .hold 1 (noticeArg 0 255 0 0)
          { s with fire := { level := true, seen := true }, holds := s.holds.set fireSlot (some fireHold) }) u)
      ∧ (s.fire.level = false → u = { s with fire := { level := false, seen := false } })
      ∧ v = { u with phase := .running, panel := none, link := { Link.reset with
          owed := s.link.owed || (s.link.receiving && s.link.byteCount == 0) } }
      ∧ ScheduleChecked (effectiveNow v) v w ∧ exec .startUpEnd s = .next (finish w)
      ∧ (finish w).engine.latch = s.engine.latch ∧ (finish w).clock = s.clock)
    ∧ (s.phase ≠ .startUp → exec .startUpEnd s = .next s)

/-! ## What every step keeps -/

/-- The shutter is OPEN exactly when the seven conditions hold: every step keeps this (R158, R159). -/
def Obligations.ShutterFollowsConditions : Prop := KeptByStep GateAgrees

/-- For each position the committed wear is the sum of the planned wear of the PENDING bookings: every step keeps this (R94). -/
def Obligations.CommittedWearIsTheSum : Prop := KeptByStep CommittedAgrees

/-- The channel's state, timer, flight and slots agree, and every corner that is wanted, queued, in flight or applied is in the
raster: every step keeps each (R150, R161, R163). -/
def Obligations.ChannelAndCornersKeepShape : Prop := KeptByStep ChannelShape ∧ KeptByStep CornersInRaster

/-- The switch machine's items agree with its state: every step keeps this (R121 to R127). -/
def Obligations.SwitchKeepsShape : Prop := KeptByStep SwitchShape

/-- The lamps' counts are in their ranges and agree with their states, and no lamp is STRIKING at or beyond its spent limit: every
step keeps each (R55, R56, R61, R63, R66, R68, R82, R87). No lamp is STRIKING or LIT while a FIRE, DOOR or THERMAL hold stands or
the channel is in FAULT, and those holds stand as the manual writes them: every step keeps the two together (R70, R71, R101). -/
def Obligations.LampsKeepShape : Prop :=
  KeptByStep LampShape ∧ KeptByStep StrikingBelowSpent ∧ KeptByStep (fun s => SystemHolds s ∧ DarkUnderHold s)

/-- The hold table keeps its shape at every step (R101, R102). -/
def Obligations.HoldTableKeepsShape : Prop := KeptByStep HoldTableShape

/-- The booking table keeps its order, its distinct tags, its ranges, its capacity and its one active booking at every step; and
so does the rule that the session and an active booking never stand together (R3, R6, R34, R50). With the table's shape every step
keeps that the EXAM hold stands exactly while a RUNNING booking is an exam (R107), and, with that rule too, that the schedule unit's
active booking, its demand and its started-at minute are those of the booking that is WARMING or RUNNING (R34, R35; log 18 and log
35). -/
def Obligations.TableAndSessionKeepShape : Prop :=
  KeptByStep TableShape ∧ KeptByStep SessionAlone ∧ KeptByStep (fun s => TableShape s ∧ ExamAgrees s)
    ∧ KeptByStep (fun s => TableShape s ∧ SessionAlone s ∧ ActiveAgrees s)

/-- The store keeps its 67 records and its lists without repeats, its numbers below 67 and what waits among what is dirty, and the
bookings keep their distinct slots below 48, at every step; and the clock and the configuration keep their ranges (R7, R29, R198,
R199). -/
def Obligations.StoreClockAndConfigKeepShape : Prop :=
  KeptByStep (fun s => StoreShape s ∧ SlotsDistinct s) ∧ KeptByStep ClockAndConfigInRange

/-- The state after a power reset meets everything that every step keeps. Its memory of settings is the model's first store
(log 6). -/
def Obligations.ResetMeetsAll : Prop :=
  GateAgrees State.reset ∧ CommittedAgrees State.reset ∧ ChannelShape State.reset ∧ CornersInRaster State.reset
    ∧ SwitchShape State.reset ∧ LampShape State.reset ∧ StrikingBelowSpent State.reset ∧ SystemHolds State.reset
    ∧ DarkUnderHold State.reset ∧ HoldTableShape State.reset ∧ TableShape State.reset ∧ SessionAlone State.reset
    ∧ ExamAgrees State.reset ∧ ActiveAgrees State.reset ∧ StoreShape State.reset ∧ SlotsDistinct State.reset
    ∧ ClockAndConfigInRange State.reset
end

