-- ==== Sys2Proof/Laws/State.lean ====
section
/-! SUPPORT. One lemma for each field under each update of `State`, so that no proof unfolds a record update. -/

namespace Sys2Proof.Machine

/-! ### setClock -/
@[simp] theorem State.setClock_phase (s : State) (x) : (s.setClock x).phase = s.phase := rfl
@[simp] theorem State.setClock_clock (s : State) (x) : (s.setClock x).clock = x := rfl
@[simp] theorem State.setClock_config (s : State) (x) : (s.setClock x).config = s.config := rfl
@[simp] theorem State.setClock_store (s : State) (x) : (s.setClock x).store = s.store := rfl
@[simp] theorem State.setClock_notices (s : State) (x) : (s.setClock x).notices = s.notices := rfl
@[simp] theorem State.setClock_holds (s : State) (x) : (s.setClock x).holds = s.holds := rfl
@[simp] theorem State.setClock_fire (s : State) (x) : (s.setClock x).fire = s.fire := rfl
@[simp] theorem State.setClock_bookings (s : State) (x) : (s.setClock x).bookings = s.bookings := rfl
@[simp] theorem State.setClock_sched (s : State) (x) : (s.setClock x).sched = s.sched := rfl
@[simp] theorem State.setClock_lampA (s : State) (x) : (s.setClock x).lampA = s.lampA := rfl
@[simp] theorem State.setClock_lampB (s : State) (x) : (s.setClock x).lampB = s.lampB := rfl
@[simp] theorem State.setClock_thermal (s : State) (x) : (s.setClock x).thermal = s.thermal := rfl
@[simp] theorem State.setClock_profiles (s : State) (x) : (s.setClock x).profiles = s.profiles := rfl
@[simp] theorem State.setClock_switch (s : State) (x) : (s.setClock x).switch = s.switch := rfl
@[simp] theorem State.setClock_meter (s : State) (x) : (s.setClock x).meter = s.meter := rfl
@[simp] theorem State.setClock_geom (s : State) (x) : (s.setClock x).geom = s.geom := rfl
@[simp] theorem State.setClock_gate (s : State) (x) : (s.setClock x).gate = s.gate := rfl
@[simp] theorem State.setClock_engine (s : State) (x) : (s.setClock x).engine = s.engine := rfl
@[simp] theorem State.setClock_link (s : State) (x) : (s.setClock x).link = s.link := rfl
@[simp] theorem State.setClock_panel (s : State) (x) : (s.setClock x).panel = s.panel := rfl
@[simp] theorem State.setClock_freeCount (s : State) (x) : (s.setClock x).freeCount = s.freeCount := rfl
@[simp] theorem State.setClock_pending (s : State) (x) : (s.setClock x).pending = s.pending := rfl
@[simp] theorem State.setClock_lamp (s : State) (x) (p : Pos) : (s.setClock x).lamp p = s.lamp p := by cases p <;> rfl

/-! ### setConfig -/
@[simp] theorem State.setConfig_phase (s : State) (x) : (s.setConfig x).phase = s.phase := rfl
@[simp] theorem State.setConfig_clock (s : State) (x) : (s.setConfig x).clock = s.clock := rfl
@[simp] theorem State.setConfig_config (s : State) (x) : (s.setConfig x).config = x := rfl
@[simp] theorem State.setConfig_store (s : State) (x) : (s.setConfig x).store = s.store := rfl
@[simp] theorem State.setConfig_notices (s : State) (x) : (s.setConfig x).notices = s.notices := rfl
@[simp] theorem State.setConfig_holds (s : State) (x) : (s.setConfig x).holds = s.holds := rfl
@[simp] theorem State.setConfig_fire (s : State) (x) : (s.setConfig x).fire = s.fire := rfl
@[simp] theorem State.setConfig_bookings (s : State) (x) : (s.setConfig x).bookings = s.bookings := rfl
@[simp] theorem State.setConfig_sched (s : State) (x) : (s.setConfig x).sched = s.sched := rfl
@[simp] theorem State.setConfig_lampA (s : State) (x) : (s.setConfig x).lampA = s.lampA := rfl
@[simp] theorem State.setConfig_lampB (s : State) (x) : (s.setConfig x).lampB = s.lampB := rfl
@[simp] theorem State.setConfig_thermal (s : State) (x) : (s.setConfig x).thermal = s.thermal := rfl
@[simp] theorem State.setConfig_profiles (s : State) (x) : (s.setConfig x).profiles = s.profiles := rfl
@[simp] theorem State.setConfig_switch (s : State) (x) : (s.setConfig x).switch = s.switch := rfl
@[simp] theorem State.setConfig_meter (s : State) (x) : (s.setConfig x).meter = s.meter := rfl
@[simp] theorem State.setConfig_geom (s : State) (x) : (s.setConfig x).geom = s.geom := rfl
@[simp] theorem State.setConfig_gate (s : State) (x) : (s.setConfig x).gate = s.gate := rfl
@[simp] theorem State.setConfig_engine (s : State) (x) : (s.setConfig x).engine = s.engine := rfl
@[simp] theorem State.setConfig_link (s : State) (x) : (s.setConfig x).link = s.link := rfl
@[simp] theorem State.setConfig_panel (s : State) (x) : (s.setConfig x).panel = s.panel := rfl
@[simp] theorem State.setConfig_freeCount (s : State) (x) : (s.setConfig x).freeCount = s.freeCount := rfl
@[simp] theorem State.setConfig_pending (s : State) (x) : (s.setConfig x).pending = s.pending := rfl
@[simp] theorem State.setConfig_lamp (s : State) (x) (p : Pos) : (s.setConfig x).lamp p = s.lamp p := by cases p <;> rfl

/-! ### setStore -/
@[simp] theorem State.setStore_phase (s : State) (x) : (s.setStore x).phase = s.phase := rfl
@[simp] theorem State.setStore_clock (s : State) (x) : (s.setStore x).clock = s.clock := rfl
@[simp] theorem State.setStore_config (s : State) (x) : (s.setStore x).config = s.config := rfl
@[simp] theorem State.setStore_store (s : State) (x) : (s.setStore x).store = x := rfl
@[simp] theorem State.setStore_notices (s : State) (x) : (s.setStore x).notices = s.notices := rfl
@[simp] theorem State.setStore_holds (s : State) (x) : (s.setStore x).holds = s.holds := rfl
@[simp] theorem State.setStore_fire (s : State) (x) : (s.setStore x).fire = s.fire := rfl
@[simp] theorem State.setStore_bookings (s : State) (x) : (s.setStore x).bookings = s.bookings := rfl
@[simp] theorem State.setStore_sched (s : State) (x) : (s.setStore x).sched = s.sched := rfl
@[simp] theorem State.setStore_lampA (s : State) (x) : (s.setStore x).lampA = s.lampA := rfl
@[simp] theorem State.setStore_lampB (s : State) (x) : (s.setStore x).lampB = s.lampB := rfl
@[simp] theorem State.setStore_thermal (s : State) (x) : (s.setStore x).thermal = s.thermal := rfl
@[simp] theorem State.setStore_profiles (s : State) (x) : (s.setStore x).profiles = s.profiles := rfl
@[simp] theorem State.setStore_switch (s : State) (x) : (s.setStore x).switch = s.switch := rfl
@[simp] theorem State.setStore_meter (s : State) (x) : (s.setStore x).meter = s.meter := rfl
@[simp] theorem State.setStore_geom (s : State) (x) : (s.setStore x).geom = s.geom := rfl
@[simp] theorem State.setStore_gate (s : State) (x) : (s.setStore x).gate = s.gate := rfl
@[simp] theorem State.setStore_engine (s : State) (x) : (s.setStore x).engine = s.engine := rfl
@[simp] theorem State.setStore_link (s : State) (x) : (s.setStore x).link = s.link := rfl
@[simp] theorem State.setStore_panel (s : State) (x) : (s.setStore x).panel = s.panel := rfl
@[simp] theorem State.setStore_freeCount (s : State) (x) : (s.setStore x).freeCount = s.freeCount := rfl
@[simp] theorem State.setStore_pending (s : State) (x) : (s.setStore x).pending = s.pending := rfl
@[simp] theorem State.setStore_lamp (s : State) (x) (p : Pos) : (s.setStore x).lamp p = s.lamp p := by cases p <;> rfl

/-! ### setHolds -/
@[simp] theorem State.setHolds_phase (s : State) (x) : (s.setHolds x).phase = s.phase := rfl
@[simp] theorem State.setHolds_clock (s : State) (x) : (s.setHolds x).clock = s.clock := rfl
@[simp] theorem State.setHolds_config (s : State) (x) : (s.setHolds x).config = s.config := rfl
@[simp] theorem State.setHolds_store (s : State) (x) : (s.setHolds x).store = s.store := rfl
@[simp] theorem State.setHolds_notices (s : State) (x) : (s.setHolds x).notices = s.notices := rfl
@[simp] theorem State.setHolds_holds (s : State) (x) : (s.setHolds x).holds = x := rfl
@[simp] theorem State.setHolds_fire (s : State) (x) : (s.setHolds x).fire = s.fire := rfl
@[simp] theorem State.setHolds_bookings (s : State) (x) : (s.setHolds x).bookings = s.bookings := rfl
@[simp] theorem State.setHolds_sched (s : State) (x) : (s.setHolds x).sched = s.sched := rfl
@[simp] theorem State.setHolds_lampA (s : State) (x) : (s.setHolds x).lampA = s.lampA := rfl
@[simp] theorem State.setHolds_lampB (s : State) (x) : (s.setHolds x).lampB = s.lampB := rfl
@[simp] theorem State.setHolds_thermal (s : State) (x) : (s.setHolds x).thermal = s.thermal := rfl
@[simp] theorem State.setHolds_profiles (s : State) (x) : (s.setHolds x).profiles = s.profiles := rfl
@[simp] theorem State.setHolds_switch (s : State) (x) : (s.setHolds x).switch = s.switch := rfl
@[simp] theorem State.setHolds_meter (s : State) (x) : (s.setHolds x).meter = s.meter := rfl
@[simp] theorem State.setHolds_geom (s : State) (x) : (s.setHolds x).geom = s.geom := rfl
@[simp] theorem State.setHolds_gate (s : State) (x) : (s.setHolds x).gate = s.gate := rfl
@[simp] theorem State.setHolds_engine (s : State) (x) : (s.setHolds x).engine = s.engine := rfl
@[simp] theorem State.setHolds_link (s : State) (x) : (s.setHolds x).link = s.link := rfl
@[simp] theorem State.setHolds_panel (s : State) (x) : (s.setHolds x).panel = s.panel := rfl
@[simp] theorem State.setHolds_freeCount (s : State) (x) : (s.setHolds x).freeCount = s.freeCount := rfl
@[simp] theorem State.setHolds_pending (s : State) (x) : (s.setHolds x).pending = s.pending := rfl
@[simp] theorem State.setHolds_lamp (s : State) (x) (p : Pos) : (s.setHolds x).lamp p = s.lamp p := by cases p <;> rfl

/-! ### setFire -/
@[simp] theorem State.setFire_phase (s : State) (x) : (s.setFire x).phase = s.phase := rfl
@[simp] theorem State.setFire_clock (s : State) (x) : (s.setFire x).clock = s.clock := rfl
@[simp] theorem State.setFire_config (s : State) (x) : (s.setFire x).config = s.config := rfl
@[simp] theorem State.setFire_store (s : State) (x) : (s.setFire x).store = s.store := rfl
@[simp] theorem State.setFire_notices (s : State) (x) : (s.setFire x).notices = s.notices := rfl
@[simp] theorem State.setFire_holds (s : State) (x) : (s.setFire x).holds = s.holds := rfl
@[simp] theorem State.setFire_fire (s : State) (x) : (s.setFire x).fire = x := rfl
@[simp] theorem State.setFire_bookings (s : State) (x) : (s.setFire x).bookings = s.bookings := rfl
@[simp] theorem State.setFire_sched (s : State) (x) : (s.setFire x).sched = s.sched := rfl
@[simp] theorem State.setFire_lampA (s : State) (x) : (s.setFire x).lampA = s.lampA := rfl
@[simp] theorem State.setFire_lampB (s : State) (x) : (s.setFire x).lampB = s.lampB := rfl
@[simp] theorem State.setFire_thermal (s : State) (x) : (s.setFire x).thermal = s.thermal := rfl
@[simp] theorem State.setFire_profiles (s : State) (x) : (s.setFire x).profiles = s.profiles := rfl
@[simp] theorem State.setFire_switch (s : State) (x) : (s.setFire x).switch = s.switch := rfl
@[simp] theorem State.setFire_meter (s : State) (x) : (s.setFire x).meter = s.meter := rfl
@[simp] theorem State.setFire_geom (s : State) (x) : (s.setFire x).geom = s.geom := rfl
@[simp] theorem State.setFire_gate (s : State) (x) : (s.setFire x).gate = s.gate := rfl
@[simp] theorem State.setFire_engine (s : State) (x) : (s.setFire x).engine = s.engine := rfl
@[simp] theorem State.setFire_link (s : State) (x) : (s.setFire x).link = s.link := rfl
@[simp] theorem State.setFire_panel (s : State) (x) : (s.setFire x).panel = s.panel := rfl
@[simp] theorem State.setFire_freeCount (s : State) (x) : (s.setFire x).freeCount = s.freeCount := rfl
@[simp] theorem State.setFire_pending (s : State) (x) : (s.setFire x).pending = s.pending := rfl
@[simp] theorem State.setFire_lamp (s : State) (x) (p : Pos) : (s.setFire x).lamp p = s.lamp p := by cases p <;> rfl

/-! ### setTable -/
@[simp] theorem State.setTable_phase (s : State) (x) : (s.setTable x).phase = s.phase := rfl
@[simp] theorem State.setTable_clock (s : State) (x) : (s.setTable x).clock = s.clock := rfl
@[simp] theorem State.setTable_config (s : State) (x) : (s.setTable x).config = s.config := rfl
@[simp] theorem State.setTable_store (s : State) (x) : (s.setTable x).store = s.store := rfl
@[simp] theorem State.setTable_notices (s : State) (x) : (s.setTable x).notices = s.notices := rfl
@[simp] theorem State.setTable_holds (s : State) (x) : (s.setTable x).holds = s.holds := rfl
@[simp] theorem State.setTable_fire (s : State) (x) : (s.setTable x).fire = s.fire := rfl
@[simp] theorem State.setTable_bookings (s : State) (x) : (s.setTable x).bookings = x := rfl
@[simp] theorem State.setTable_sched (s : State) (x) : (s.setTable x).sched = s.sched := rfl
@[simp] theorem State.setTable_lampA (s : State) (x) : (s.setTable x).lampA = s.lampA := rfl
@[simp] theorem State.setTable_lampB (s : State) (x) : (s.setTable x).lampB = s.lampB := rfl
@[simp] theorem State.setTable_thermal (s : State) (x) : (s.setTable x).thermal = s.thermal := rfl
@[simp] theorem State.setTable_profiles (s : State) (x) : (s.setTable x).profiles = s.profiles := rfl
@[simp] theorem State.setTable_switch (s : State) (x) : (s.setTable x).switch = s.switch := rfl
@[simp] theorem State.setTable_meter (s : State) (x) : (s.setTable x).meter = s.meter := rfl
@[simp] theorem State.setTable_geom (s : State) (x) : (s.setTable x).geom = s.geom := rfl
@[simp] theorem State.setTable_gate (s : State) (x) : (s.setTable x).gate = s.gate := rfl
@[simp] theorem State.setTable_engine (s : State) (x) : (s.setTable x).engine = s.engine := rfl
@[simp] theorem State.setTable_link (s : State) (x) : (s.setTable x).link = s.link := rfl
@[simp] theorem State.setTable_panel (s : State) (x) : (s.setTable x).panel = s.panel := rfl
@[simp] theorem State.setTable_freeCount (s : State) (x) : (s.setTable x).freeCount = s.freeCount := rfl
@[simp] theorem State.setTable_pending (s : State) (x) : (s.setTable x).pending = s.pending := rfl
@[simp] theorem State.setTable_lamp (s : State) (x) (p : Pos) : (s.setTable x).lamp p = s.lamp p := by cases p <;> rfl

/-! ### setSched -/
@[simp] theorem State.setSched_phase (s : State) (x) : (s.setSched x).phase = s.phase := rfl
@[simp] theorem State.setSched_clock (s : State) (x) : (s.setSched x).clock = s.clock := rfl
@[simp] theorem State.setSched_config (s : State) (x) : (s.setSched x).config = s.config := rfl
@[simp] theorem State.setSched_store (s : State) (x) : (s.setSched x).store = s.store := rfl
@[simp] theorem State.setSched_notices (s : State) (x) : (s.setSched x).notices = s.notices := rfl
@[simp] theorem State.setSched_holds (s : State) (x) : (s.setSched x).holds = s.holds := rfl
@[simp] theorem State.setSched_fire (s : State) (x) : (s.setSched x).fire = s.fire := rfl
@[simp] theorem State.setSched_bookings (s : State) (x) : (s.setSched x).bookings = s.bookings := rfl
@[simp] theorem State.setSched_sched (s : State) (x) : (s.setSched x).sched = x := rfl
@[simp] theorem State.setSched_lampA (s : State) (x) : (s.setSched x).lampA = s.lampA := rfl
@[simp] theorem State.setSched_lampB (s : State) (x) : (s.setSched x).lampB = s.lampB := rfl
@[simp] theorem State.setSched_thermal (s : State) (x) : (s.setSched x).thermal = s.thermal := rfl
@[simp] theorem State.setSched_profiles (s : State) (x) : (s.setSched x).profiles = s.profiles := rfl
@[simp] theorem State.setSched_switch (s : State) (x) : (s.setSched x).switch = s.switch := rfl
@[simp] theorem State.setSched_meter (s : State) (x) : (s.setSched x).meter = s.meter := rfl
@[simp] theorem State.setSched_geom (s : State) (x) : (s.setSched x).geom = s.geom := rfl
@[simp] theorem State.setSched_gate (s : State) (x) : (s.setSched x).gate = s.gate := rfl
@[simp] theorem State.setSched_engine (s : State) (x) : (s.setSched x).engine = s.engine := rfl
@[simp] theorem State.setSched_link (s : State) (x) : (s.setSched x).link = s.link := rfl
@[simp] theorem State.setSched_panel (s : State) (x) : (s.setSched x).panel = s.panel := rfl
@[simp] theorem State.setSched_freeCount (s : State) (x) : (s.setSched x).freeCount = s.freeCount := rfl
@[simp] theorem State.setSched_pending (s : State) (x) : (s.setSched x).pending = s.pending := rfl
@[simp] theorem State.setSched_lamp (s : State) (x) (p : Pos) : (s.setSched x).lamp p = s.lamp p := by cases p <;> rfl

/-! ### setThermal -/
@[simp] theorem State.setThermal_phase (s : State) (x) : (s.setThermal x).phase = s.phase := rfl
@[simp] theorem State.setThermal_clock (s : State) (x) : (s.setThermal x).clock = s.clock := rfl
@[simp] theorem State.setThermal_config (s : State) (x) : (s.setThermal x).config = s.config := rfl
@[simp] theorem State.setThermal_store (s : State) (x) : (s.setThermal x).store = s.store := rfl
@[simp] theorem State.setThermal_notices (s : State) (x) : (s.setThermal x).notices = s.notices := rfl
@[simp] theorem State.setThermal_holds (s : State) (x) : (s.setThermal x).holds = s.holds := rfl
@[simp] theorem State.setThermal_fire (s : State) (x) : (s.setThermal x).fire = s.fire := rfl
@[simp] theorem State.setThermal_bookings (s : State) (x) : (s.setThermal x).bookings = s.bookings := rfl
@[simp] theorem State.setThermal_sched (s : State) (x) : (s.setThermal x).sched = s.sched := rfl
@[simp] theorem State.setThermal_lampA (s : State) (x) : (s.setThermal x).lampA = s.lampA := rfl
@[simp] theorem State.setThermal_lampB (s : State) (x) : (s.setThermal x).lampB = s.lampB := rfl
@[simp] theorem State.setThermal_thermal (s : State) (x) : (s.setThermal x).thermal = x := rfl
@[simp] theorem State.setThermal_profiles (s : State) (x) : (s.setThermal x).profiles = s.profiles := rfl
@[simp] theorem State.setThermal_switch (s : State) (x) : (s.setThermal x).switch = s.switch := rfl
@[simp] theorem State.setThermal_meter (s : State) (x) : (s.setThermal x).meter = s.meter := rfl
@[simp] theorem State.setThermal_geom (s : State) (x) : (s.setThermal x).geom = s.geom := rfl
@[simp] theorem State.setThermal_gate (s : State) (x) : (s.setThermal x).gate = s.gate := rfl
@[simp] theorem State.setThermal_engine (s : State) (x) : (s.setThermal x).engine = s.engine := rfl
@[simp] theorem State.setThermal_link (s : State) (x) : (s.setThermal x).link = s.link := rfl
@[simp] theorem State.setThermal_panel (s : State) (x) : (s.setThermal x).panel = s.panel := rfl
@[simp] theorem State.setThermal_freeCount (s : State) (x) : (s.setThermal x).freeCount = s.freeCount := rfl
@[simp] theorem State.setThermal_pending (s : State) (x) : (s.setThermal x).pending = s.pending := rfl
@[simp] theorem State.setThermal_lamp (s : State) (x) (p : Pos) : (s.setThermal x).lamp p = s.lamp p := by cases p <;> rfl

/-! ### setProfiles -/
@[simp] theorem State.setProfiles_phase (s : State) (x) : (s.setProfiles x).phase = s.phase := rfl
@[simp] theorem State.setProfiles_clock (s : State) (x) : (s.setProfiles x).clock = s.clock := rfl
@[simp] theorem State.setProfiles_config (s : State) (x) : (s.setProfiles x).config = s.config := rfl
@[simp] theorem State.setProfiles_store (s : State) (x) : (s.setProfiles x).store = s.store := rfl
@[simp] theorem State.setProfiles_notices (s : State) (x) : (s.setProfiles x).notices = s.notices := rfl
@[simp] theorem State.setProfiles_holds (s : State) (x) : (s.setProfiles x).holds = s.holds := rfl
@[simp] theorem State.setProfiles_fire (s : State) (x) : (s.setProfiles x).fire = s.fire := rfl
@[simp] theorem State.setProfiles_bookings (s : State) (x) : (s.setProfiles x).bookings = s.bookings := rfl
@[simp] theorem State.setProfiles_sched (s : State) (x) : (s.setProfiles x).sched = s.sched := rfl
@[simp] theorem State.setProfiles_lampA (s : State) (x) : (s.setProfiles x).lampA = s.lampA := rfl
@[simp] theorem State.setProfiles_lampB (s : State) (x) : (s.setProfiles x).lampB = s.lampB := rfl
@[simp] theorem State.setProfiles_thermal (s : State) (x) : (s.setProfiles x).thermal = s.thermal := rfl
@[simp] theorem State.setProfiles_profiles (s : State) (x) : (s.setProfiles x).profiles = x := rfl
@[simp] theorem State.setProfiles_switch (s : State) (x) : (s.setProfiles x).switch = s.switch := rfl
@[simp] theorem State.setProfiles_meter (s : State) (x) : (s.setProfiles x).meter = s.meter := rfl
@[simp] theorem State.setProfiles_geom (s : State) (x) : (s.setProfiles x).geom = s.geom := rfl
@[simp] theorem State.setProfiles_gate (s : State) (x) : (s.setProfiles x).gate = s.gate := rfl
@[simp] theorem State.setProfiles_engine (s : State) (x) : (s.setProfiles x).engine = s.engine := rfl
@[simp] theorem State.setProfiles_link (s : State) (x) : (s.setProfiles x).link = s.link := rfl
@[simp] theorem State.setProfiles_panel (s : State) (x) : (s.setProfiles x).panel = s.panel := rfl
@[simp] theorem State.setProfiles_freeCount (s : State) (x) : (s.setProfiles x).freeCount = s.freeCount := rfl
@[simp] theorem State.setProfiles_pending (s : State) (x) : (s.setProfiles x).pending = s.pending := rfl
@[simp] theorem State.setProfiles_lamp (s : State) (x) (p : Pos) : (s.setProfiles x).lamp p = s.lamp p := by cases p <;> rfl

/-! ### setSwitch -/
@[simp] theorem State.setSwitch_phase (s : State) (x) : (s.setSwitch x).phase = s.phase := rfl
@[simp] theorem State.setSwitch_clock (s : State) (x) : (s.setSwitch x).clock = s.clock := rfl
@[simp] theorem State.setSwitch_config (s : State) (x) : (s.setSwitch x).config = s.config := rfl
@[simp] theorem State.setSwitch_store (s : State) (x) : (s.setSwitch x).store = s.store := rfl
@[simp] theorem State.setSwitch_notices (s : State) (x) : (s.setSwitch x).notices = s.notices := rfl
@[simp] theorem State.setSwitch_holds (s : State) (x) : (s.setSwitch x).holds = s.holds := rfl
@[simp] theorem State.setSwitch_fire (s : State) (x) : (s.setSwitch x).fire = s.fire := rfl
@[simp] theorem State.setSwitch_bookings (s : State) (x) : (s.setSwitch x).bookings = s.bookings := rfl
@[simp] theorem State.setSwitch_sched (s : State) (x) : (s.setSwitch x).sched = s.sched := rfl
@[simp] theorem State.setSwitch_lampA (s : State) (x) : (s.setSwitch x).lampA = s.lampA := rfl
@[simp] theorem State.setSwitch_lampB (s : State) (x) : (s.setSwitch x).lampB = s.lampB := rfl
@[simp] theorem State.setSwitch_thermal (s : State) (x) : (s.setSwitch x).thermal = s.thermal := rfl
@[simp] theorem State.setSwitch_profiles (s : State) (x) : (s.setSwitch x).profiles = s.profiles := rfl
@[simp] theorem State.setSwitch_switch (s : State) (x) : (s.setSwitch x).switch = x := rfl
@[simp] theorem State.setSwitch_meter (s : State) (x) : (s.setSwitch x).meter = s.meter := rfl
@[simp] theorem State.setSwitch_geom (s : State) (x) : (s.setSwitch x).geom = s.geom := rfl
@[simp] theorem State.setSwitch_gate (s : State) (x) : (s.setSwitch x).gate = s.gate := rfl
@[simp] theorem State.setSwitch_engine (s : State) (x) : (s.setSwitch x).engine = s.engine := rfl
@[simp] theorem State.setSwitch_link (s : State) (x) : (s.setSwitch x).link = s.link := rfl
@[simp] theorem State.setSwitch_panel (s : State) (x) : (s.setSwitch x).panel = s.panel := rfl
@[simp] theorem State.setSwitch_freeCount (s : State) (x) : (s.setSwitch x).freeCount = s.freeCount := rfl
@[simp] theorem State.setSwitch_pending (s : State) (x) : (s.setSwitch x).pending = s.pending := rfl
@[simp] theorem State.setSwitch_lamp (s : State) (x) (p : Pos) : (s.setSwitch x).lamp p = s.lamp p := by cases p <;> rfl

/-! ### setMeter -/
@[simp] theorem State.setMeter_phase (s : State) (x) : (s.setMeter x).phase = s.phase := rfl
@[simp] theorem State.setMeter_clock (s : State) (x) : (s.setMeter x).clock = s.clock := rfl
@[simp] theorem State.setMeter_config (s : State) (x) : (s.setMeter x).config = s.config := rfl
@[simp] theorem State.setMeter_store (s : State) (x) : (s.setMeter x).store = s.store := rfl
@[simp] theorem State.setMeter_notices (s : State) (x) : (s.setMeter x).notices = s.notices := rfl
@[simp] theorem State.setMeter_holds (s : State) (x) : (s.setMeter x).holds = s.holds := rfl
@[simp] theorem State.setMeter_fire (s : State) (x) : (s.setMeter x).fire = s.fire := rfl
@[simp] theorem State.setMeter_bookings (s : State) (x) : (s.setMeter x).bookings = s.bookings := rfl
@[simp] theorem State.setMeter_sched (s : State) (x) : (s.setMeter x).sched = s.sched := rfl
@[simp] theorem State.setMeter_lampA (s : State) (x) : (s.setMeter x).lampA = s.lampA := rfl
@[simp] theorem State.setMeter_lampB (s : State) (x) : (s.setMeter x).lampB = s.lampB := rfl
@[simp] theorem State.setMeter_thermal (s : State) (x) : (s.setMeter x).thermal = s.thermal := rfl
@[simp] theorem State.setMeter_profiles (s : State) (x) : (s.setMeter x).profiles = s.profiles := rfl
@[simp] theorem State.setMeter_switch (s : State) (x) : (s.setMeter x).switch = s.switch := rfl
@[simp] theorem State.setMeter_meter (s : State) (x) : (s.setMeter x).meter = x := rfl
@[simp] theorem State.setMeter_geom (s : State) (x) : (s.setMeter x).geom = s.geom := rfl
@[simp] theorem State.setMeter_gate (s : State) (x) : (s.setMeter x).gate = s.gate := rfl
@[simp] theorem State.setMeter_engine (s : State) (x) : (s.setMeter x).engine = s.engine := rfl
@[simp] theorem State.setMeter_link (s : State) (x) : (s.setMeter x).link = s.link := rfl
@[simp] theorem State.setMeter_panel (s : State) (x) : (s.setMeter x).panel = s.panel := rfl
@[simp] theorem State.setMeter_freeCount (s : State) (x) : (s.setMeter x).freeCount = s.freeCount := rfl
@[simp] theorem State.setMeter_pending (s : State) (x) : (s.setMeter x).pending = s.pending := rfl
@[simp] theorem State.setMeter_lamp (s : State) (x) (p : Pos) : (s.setMeter x).lamp p = s.lamp p := by cases p <;> rfl

/-! ### setGeom -/
@[simp] theorem State.setGeom_phase (s : State) (x) : (s.setGeom x).phase = s.phase := rfl
@[simp] theorem State.setGeom_clock (s : State) (x) : (s.setGeom x).clock = s.clock := rfl
@[simp] theorem State.setGeom_config (s : State) (x) : (s.setGeom x).config = s.config := rfl
@[simp] theorem State.setGeom_store (s : State) (x) : (s.setGeom x).store = s.store := rfl
@[simp] theorem State.setGeom_notices (s : State) (x) : (s.setGeom x).notices = s.notices := rfl
@[simp] theorem State.setGeom_holds (s : State) (x) : (s.setGeom x).holds = s.holds := rfl
@[simp] theorem State.setGeom_fire (s : State) (x) : (s.setGeom x).fire = s.fire := rfl
@[simp] theorem State.setGeom_bookings (s : State) (x) : (s.setGeom x).bookings = s.bookings := rfl
@[simp] theorem State.setGeom_sched (s : State) (x) : (s.setGeom x).sched = s.sched := rfl
@[simp] theorem State.setGeom_lampA (s : State) (x) : (s.setGeom x).lampA = s.lampA := rfl
@[simp] theorem State.setGeom_lampB (s : State) (x) : (s.setGeom x).lampB = s.lampB := rfl
@[simp] theorem State.setGeom_thermal (s : State) (x) : (s.setGeom x).thermal = s.thermal := rfl
@[simp] theorem State.setGeom_profiles (s : State) (x) : (s.setGeom x).profiles = s.profiles := rfl
@[simp] theorem State.setGeom_switch (s : State) (x) : (s.setGeom x).switch = s.switch := rfl
@[simp] theorem State.setGeom_meter (s : State) (x) : (s.setGeom x).meter = s.meter := rfl
@[simp] theorem State.setGeom_geom (s : State) (x) : (s.setGeom x).geom = x := rfl
@[simp] theorem State.setGeom_gate (s : State) (x) : (s.setGeom x).gate = s.gate := rfl
@[simp] theorem State.setGeom_engine (s : State) (x) : (s.setGeom x).engine = s.engine := rfl
@[simp] theorem State.setGeom_link (s : State) (x) : (s.setGeom x).link = s.link := rfl
@[simp] theorem State.setGeom_panel (s : State) (x) : (s.setGeom x).panel = s.panel := rfl
@[simp] theorem State.setGeom_freeCount (s : State) (x) : (s.setGeom x).freeCount = s.freeCount := rfl
@[simp] theorem State.setGeom_pending (s : State) (x) : (s.setGeom x).pending = s.pending := rfl
@[simp] theorem State.setGeom_lamp (s : State) (x) (p : Pos) : (s.setGeom x).lamp p = s.lamp p := by cases p <;> rfl

/-! ### setGate -/
@[simp] theorem State.setGate_phase (s : State) (x) : (s.setGate x).phase = s.phase := rfl
@[simp] theorem State.setGate_clock (s : State) (x) : (s.setGate x).clock = s.clock := rfl
@[simp] theorem State.setGate_config (s : State) (x) : (s.setGate x).config = s.config := rfl
@[simp] theorem State.setGate_store (s : State) (x) : (s.setGate x).store = s.store := rfl
@[simp] theorem State.setGate_notices (s : State) (x) : (s.setGate x).notices = s.notices := rfl
@[simp] theorem State.setGate_holds (s : State) (x) : (s.setGate x).holds = s.holds := rfl
@[simp] theorem State.setGate_fire (s : State) (x) : (s.setGate x).fire = s.fire := rfl
@[simp] theorem State.setGate_bookings (s : State) (x) : (s.setGate x).bookings = s.bookings := rfl
@[simp] theorem State.setGate_sched (s : State) (x) : (s.setGate x).sched = s.sched := rfl
@[simp] theorem State.setGate_lampA (s : State) (x) : (s.setGate x).lampA = s.lampA := rfl
@[simp] theorem State.setGate_lampB (s : State) (x) : (s.setGate x).lampB = s.lampB := rfl
@[simp] theorem State.setGate_thermal (s : State) (x) : (s.setGate x).thermal = s.thermal := rfl
@[simp] theorem State.setGate_profiles (s : State) (x) : (s.setGate x).profiles = s.profiles := rfl
@[simp] theorem State.setGate_switch (s : State) (x) : (s.setGate x).switch = s.switch := rfl
@[simp] theorem State.setGate_meter (s : State) (x) : (s.setGate x).meter = s.meter := rfl
@[simp] theorem State.setGate_geom (s : State) (x) : (s.setGate x).geom = s.geom := rfl
@[simp] theorem State.setGate_gate (s : State) (x) : (s.setGate x).gate = x := rfl
@[simp] theorem State.setGate_engine (s : State) (x) : (s.setGate x).engine = s.engine := rfl
@[simp] theorem State.setGate_link (s : State) (x) : (s.setGate x).link = s.link := rfl
@[simp] theorem State.setGate_panel (s : State) (x) : (s.setGate x).panel = s.panel := rfl
@[simp] theorem State.setGate_freeCount (s : State) (x) : (s.setGate x).freeCount = s.freeCount := rfl
@[simp] theorem State.setGate_pending (s : State) (x) : (s.setGate x).pending = s.pending := rfl
@[simp] theorem State.setGate_lamp (s : State) (x) (p : Pos) : (s.setGate x).lamp p = s.lamp p := by cases p <;> rfl

/-! ### setEngine -/
@[simp] theorem State.setEngine_phase (s : State) (x) : (s.setEngine x).phase = s.phase := rfl
@[simp] theorem State.setEngine_clock (s : State) (x) : (s.setEngine x).clock = s.clock := rfl
@[simp] theorem State.setEngine_config (s : State) (x) : (s.setEngine x).config = s.config := rfl
@[simp] theorem State.setEngine_store (s : State) (x) : (s.setEngine x).store = s.store := rfl
@[simp] theorem State.setEngine_notices (s : State) (x) : (s.setEngine x).notices = s.notices := rfl
@[simp] theorem State.setEngine_holds (s : State) (x) : (s.setEngine x).holds = s.holds := rfl
@[simp] theorem State.setEngine_fire (s : State) (x) : (s.setEngine x).fire = s.fire := rfl
@[simp] theorem State.setEngine_bookings (s : State) (x) : (s.setEngine x).bookings = s.bookings := rfl
@[simp] theorem State.setEngine_sched (s : State) (x) : (s.setEngine x).sched = s.sched := rfl
@[simp] theorem State.setEngine_lampA (s : State) (x) : (s.setEngine x).lampA = s.lampA := rfl
@[simp] theorem State.setEngine_lampB (s : State) (x) : (s.setEngine x).lampB = s.lampB := rfl
@[simp] theorem State.setEngine_thermal (s : State) (x) : (s.setEngine x).thermal = s.thermal := rfl
@[simp] theorem State.setEngine_profiles (s : State) (x) : (s.setEngine x).profiles = s.profiles := rfl
@[simp] theorem State.setEngine_switch (s : State) (x) : (s.setEngine x).switch = s.switch := rfl
@[simp] theorem State.setEngine_meter (s : State) (x) : (s.setEngine x).meter = s.meter := rfl
@[simp] theorem State.setEngine_geom (s : State) (x) : (s.setEngine x).geom = s.geom := rfl
@[simp] theorem State.setEngine_gate (s : State) (x) : (s.setEngine x).gate = s.gate := rfl
@[simp] theorem State.setEngine_engine (s : State) (x) : (s.setEngine x).engine = x := rfl
@[simp] theorem State.setEngine_link (s : State) (x) : (s.setEngine x).link = s.link := rfl
@[simp] theorem State.setEngine_panel (s : State) (x) : (s.setEngine x).panel = s.panel := rfl
@[simp] theorem State.setEngine_freeCount (s : State) (x) : (s.setEngine x).freeCount = s.freeCount := rfl
@[simp] theorem State.setEngine_pending (s : State) (x) : (s.setEngine x).pending = s.pending := rfl
@[simp] theorem State.setEngine_lamp (s : State) (x) (p : Pos) : (s.setEngine x).lamp p = s.lamp p := by cases p <;> rfl

/-! ### setLink -/
@[simp] theorem State.setLink_phase (s : State) (x) : (s.setLink x).phase = s.phase := rfl
@[simp] theorem State.setLink_clock (s : State) (x) : (s.setLink x).clock = s.clock := rfl
@[simp] theorem State.setLink_config (s : State) (x) : (s.setLink x).config = s.config := rfl
@[simp] theorem State.setLink_store (s : State) (x) : (s.setLink x).store = s.store := rfl
@[simp] theorem State.setLink_notices (s : State) (x) : (s.setLink x).notices = s.notices := rfl
@[simp] theorem State.setLink_holds (s : State) (x) : (s.setLink x).holds = s.holds := rfl
@[simp] theorem State.setLink_fire (s : State) (x) : (s.setLink x).fire = s.fire := rfl
@[simp] theorem State.setLink_bookings (s : State) (x) : (s.setLink x).bookings = s.bookings := rfl
@[simp] theorem State.setLink_sched (s : State) (x) : (s.setLink x).sched = s.sched := rfl
@[simp] theorem State.setLink_lampA (s : State) (x) : (s.setLink x).lampA = s.lampA := rfl
@[simp] theorem State.setLink_lampB (s : State) (x) : (s.setLink x).lampB = s.lampB := rfl
@[simp] theorem State.setLink_thermal (s : State) (x) : (s.setLink x).thermal = s.thermal := rfl
@[simp] theorem State.setLink_profiles (s : State) (x) : (s.setLink x).profiles = s.profiles := rfl
@[simp] theorem State.setLink_switch (s : State) (x) : (s.setLink x).switch = s.switch := rfl
@[simp] theorem State.setLink_meter (s : State) (x) : (s.setLink x).meter = s.meter := rfl
@[simp] theorem State.setLink_geom (s : State) (x) : (s.setLink x).geom = s.geom := rfl
@[simp] theorem State.setLink_gate (s : State) (x) : (s.setLink x).gate = s.gate := rfl
@[simp] theorem State.setLink_engine (s : State) (x) : (s.setLink x).engine = s.engine := rfl
@[simp] theorem State.setLink_link (s : State) (x) : (s.setLink x).link = x := rfl
@[simp] theorem State.setLink_panel (s : State) (x) : (s.setLink x).panel = s.panel := rfl
@[simp] theorem State.setLink_freeCount (s : State) (x) : (s.setLink x).freeCount = s.freeCount := rfl
@[simp] theorem State.setLink_pending (s : State) (x) : (s.setLink x).pending = s.pending := rfl
@[simp] theorem State.setLink_lamp (s : State) (x) (p : Pos) : (s.setLink x).lamp p = s.lamp p := by cases p <;> rfl

/-! ### setPanel -/
@[simp] theorem State.setPanel_phase (s : State) (x) : (s.setPanel x).phase = s.phase := rfl
@[simp] theorem State.setPanel_clock (s : State) (x) : (s.setPanel x).clock = s.clock := rfl
@[simp] theorem State.setPanel_config (s : State) (x) : (s.setPanel x).config = s.config := rfl
@[simp] theorem State.setPanel_store (s : State) (x) : (s.setPanel x).store = s.store := rfl
@[simp] theorem State.setPanel_notices (s : State) (x) : (s.setPanel x).notices = s.notices := rfl
@[simp] theorem State.setPanel_holds (s : State) (x) : (s.setPanel x).holds = s.holds := rfl
@[simp] theorem State.setPanel_fire (s : State) (x) : (s.setPanel x).fire = s.fire := rfl
@[simp] theorem State.setPanel_bookings (s : State) (x) : (s.setPanel x).bookings = s.bookings := rfl
@[simp] theorem State.setPanel_sched (s : State) (x) : (s.setPanel x).sched = s.sched := rfl
@[simp] theorem State.setPanel_lampA (s : State) (x) : (s.setPanel x).lampA = s.lampA := rfl
@[simp] theorem State.setPanel_lampB (s : State) (x) : (s.setPanel x).lampB = s.lampB := rfl
@[simp] theorem State.setPanel_thermal (s : State) (x) : (s.setPanel x).thermal = s.thermal := rfl
@[simp] theorem State.setPanel_profiles (s : State) (x) : (s.setPanel x).profiles = s.profiles := rfl
@[simp] theorem State.setPanel_switch (s : State) (x) : (s.setPanel x).switch = s.switch := rfl
@[simp] theorem State.setPanel_meter (s : State) (x) : (s.setPanel x).meter = s.meter := rfl
@[simp] theorem State.setPanel_geom (s : State) (x) : (s.setPanel x).geom = s.geom := rfl
@[simp] theorem State.setPanel_gate (s : State) (x) : (s.setPanel x).gate = s.gate := rfl
@[simp] theorem State.setPanel_engine (s : State) (x) : (s.setPanel x).engine = s.engine := rfl
@[simp] theorem State.setPanel_link (s : State) (x) : (s.setPanel x).link = s.link := rfl
@[simp] theorem State.setPanel_panel (s : State) (x) : (s.setPanel x).panel = x := rfl
@[simp] theorem State.setPanel_freeCount (s : State) (x) : (s.setPanel x).freeCount = s.freeCount := rfl
@[simp] theorem State.setPanel_pending (s : State) (x) : (s.setPanel x).pending = s.pending := rfl
@[simp] theorem State.setPanel_lamp (s : State) (x) (p : Pos) : (s.setPanel x).lamp p = s.lamp p := by cases p <;> rfl

/-! ### setLamp -/
@[simp] theorem State.setLamp_phase (s : State) (p : Pos) (l : Lamp) : (s.setLamp p l).phase = s.phase := by cases p <;> rfl
@[simp] theorem State.setLamp_clock (s : State) (p : Pos) (l : Lamp) : (s.setLamp p l).clock = s.clock := by cases p <;> rfl
@[simp] theorem State.setLamp_config (s : State) (p : Pos) (l : Lamp) : (s.setLamp p l).config = s.config := by cases p <;> rfl
@[simp] theorem State.setLamp_store (s : State) (p : Pos) (l : Lamp) : (s.setLamp p l).store = s.store := by cases p <;> rfl
@[simp] theorem State.setLamp_notices (s : State) (p : Pos) (l : Lamp) : (s.setLamp p l).notices = s.notices := by cases p <;> rfl
@[simp] theorem State.setLamp_holds (s : State) (p : Pos) (l : Lamp) : (s.setLamp p l).holds = s.holds := by cases p <;> rfl
@[simp] theorem State.setLamp_fire (s : State) (p : Pos) (l : Lamp) : (s.setLamp p l).fire = s.fire := by cases p <;> rfl
@[simp] theorem State.setLamp_bookings (s : State) (p : Pos) (l : Lamp) : (s.setLamp p l).bookings = s.bookings := by cases p <;> rfl
@[simp] theorem State.setLamp_sched (s : State) (p : Pos) (l : Lamp) : (s.setLamp p l).sched = s.sched := by cases p <;> rfl
@[simp] theorem State.setLamp_thermal (s : State) (p : Pos) (l : Lamp) : (s.setLamp p l).thermal = s.thermal := by cases p <;> rfl
@[simp] theorem State.setLamp_profiles (s : State) (p : Pos) (l : Lamp) : (s.setLamp p l).profiles = s.profiles := by cases p <;> rfl
@[simp] theorem State.setLamp_switch (s : State) (p : Pos) (l : Lamp) : (s.setLamp p l).switch = s.switch := by cases p <;> rfl
@[simp] theorem State.setLamp_meter (s : State) (p : Pos) (l : Lamp) : (s.setLamp p l).meter = s.meter := by cases p <;> rfl
@[simp] theorem State.setLamp_geom (s : State) (p : Pos) (l : Lamp) : (s.setLamp p l).geom = s.geom := by cases p <;> rfl
@[simp] theorem State.setLamp_gate (s : State) (p : Pos) (l : Lamp) : (s.setLamp p l).gate = s.gate := by cases p <;> rfl
@[simp] theorem State.setLamp_engine (s : State) (p : Pos) (l : Lamp) : (s.setLamp p l).engine = s.engine := by cases p <;> rfl
@[simp] theorem State.setLamp_link (s : State) (p : Pos) (l : Lamp) : (s.setLamp p l).link = s.link := by cases p <;> rfl
@[simp] theorem State.setLamp_panel (s : State) (p : Pos) (l : Lamp) : (s.setLamp p l).panel = s.panel := by cases p <;> rfl
@[simp] theorem State.setLamp_freeCount (s : State) (p : Pos) (l : Lamp) : (s.setLamp p l).freeCount = s.freeCount := by cases p <;> rfl
@[simp] theorem State.setLamp_pending (s : State) (p : Pos) (l : Lamp) : (s.setLamp p l).pending = s.pending := by cases p <;> rfl
@[simp] theorem State.setLamp_lamp_same (s : State) (p : Pos) (l : Lamp) : (s.setLamp p l).lamp p = l := by cases p <;> rfl
@[simp] theorem State.setLamp_lamp_other (s : State) (p : Pos) (l : Lamp) :
    (s.setLamp p l).lamp (otherPos p) = s.lamp (otherPos p) := by cases p <;> rfl
@[simp] theorem State.setLamp_a_lampA (s : State) (l : Lamp) : (s.setLamp .a l).lampA = l := rfl
@[simp] theorem State.setLamp_a_lampB (s : State) (l : Lamp) : (s.setLamp .a l).lampB = s.lampB := rfl
@[simp] theorem State.setLamp_b_lampA (s : State) (l : Lamp) : (s.setLamp .b l).lampA = s.lampA := rfl
@[simp] theorem State.setLamp_b_lampB (s : State) (l : Lamp) : (s.setLamp .b l).lampB = l := rfl
@[simp] theorem State.lamp_a (s : State) : s.lamp .a = s.lampA := rfl
@[simp] theorem State.lamp_b (s : State) : s.lamp .b = s.lampB := rfl

/-- What a position reads after a lamp is put in a position. -/
theorem State.setLamp_lamp (s : State) (p q : Pos) (l : Lamp) :
    (s.setLamp p l).lamp q = if p = q then l else s.lamp q := by cases p <;> cases q <;> rfl

/-! ### raiseNotice -/
@[simp] theorem raiseNotice_phase (c : NoticeClass) (k : Nat) (a : BitVec 32) (s : State) : (raiseNotice c k a s).phase = s.phase := rfl
@[simp] theorem raiseNotice_clock (c : NoticeClass) (k : Nat) (a : BitVec 32) (s : State) : (raiseNotice c k a s).clock = s.clock := rfl
@[simp] theorem raiseNotice_config (c : NoticeClass) (k : Nat) (a : BitVec 32) (s : State) : (raiseNotice c k a s).config = s.config := rfl
@[simp] theorem raiseNotice_store (c : NoticeClass) (k : Nat) (a : BitVec 32) (s : State) : (raiseNotice c k a s).store = s.store := rfl
@[simp] theorem raiseNotice_holds (c : NoticeClass) (k : Nat) (a : BitVec 32) (s : State) : (raiseNotice c k a s).holds = s.holds := rfl
@[simp] theorem raiseNotice_fire (c : NoticeClass) (k : Nat) (a : BitVec 32) (s : State) : (raiseNotice c k a s).fire = s.fire := rfl
@[simp] theorem raiseNotice_bookings (c : NoticeClass) (k : Nat) (a : BitVec 32) (s : State) : (raiseNotice c k a s).bookings = s.bookings := rfl
@[simp] theorem raiseNotice_sched (c : NoticeClass) (k : Nat) (a : BitVec 32) (s : State) : (raiseNotice c k a s).sched = s.sched := rfl
@[simp] theorem raiseNotice_lampA (c : NoticeClass) (k : Nat) (a : BitVec 32) (s : State) : (raiseNotice c k a s).lampA = s.lampA := rfl
@[simp] theorem raiseNotice_lampB (c : NoticeClass) (k : Nat) (a : BitVec 32) (s : State) : (raiseNotice c k a s).lampB = s.lampB := rfl
@[simp] theorem raiseNotice_thermal (c : NoticeClass) (k : Nat) (a : BitVec 32) (s : State) : (raiseNotice c k a s).thermal = s.thermal := rfl
@[simp] theorem raiseNotice_profiles (c : NoticeClass) (k : Nat) (a : BitVec 32) (s : State) : (raiseNotice c k a s).profiles = s.profiles := rfl
@[simp] theorem raiseNotice_switch (c : NoticeClass) (k : Nat) (a : BitVec 32) (s : State) : (raiseNotice c k a s).switch = s.switch := rfl
@[simp] theorem raiseNotice_meter (c : NoticeClass) (k : Nat) (a : BitVec 32) (s : State) : (raiseNotice c k a s).meter = s.meter := rfl
@[simp] theorem raiseNotice_geom (c : NoticeClass) (k : Nat) (a : BitVec 32) (s : State) : (raiseNotice c k a s).geom = s.geom := rfl
@[simp] theorem raiseNotice_gate (c : NoticeClass) (k : Nat) (a : BitVec 32) (s : State) : (raiseNotice c k a s).gate = s.gate := rfl
@[simp] theorem raiseNotice_engine (c : NoticeClass) (k : Nat) (a : BitVec 32) (s : State) : (raiseNotice c k a s).engine = s.engine := rfl
@[simp] theorem raiseNotice_link (c : NoticeClass) (k : Nat) (a : BitVec 32) (s : State) : (raiseNotice c k a s).link = s.link := rfl
@[simp] theorem raiseNotice_panel (c : NoticeClass) (k : Nat) (a : BitVec 32) (s : State) : (raiseNotice c k a s).panel = s.panel := rfl
@[simp] theorem raiseNotice_freeCount (c : NoticeClass) (k : Nat) (a : BitVec 32) (s : State) : (raiseNotice c k a s).freeCount = s.freeCount := rfl
@[simp] theorem raiseNotice_pending (c : NoticeClass) (k : Nat) (a : BitVec 32) (s : State) : (raiseNotice c k a s).pending = s.pending := rfl
@[simp] theorem raiseNotice_lamp (c : NoticeClass) (k : Nat) (a : BitVec 32) (s : State) (p : Pos) :
    (raiseNotice c k a s).lamp p = s.lamp p := by cases p <;> rfl

/-- Raising a notice makes its class pending with the new detail (R194). -/
theorem raiseNotice_notice (c : NoticeClass) (k : Nat) (a : BitVec 32) (s : State) :
    (raiseNotice c k a s).notice c = { pending := true, code := k, arg := a } := by
  simp [raiseNotice, State.notice]

/-- Raising a notice leaves every other class alone (R194). -/
theorem raiseNotice_other (c d : NoticeClass) (h : d ≠ c) (k : Nat) (a : BitVec 32) (s : State) :
    (raiseNotice c k a s).notice d = s.notice d := by
  have hi : c.index.val ≠ d.index.val := by
    intro e; apply h; cases c <;> cases d <;> first | rfl | exact absurd e (by decide)
  simp [raiseNotice, State.notice, Vector.getElem_set_ne, hi]

end Sys2Proof.Machine
end

