-- ==== Sys2Proof/Laws/Views.lean ====
section
/-! SUPPORT. Views: groups of fields that many operations leave alone together. For each operation one lemma for each view it
leaves alone stands beside the operation's other laws; a proof takes a single field out of a view with `congrArg`. -/

namespace Sys2Proof.Machine

/-- What no operation below the commands changes. -/
structure ViewFixed where
  phase : Phase
  clock : Clock
  config : ConfigRecord
  profiles : Vector Profile 8
  presets : Vector Preset 8
  link : Link
  panel : Option Byte
  freeCount : Nat
  pending : List Instr

/-- What no operation below the commands changes. -/
def State.fixed (s : State) : ViewFixed :=
  { phase := s.phase, clock := s.clock, config := s.config, profiles := s.profiles, presets := s.geom.presets, link := s.link, panel := s.panel, freeCount := s.freeCount, pending := s.pending }

/-- The last thermal report and the fire line. -/
structure ViewReports where
  thermal : Thermal
  fire : FireLine

/-- The last thermal report and the fire line. -/
def State.reports (s : State) : ViewReports :=
  { thermal := s.thermal, fire := s.fire }

/-- The booking table and the committed wear that follows it. -/
structure ViewTable where
  bookings : List Booking
  cA : Nat
  cB : Nat

/-- The booking table and the committed wear that follows it. -/
def State.table (s : State) : ViewTable :=
  { bookings := s.bookings, cA := s.lampA.committed, cB := s.lampB.committed }

/-- The two lamp records. -/
structure ViewLampRecords where
  a : LampRecord
  b : LampRecord

/-- The two lamp records. -/
def State.lampRecords (s : State) : ViewLampRecords :=
  { a := s.lampA.record, b := s.lampB.record }

/-- The switch machine and the sync meter. -/
structure ViewSources where
  switch : Switch
  meter : Meter

/-- The switch machine and the sync meter. -/
def State.sources (s : State) : ViewSources :=
  { switch := s.switch, meter := s.meter }

/-- The schedule unit but for its demand. -/
structure ViewRoom where
  active : Option Nat
  startedAt : Option Nat
  session : Bool
  unattended : Nat

/-- The schedule unit but for its demand. -/
def State.room (s : State) : ViewRoom :=
  { active := s.sched.active, startedAt := s.sched.startedAt, session := s.sched.session, unattended := s.sched.unattended }

/-- The stored copies and the write under way. -/
structure ViewMedium where
  records : List StoredRecord
  waiting : List Nat
  writing : Option Writing

/-- The stored copies and the write under way. -/
def State.medium (s : State) : ViewMedium :=
  { records := s.store.records, waiting := s.store.waiting, writing := s.store.writing }

/-! ### fixed -/
@[simp] theorem State.setStore_fixed (s : State) (x) : (s.setStore x).fixed = s.fixed := rfl
@[simp] theorem State.setHolds_fixed (s : State) (x) : (s.setHolds x).fixed = s.fixed := rfl
@[simp] theorem State.setFire_fixed (s : State) (x) : (s.setFire x).fixed = s.fixed := rfl
@[simp] theorem State.setTable_fixed (s : State) (x) : (s.setTable x).fixed = s.fixed := rfl
@[simp] theorem State.setSched_fixed (s : State) (x) : (s.setSched x).fixed = s.fixed := rfl
@[simp] theorem State.setThermal_fixed (s : State) (x) : (s.setThermal x).fixed = s.fixed := rfl
@[simp] theorem State.setSwitch_fixed (s : State) (x) : (s.setSwitch x).fixed = s.fixed := rfl
@[simp] theorem State.setMeter_fixed (s : State) (x) : (s.setMeter x).fixed = s.fixed := rfl
@[simp] theorem State.setGate_fixed (s : State) (x) : (s.setGate x).fixed = s.fixed := rfl
@[simp] theorem State.setEngine_fixed (s : State) (x) : (s.setEngine x).fixed = s.fixed := rfl
@[simp] theorem State.setLamp_fixed (s : State) (p : Pos) (l : Lamp) : (s.setLamp p l).fixed = s.fixed := by cases p <;> rfl
@[simp] theorem raiseNotice_fixed (c : NoticeClass) (k : Nat) (a : BitVec 32) (s : State) :
    (raiseNotice c k a s).fixed = s.fixed := rfl

/-! ### reports -/
@[simp] theorem State.setClock_reports (s : State) (x) : (s.setClock x).reports = s.reports := rfl
@[simp] theorem State.setConfig_reports (s : State) (x) : (s.setConfig x).reports = s.reports := rfl
@[simp] theorem State.setStore_reports (s : State) (x) : (s.setStore x).reports = s.reports := rfl
@[simp] theorem State.setHolds_reports (s : State) (x) : (s.setHolds x).reports = s.reports := rfl
@[simp] theorem State.setTable_reports (s : State) (x) : (s.setTable x).reports = s.reports := rfl
@[simp] theorem State.setSched_reports (s : State) (x) : (s.setSched x).reports = s.reports := rfl
@[simp] theorem State.setProfiles_reports (s : State) (x) : (s.setProfiles x).reports = s.reports := rfl
@[simp] theorem State.setSwitch_reports (s : State) (x) : (s.setSwitch x).reports = s.reports := rfl
@[simp] theorem State.setMeter_reports (s : State) (x) : (s.setMeter x).reports = s.reports := rfl
@[simp] theorem State.setGeom_reports (s : State) (x) : (s.setGeom x).reports = s.reports := rfl
@[simp] theorem State.setGate_reports (s : State) (x) : (s.setGate x).reports = s.reports := rfl
@[simp] theorem State.setEngine_reports (s : State) (x) : (s.setEngine x).reports = s.reports := rfl
@[simp] theorem State.setLink_reports (s : State) (x) : (s.setLink x).reports = s.reports := rfl
@[simp] theorem State.setPanel_reports (s : State) (x) : (s.setPanel x).reports = s.reports := rfl
@[simp] theorem State.setLamp_reports (s : State) (p : Pos) (l : Lamp) : (s.setLamp p l).reports = s.reports := by cases p <;> rfl
@[simp] theorem raiseNotice_reports (c : NoticeClass) (k : Nat) (a : BitVec 32) (s : State) :
    (raiseNotice c k a s).reports = s.reports := rfl

/-! ### table -/
@[simp] theorem State.setClock_table (s : State) (x) : (s.setClock x).table = s.table := rfl
@[simp] theorem State.setConfig_table (s : State) (x) : (s.setConfig x).table = s.table := rfl
@[simp] theorem State.setStore_table (s : State) (x) : (s.setStore x).table = s.table := rfl
@[simp] theorem State.setHolds_table (s : State) (x) : (s.setHolds x).table = s.table := rfl
@[simp] theorem State.setFire_table (s : State) (x) : (s.setFire x).table = s.table := rfl
@[simp] theorem State.setSched_table (s : State) (x) : (s.setSched x).table = s.table := rfl
@[simp] theorem State.setThermal_table (s : State) (x) : (s.setThermal x).table = s.table := rfl
@[simp] theorem State.setProfiles_table (s : State) (x) : (s.setProfiles x).table = s.table := rfl
@[simp] theorem State.setSwitch_table (s : State) (x) : (s.setSwitch x).table = s.table := rfl
@[simp] theorem State.setMeter_table (s : State) (x) : (s.setMeter x).table = s.table := rfl
@[simp] theorem State.setGeom_table (s : State) (x) : (s.setGeom x).table = s.table := rfl
@[simp] theorem State.setGate_table (s : State) (x) : (s.setGate x).table = s.table := rfl
@[simp] theorem State.setEngine_table (s : State) (x) : (s.setEngine x).table = s.table := rfl
@[simp] theorem State.setLink_table (s : State) (x) : (s.setLink x).table = s.table := rfl
@[simp] theorem State.setPanel_table (s : State) (x) : (s.setPanel x).table = s.table := rfl
@[simp] theorem raiseNotice_table (c : NoticeClass) (k : Nat) (a : BitVec 32) (s : State) :
    (raiseNotice c k a s).table = s.table := rfl

/-! ### lampRecords -/
@[simp] theorem State.setClock_lampRecords (s : State) (x) : (s.setClock x).lampRecords = s.lampRecords := rfl
@[simp] theorem State.setConfig_lampRecords (s : State) (x) : (s.setConfig x).lampRecords = s.lampRecords := rfl
@[simp] theorem State.setStore_lampRecords (s : State) (x) : (s.setStore x).lampRecords = s.lampRecords := rfl
@[simp] theorem State.setHolds_lampRecords (s : State) (x) : (s.setHolds x).lampRecords = s.lampRecords := rfl
@[simp] theorem State.setFire_lampRecords (s : State) (x) : (s.setFire x).lampRecords = s.lampRecords := rfl
@[simp] theorem State.setTable_lampRecords (s : State) (x) : (s.setTable x).lampRecords = s.lampRecords := rfl
@[simp] theorem State.setSched_lampRecords (s : State) (x) : (s.setSched x).lampRecords = s.lampRecords := rfl
@[simp] theorem State.setThermal_lampRecords (s : State) (x) : (s.setThermal x).lampRecords = s.lampRecords := rfl
@[simp] theorem State.setProfiles_lampRecords (s : State) (x) : (s.setProfiles x).lampRecords = s.lampRecords := rfl
@[simp] theorem State.setSwitch_lampRecords (s : State) (x) : (s.setSwitch x).lampRecords = s.lampRecords := rfl
@[simp] theorem State.setMeter_lampRecords (s : State) (x) : (s.setMeter x).lampRecords = s.lampRecords := rfl
@[simp] theorem State.setGeom_lampRecords (s : State) (x) : (s.setGeom x).lampRecords = s.lampRecords := rfl
@[simp] theorem State.setGate_lampRecords (s : State) (x) : (s.setGate x).lampRecords = s.lampRecords := rfl
@[simp] theorem State.setEngine_lampRecords (s : State) (x) : (s.setEngine x).lampRecords = s.lampRecords := rfl
@[simp] theorem State.setLink_lampRecords (s : State) (x) : (s.setLink x).lampRecords = s.lampRecords := rfl
@[simp] theorem State.setPanel_lampRecords (s : State) (x) : (s.setPanel x).lampRecords = s.lampRecords := rfl
@[simp] theorem raiseNotice_lampRecords (c : NoticeClass) (k : Nat) (a : BitVec 32) (s : State) :
    (raiseNotice c k a s).lampRecords = s.lampRecords := rfl

/-! ### sources -/
@[simp] theorem State.setClock_sources (s : State) (x) : (s.setClock x).sources = s.sources := rfl
@[simp] theorem State.setConfig_sources (s : State) (x) : (s.setConfig x).sources = s.sources := rfl
@[simp] theorem State.setStore_sources (s : State) (x) : (s.setStore x).sources = s.sources := rfl
@[simp] theorem State.setHolds_sources (s : State) (x) : (s.setHolds x).sources = s.sources := rfl
@[simp] theorem State.setFire_sources (s : State) (x) : (s.setFire x).sources = s.sources := rfl
@[simp] theorem State.setTable_sources (s : State) (x) : (s.setTable x).sources = s.sources := rfl
@[simp] theorem State.setSched_sources (s : State) (x) : (s.setSched x).sources = s.sources := rfl
@[simp] theorem State.setThermal_sources (s : State) (x) : (s.setThermal x).sources = s.sources := rfl
@[simp] theorem State.setProfiles_sources (s : State) (x) : (s.setProfiles x).sources = s.sources := rfl
@[simp] theorem State.setGeom_sources (s : State) (x) : (s.setGeom x).sources = s.sources := rfl
@[simp] theorem State.setGate_sources (s : State) (x) : (s.setGate x).sources = s.sources := rfl
@[simp] theorem State.setEngine_sources (s : State) (x) : (s.setEngine x).sources = s.sources := rfl
@[simp] theorem State.setLink_sources (s : State) (x) : (s.setLink x).sources = s.sources := rfl
@[simp] theorem State.setPanel_sources (s : State) (x) : (s.setPanel x).sources = s.sources := rfl
@[simp] theorem State.setLamp_sources (s : State) (p : Pos) (l : Lamp) : (s.setLamp p l).sources = s.sources := by cases p <;> rfl
@[simp] theorem raiseNotice_sources (c : NoticeClass) (k : Nat) (a : BitVec 32) (s : State) :
    (raiseNotice c k a s).sources = s.sources := rfl

/-! ### room -/
@[simp] theorem State.setClock_room (s : State) (x) : (s.setClock x).room = s.room := rfl
@[simp] theorem State.setConfig_room (s : State) (x) : (s.setConfig x).room = s.room := rfl
@[simp] theorem State.setStore_room (s : State) (x) : (s.setStore x).room = s.room := rfl
@[simp] theorem State.setHolds_room (s : State) (x) : (s.setHolds x).room = s.room := rfl
@[simp] theorem State.setFire_room (s : State) (x) : (s.setFire x).room = s.room := rfl
@[simp] theorem State.setTable_room (s : State) (x) : (s.setTable x).room = s.room := rfl
@[simp] theorem State.setThermal_room (s : State) (x) : (s.setThermal x).room = s.room := rfl
@[simp] theorem State.setProfiles_room (s : State) (x) : (s.setProfiles x).room = s.room := rfl
@[simp] theorem State.setSwitch_room (s : State) (x) : (s.setSwitch x).room = s.room := rfl
@[simp] theorem State.setMeter_room (s : State) (x) : (s.setMeter x).room = s.room := rfl
@[simp] theorem State.setGeom_room (s : State) (x) : (s.setGeom x).room = s.room := rfl
@[simp] theorem State.setGate_room (s : State) (x) : (s.setGate x).room = s.room := rfl
@[simp] theorem State.setEngine_room (s : State) (x) : (s.setEngine x).room = s.room := rfl
@[simp] theorem State.setLink_room (s : State) (x) : (s.setLink x).room = s.room := rfl
@[simp] theorem State.setPanel_room (s : State) (x) : (s.setPanel x).room = s.room := rfl
@[simp] theorem State.setLamp_room (s : State) (p : Pos) (l : Lamp) : (s.setLamp p l).room = s.room := by cases p <;> rfl
@[simp] theorem raiseNotice_room (c : NoticeClass) (k : Nat) (a : BitVec 32) (s : State) :
    (raiseNotice c k a s).room = s.room := rfl

/-! ### medium -/
@[simp] theorem State.setClock_medium (s : State) (x) : (s.setClock x).medium = s.medium := rfl
@[simp] theorem State.setConfig_medium (s : State) (x) : (s.setConfig x).medium = s.medium := rfl
@[simp] theorem State.setHolds_medium (s : State) (x) : (s.setHolds x).medium = s.medium := rfl
@[simp] theorem State.setFire_medium (s : State) (x) : (s.setFire x).medium = s.medium := rfl
@[simp] theorem State.setTable_medium (s : State) (x) : (s.setTable x).medium = s.medium := rfl
@[simp] theorem State.setSched_medium (s : State) (x) : (s.setSched x).medium = s.medium := rfl
@[simp] theorem State.setThermal_medium (s : State) (x) : (s.setThermal x).medium = s.medium := rfl
@[simp] theorem State.setProfiles_medium (s : State) (x) : (s.setProfiles x).medium = s.medium := rfl
@[simp] theorem State.setSwitch_medium (s : State) (x) : (s.setSwitch x).medium = s.medium := rfl
@[simp] theorem State.setMeter_medium (s : State) (x) : (s.setMeter x).medium = s.medium := rfl
@[simp] theorem State.setGeom_medium (s : State) (x) : (s.setGeom x).medium = s.medium := rfl
@[simp] theorem State.setGate_medium (s : State) (x) : (s.setGate x).medium = s.medium := rfl
@[simp] theorem State.setEngine_medium (s : State) (x) : (s.setEngine x).medium = s.medium := rfl
@[simp] theorem State.setLink_medium (s : State) (x) : (s.setLink x).medium = s.medium := rfl
@[simp] theorem State.setPanel_medium (s : State) (x) : (s.setPanel x).medium = s.medium := rfl
@[simp] theorem State.setLamp_medium (s : State) (p : Pos) (l : Lamp) : (s.setLamp p l).medium = s.medium := by cases p <;> rfl
@[simp] theorem raiseNotice_medium (c : NoticeClass) (k : Nat) (a : BitVec 32) (s : State) :
    (raiseNotice c k a s).medium = s.medium := rfl

/-- A lamp put back with the same committed wear leaves the table's view. -/
@[simp] theorem State.setLamp_table (s : State) (p : Pos) (l : Lamp) (h : l.committed = (s.lamp p).committed) :
    (s.setLamp p l).table = s.table := by cases p <;> simp [State.table, State.setLamp, h]

/-- A lamp put back with the same record leaves the records. -/
@[simp] theorem State.setLamp_lampRecords (s : State) (p : Pos) (l : Lamp) (h : l.record = (s.lamp p).record) :
    (s.setLamp p l).lampRecords = s.lampRecords := by cases p <;> simp [State.lampRecords, State.setLamp, h]

/-- A schedule unit put back but for its demand leaves the room's view. -/
@[simp] theorem State.setSched_room (s : State) (d : Demand) : (s.setSched { s.sched with demand := d }).room = s.room := rfl

/-- A geometry unit put back with the same presets leaves the fixed view. -/
@[simp] theorem State.setGeom_fixed (s : State) (g : Geometry) (h : g.presets = s.geom.presets) :
    (s.setGeom g).fixed = s.fixed := by simp [State.fixed, State.setGeom, h]

/-- Two states with one fixed view agree on the fields of the view. -/
theorem State.fixed_eq {s t : State} (h : s.fixed = t.fixed) :
    s.phase = t.phase ∧ s.clock = t.clock ∧ s.config = t.config ∧ s.profiles = t.profiles
      ∧ s.geom.presets = t.geom.presets ∧ s.link = t.link ∧ s.panel = t.panel ∧ s.freeCount = t.freeCount
      ∧ s.pending = t.pending := by
  simp only [State.fixed, ViewFixed.mk.injEq] at h; exact h

/-- A fold whose every step leaves a view leaves it. -/
theorem foldl_view {α β : Type} (v : State → β) (f : State → α → State) (h : ∀ s a, v (f s a) = v s) (l : List α)
    (s : State) : v (l.foldl f s) = v s := by
  induction l generalizing s with
  | nil => rfl
  | cons a l ih => rw [List.foldl_cons, ih, h]

end Sys2Proof.Machine
end

