-- ==== Sys2Proof/Laws/Ops.lean ====
section
/-! SUPPORT. What the shared operations of Machine/Ops.lean do and leave alone. -/

namespace Sys2Proof.Machine

/-! ### markDirty -/
@[simp] theorem markDirty_fixed (n : Nat) (s : State) : (markDirty n s).fixed = s.fixed := by unfold markDirty; split <;> rfl
@[simp] theorem markDirty_reports (n : Nat) (s : State) : (markDirty n s).reports = s.reports := by unfold markDirty; split <;> rfl
@[simp] theorem markDirty_table (n : Nat) (s : State) : (markDirty n s).table = s.table := by unfold markDirty; split <;> rfl
@[simp] theorem markDirty_lampRecords (n : Nat) (s : State) : (markDirty n s).lampRecords = s.lampRecords := by unfold markDirty; split <;> rfl
@[simp] theorem markDirty_sources (n : Nat) (s : State) : (markDirty n s).sources = s.sources := by unfold markDirty; split <;> rfl
@[simp] theorem markDirty_room (n : Nat) (s : State) : (markDirty n s).room = s.room := by unfold markDirty; split <;> rfl
@[simp] theorem markDirty_medium (n : Nat) (s : State) : (markDirty n s).medium = s.medium := by unfold markDirty; split <;> rfl
@[simp] theorem markDirty_holds (n : Nat) (s : State) : (markDirty n s).holds = s.holds := by unfold markDirty; split <;> rfl
@[simp] theorem markDirty_gate (n : Nat) (s : State) : (markDirty n s).gate = s.gate := by unfold markDirty; split <;> rfl
@[simp] theorem markDirty_geom (n : Nat) (s : State) : (markDirty n s).geom = s.geom := by unfold markDirty; split <;> rfl
@[simp] theorem markDirty_engine (n : Nat) (s : State) : (markDirty n s).engine = s.engine := by unfold markDirty; split <;> rfl
@[simp] theorem markDirty_sched (n : Nat) (s : State) : (markDirty n s).sched = s.sched := by unfold markDirty; split <;> rfl
@[simp] theorem markDirty_notices (n : Nat) (s : State) : (markDirty n s).notices = s.notices := by unfold markDirty; split <;> rfl
@[simp] theorem markDirty_lampA (n : Nat) (s : State) : (markDirty n s).lampA = s.lampA := by unfold markDirty; split <;> rfl
@[simp] theorem markDirty_lampB (n : Nat) (s : State) : (markDirty n s).lampB = s.lampB := by unfold markDirty; split <;> rfl

@[simp] theorem markDirty_lamp (n : Nat) (s : State) (p : Pos) : (markDirty n s).lamp p = s.lamp p := by cases p <;> simp

/-! ### markLampDirty -/
@[simp] theorem markLampDirty_fixed (p : Pos) (s : State) : (markLampDirty p s).fixed = s.fixed := by simp [markLampDirty]
@[simp] theorem markLampDirty_reports (p : Pos) (s : State) : (markLampDirty p s).reports = s.reports := by simp [markLampDirty]
@[simp] theorem markLampDirty_sources (p : Pos) (s : State) : (markLampDirty p s).sources = s.sources := by simp [markLampDirty]
@[simp] theorem markLampDirty_room (p : Pos) (s : State) : (markLampDirty p s).room = s.room := by simp [markLampDirty]
@[simp] theorem markLampDirty_medium (p : Pos) (s : State) : (markLampDirty p s).medium = s.medium := by simp [markLampDirty]
@[simp] theorem markLampDirty_holds (p : Pos) (s : State) : (markLampDirty p s).holds = s.holds := by simp [markLampDirty]
@[simp] theorem markLampDirty_gate (p : Pos) (s : State) : (markLampDirty p s).gate = s.gate := by simp [markLampDirty]
@[simp] theorem markLampDirty_geom (p : Pos) (s : State) : (markLampDirty p s).geom = s.geom := by simp [markLampDirty]
@[simp] theorem markLampDirty_engine (p : Pos) (s : State) : (markLampDirty p s).engine = s.engine := by simp [markLampDirty]
@[simp] theorem markLampDirty_sched (p : Pos) (s : State) : (markLampDirty p s).sched = s.sched := by simp [markLampDirty]
@[simp] theorem markLampDirty_notices (p : Pos) (s : State) : (markLampDirty p s).notices = s.notices := by simp [markLampDirty]

@[simp] theorem markLampDirty_table (p : Pos) (s : State) : (markLampDirty p s).table = s.table := by
  rw [markLampDirty, State.setLamp_table] <;> simp
@[simp] theorem markLampDirty_lampRecords (p : Pos) (s : State) : (markLampDirty p s).lampRecords = s.lampRecords := by
  rw [markLampDirty, State.setLamp_lampRecords] <;> simp

/-- Marking a lamp record dirty brings the position's unstored lit seconds to 0 and changes nothing else of it (R82). -/
theorem markLampDirty_lamp (p q : Pos) (s : State) :
    (markLampDirty p s).lamp q = if p = q then { s.lamp p with unstored := 0 } else s.lamp q := by
  simp [markLampDirty, State.setLamp_lamp]

/-! ### startWrite -/
@[simp] theorem startWrite_fixed (s : State) : (startWrite s).fixed = s.fixed := by unfold startWrite; split <;> rfl
@[simp] theorem startWrite_reports (s : State) : (startWrite s).reports = s.reports := by unfold startWrite; split <;> rfl
@[simp] theorem startWrite_table (s : State) : (startWrite s).table = s.table := by unfold startWrite; split <;> rfl
@[simp] theorem startWrite_lampRecords (s : State) : (startWrite s).lampRecords = s.lampRecords := by unfold startWrite; split <;> rfl
@[simp] theorem startWrite_sources (s : State) : (startWrite s).sources = s.sources := by unfold startWrite; split <;> rfl
@[simp] theorem startWrite_room (s : State) : (startWrite s).room = s.room := by unfold startWrite; split <;> rfl
@[simp] theorem startWrite_holds (s : State) : (startWrite s).holds = s.holds := by unfold startWrite; split <;> rfl
@[simp] theorem startWrite_gate (s : State) : (startWrite s).gate = s.gate := by unfold startWrite; split <;> rfl
@[simp] theorem startWrite_geom (s : State) : (startWrite s).geom = s.geom := by unfold startWrite; split <;> rfl
@[simp] theorem startWrite_engine (s : State) : (startWrite s).engine = s.engine := by unfold startWrite; split <;> rfl
@[simp] theorem startWrite_sched (s : State) : (startWrite s).sched = s.sched := by unfold startWrite; split <;> rfl
@[simp] theorem startWrite_notices (s : State) : (startWrite s).notices = s.notices := by unfold startWrite; split <;> rfl
@[simp] theorem startWrite_lampA (s : State) : (startWrite s).lampA = s.lampA := by unfold startWrite; split <;> rfl
@[simp] theorem startWrite_lampB (s : State) : (startWrite s).lampB = s.lampB := by unfold startWrite; split <;> rfl

@[simp] theorem startWrite_lamp (s : State) (p : Pos) : (startWrite s).lamp p = s.lamp p := by cases p <;> simp
/-! ### offer -/
@[simp] theorem offer_fixed (m : OutMsg) (s : State) : (offer m s).fixed = s.fixed := rfl
@[simp] theorem offer_reports (m : OutMsg) (s : State) : (offer m s).reports = s.reports := rfl
@[simp] theorem offer_table (m : OutMsg) (s : State) : (offer m s).table = s.table := rfl
@[simp] theorem offer_lampRecords (m : OutMsg) (s : State) : (offer m s).lampRecords = s.lampRecords := rfl
@[simp] theorem offer_sources (m : OutMsg) (s : State) : (offer m s).sources = s.sources := rfl
@[simp] theorem offer_room (m : OutMsg) (s : State) : (offer m s).room = s.room := rfl
@[simp] theorem offer_medium (m : OutMsg) (s : State) : (offer m s).medium = s.medium := rfl
@[simp] theorem offer_holds (m : OutMsg) (s : State) : (offer m s).holds = s.holds := rfl
@[simp] theorem offer_gate (m : OutMsg) (s : State) : (offer m s).gate = s.gate := rfl
@[simp] theorem offer_geom (m : OutMsg) (s : State) : (offer m s).geom = s.geom := rfl
@[simp] theorem offer_sched (m : OutMsg) (s : State) : (offer m s).sched = s.sched := rfl
@[simp] theorem offer_notices (m : OutMsg) (s : State) : (offer m s).notices = s.notices := rfl
@[simp] theorem offer_lampA (m : OutMsg) (s : State) : (offer m s).lampA = s.lampA := rfl
@[simp] theorem offer_lampB (m : OutMsg) (s : State) : (offer m s).lampB = s.lampB := rfl
@[simp] theorem offer_store (m : OutMsg) (s : State) : (offer m s).store = s.store := rfl

@[simp] theorem offer_lamp (m : OutMsg) (s : State) (p : Pos) : (offer m s).lamp p = s.lamp p := by cases p <;> simp

/-- An offer never changes the channel's state, its flight, its timer or its latch (R162). -/
theorem offer_channel (m : OutMsg) (s : State) :
    (offer m s).engine.state = s.engine.state ∧ (offer m s).engine.inFlight = s.engine.inFlight
      ∧ (offer m s).engine.ackTimer = s.engine.ackTimer ∧ (offer m s).engine.latch = s.engine.latch := by
  simp only [offer, State.setEngine_engine, Engine.place]; (repeat' split) <;> simp
@[simp] theorem offer_engine_state (m : OutMsg) (s : State) : (offer m s).engine.state = s.engine.state := (offer_channel m s).1
@[simp] theorem offer_engine_inFlight (m : OutMsg) (s : State) : (offer m s).engine.inFlight = s.engine.inFlight :=
  (offer_channel m s).2.1
@[simp] theorem offer_engine_ackTimer (m : OutMsg) (s : State) : (offer m s).engine.ackTimer = s.engine.ackTimer :=
  (offer_channel m s).2.2.1
@[simp] theorem offer_engine_latch (m : OutMsg) (s : State) : (offer m s).engine.latch = s.engine.latch :=
  (offer_channel m s).2.2.2

/-- In FAULT an offered message is discarded (R162). -/
theorem offer_fault (m : OutMsg) (s : State) (h : s.engine.state = .fault) : offer m s = s := by
  simp [offer, Engine.place, h, State.setEngine]

/-! ### arbiter -/
@[simp] theorem arbiter_fixed (s : State) : (arbiter s).fixed = s.fixed := rfl
@[simp] theorem arbiter_reports (s : State) : (arbiter s).reports = s.reports := rfl
@[simp] theorem arbiter_table (s : State) : (arbiter s).table = s.table := rfl
@[simp] theorem arbiter_lampRecords (s : State) : (arbiter s).lampRecords = s.lampRecords := rfl
@[simp] theorem arbiter_sources (s : State) : (arbiter s).sources = s.sources := rfl
@[simp] theorem arbiter_room (s : State) : (arbiter s).room = s.room := rfl
@[simp] theorem arbiter_medium (s : State) : (arbiter s).medium = s.medium := rfl
@[simp] theorem arbiter_holds (s : State) : (arbiter s).holds = s.holds := rfl
@[simp] theorem arbiter_gate (s : State) : (arbiter s).gate = s.gate := rfl
@[simp] theorem arbiter_geom (s : State) : (arbiter s).geom = s.geom := rfl
@[simp] theorem arbiter_sched (s : State) : (arbiter s).sched = s.sched := rfl
@[simp] theorem arbiter_notices (s : State) : (arbiter s).notices = s.notices := rfl
@[simp] theorem arbiter_lampA (s : State) : (arbiter s).lampA = s.lampA := rfl
@[simp] theorem arbiter_lampB (s : State) : (arbiter s).lampB = s.lampB := rfl
@[simp] theorem arbiter_store (s : State) : (arbiter s).store = s.store := rfl

@[simp] theorem arbiter_lamp (s : State) (p : Pos) : (arbiter s).lamp p = s.lamp p := by cases p <;> simp
@[simp] theorem arbiter_engine_latch (s : State) : (arbiter s).engine.latch = s.engine.latch := by
  simp only [arbiter, State.setEngine_engine, Engine.arbitrate]; (repeat' split) <;> simp [Engine.send]

/-- The arbiter never brings the channel into FAULT or out of it (R163). -/
theorem arbiter_fault (s : State) : (arbiter s).engine.state = .fault ↔ s.engine.state = .fault := by
  simp only [arbiter, State.setEngine_engine, Engine.arbitrate]; (repeat' split) <;> simp_all [Engine.send]

/-- The arbiter acts on a READY channel only (R163). -/
theorem arbiter_of_ne_ready (s : State) (h : s.engine.state ≠ .ready) : arbiter s = s := by
  simp [arbiter, Engine.arbitrate, h, State.setEngine]

/-! ### evalGate -/
@[simp] theorem evalGate_fixed (s : State) : (evalGate s).fixed = s.fixed := by simp only [evalGate]; split <;> simp
@[simp] theorem evalGate_reports (s : State) : (evalGate s).reports = s.reports := by simp only [evalGate]; split <;> simp
@[simp] theorem evalGate_table (s : State) : (evalGate s).table = s.table := by simp only [evalGate]; split <;> simp
@[simp] theorem evalGate_lampRecords (s : State) : (evalGate s).lampRecords = s.lampRecords := by simp only [evalGate]; split <;> simp
@[simp] theorem evalGate_sources (s : State) : (evalGate s).sources = s.sources := by simp only [evalGate]; split <;> simp
@[simp] theorem evalGate_room (s : State) : (evalGate s).room = s.room := by simp only [evalGate]; split <;> simp
@[simp] theorem evalGate_medium (s : State) : (evalGate s).medium = s.medium := by simp only [evalGate]; split <;> simp
@[simp] theorem evalGate_holds (s : State) : (evalGate s).holds = s.holds := by simp only [evalGate]; split <;> simp
@[simp] theorem evalGate_geom (s : State) : (evalGate s).geom = s.geom := by simp only [evalGate]; split <;> simp
@[simp] theorem evalGate_sched (s : State) : (evalGate s).sched = s.sched := by simp only [evalGate]; split <;> simp
@[simp] theorem evalGate_notices (s : State) : (evalGate s).notices = s.notices := by simp only [evalGate]; split <;> simp
@[simp] theorem evalGate_lampA (s : State) : (evalGate s).lampA = s.lampA := by simp only [evalGate]; split <;> simp
@[simp] theorem evalGate_lampB (s : State) : (evalGate s).lampB = s.lampB := by simp only [evalGate]; split <;> simp
@[simp] theorem evalGate_store (s : State) : (evalGate s).store = s.store := by simp only [evalGate]; split <;> simp

@[simp] theorem evalGate_lamp (s : State) (p : Pos) : (evalGate s).lamp p = s.lamp p := by cases p <;> simp
@[simp] theorem evalGate_mute (s : State) : (evalGate s).gate.mute = s.gate.mute := by
  simp only [evalGate]; split <;> simp
@[simp] theorem evalGate_engine_state (s : State) : (evalGate s).engine.state = s.engine.state := by
  simp only [evalGate]; split <;> simp
@[simp] theorem evalGate_engine_latch (s : State) : (evalGate s).engine.latch = s.engine.latch := by
  simp only [evalGate]; split <;> simp

/-- After the gate's evaluation the shutter state is what the seven conditions gave (R158, R159). -/
theorem evalGate_shutter (s : State) : (evalGate s).gate.shutterOpen = gateCondition s := by
  simp only [evalGate]; split <;> simp_all

/-! ### finish -/
@[simp] theorem finish_fixed (s : State) : (finish s).fixed = s.fixed := by simp [finish]
@[simp] theorem finish_reports (s : State) : (finish s).reports = s.reports := by simp [finish]
@[simp] theorem finish_table (s : State) : (finish s).table = s.table := by simp [finish]
@[simp] theorem finish_lampRecords (s : State) : (finish s).lampRecords = s.lampRecords := by simp [finish]
@[simp] theorem finish_sources (s : State) : (finish s).sources = s.sources := by simp [finish]
@[simp] theorem finish_room (s : State) : (finish s).room = s.room := by simp [finish]
@[simp] theorem finish_holds (s : State) : (finish s).holds = s.holds := by simp [finish]
@[simp] theorem finish_geom (s : State) : (finish s).geom = s.geom := by simp [finish]
@[simp] theorem finish_sched (s : State) : (finish s).sched = s.sched := by simp [finish]
@[simp] theorem finish_notices (s : State) : (finish s).notices = s.notices := by simp [finish]
@[simp] theorem finish_lampA (s : State) : (finish s).lampA = s.lampA := by simp [finish]
@[simp] theorem finish_lampB (s : State) : (finish s).lampB = s.lampB := by simp [finish]

@[simp] theorem finish_lamp (s : State) (p : Pos) : (finish s).lamp p = s.lamp p := by cases p <;> simp
@[simp] theorem finish_mute (s : State) : (finish s).gate.mute = s.gate.mute := by simp [finish]
@[simp] theorem finish_engine_latch (s : State) : (finish s).engine.latch = s.engine.latch := by simp [finish]
theorem finish_fault (s : State) : (finish s).engine.state = .fault ↔ s.engine.state = .fault := by
  simp [finish, arbiter_fault]
@[simp] theorem finish_phase (s : State) : (finish s).phase = s.phase := congrArg ViewFixed.phase (finish_fixed s)
@[simp] theorem finish_clock (s : State) : (finish s).clock = s.clock := congrArg ViewFixed.clock (finish_fixed s)
@[simp] theorem finish_config (s : State) : (finish s).config = s.config := congrArg ViewFixed.config (finish_fixed s)
@[simp] theorem finish_profiles (s : State) : (finish s).profiles = s.profiles := congrArg ViewFixed.profiles (finish_fixed s)
@[simp] theorem finish_link (s : State) : (finish s).link = s.link := congrArg ViewFixed.link (finish_fixed s)
@[simp] theorem finish_panel (s : State) : (finish s).panel = s.panel := congrArg ViewFixed.panel (finish_fixed s)
@[simp] theorem finish_freeCount (s : State) : (finish s).freeCount = s.freeCount := congrArg ViewFixed.freeCount (finish_fixed s)
@[simp] theorem finish_pending (s : State) : (finish s).pending = s.pending := congrArg ViewFixed.pending (finish_fixed s)
@[simp] theorem finish_thermal (s : State) : (finish s).thermal = s.thermal := congrArg ViewReports.thermal (finish_reports s)
@[simp] theorem finish_fire (s : State) : (finish s).fire = s.fire := congrArg ViewReports.fire (finish_reports s)
@[simp] theorem finish_bookings (s : State) : (finish s).bookings = s.bookings := congrArg ViewTable.bookings (finish_table s)
@[simp] theorem finish_switch (s : State) : (finish s).switch = s.switch := congrArg ViewSources.switch (finish_sources s)
@[simp] theorem finish_meter (s : State) : (finish s).meter = s.meter := congrArg ViewSources.meter (finish_sources s)

end Sys2Proof.Machine
end

