-- ==== Sys2Proof/Laws/LampUnit.lean ====
section
/-! SUPPORT. What the lamp unit's operations leave alone: everything but the lamps, the channel's slots, the notices, the dirty
set and the demand; and the lamp records too, but for accrual and the two charges. -/

namespace Sys2Proof.Machine

/-! ### offerLamp -/
@[simp] theorem offerLamp_fixed (p : Pos) (m : LampMsg) (s : State) : (offerLamp p m s).fixed = s.fixed := by simp [offerLamp]
@[simp] theorem offerLamp_reports (p : Pos) (m : LampMsg) (s : State) : (offerLamp p m s).reports = s.reports := by simp [offerLamp]
@[simp] theorem offerLamp_table (p : Pos) (m : LampMsg) (s : State) : (offerLamp p m s).table = s.table := by simp [offerLamp]
@[simp] theorem offerLamp_sources (p : Pos) (m : LampMsg) (s : State) : (offerLamp p m s).sources = s.sources := by simp [offerLamp]
@[simp] theorem offerLamp_room (p : Pos) (m : LampMsg) (s : State) : (offerLamp p m s).room = s.room := by simp [offerLamp]
@[simp] theorem offerLamp_medium (p : Pos) (m : LampMsg) (s : State) : (offerLamp p m s).medium = s.medium := by simp [offerLamp]
@[simp] theorem offerLamp_holds (p : Pos) (m : LampMsg) (s : State) : (offerLamp p m s).holds = s.holds := by simp [offerLamp]
@[simp] theorem offerLamp_gate (p : Pos) (m : LampMsg) (s : State) : (offerLamp p m s).gate = s.gate := by simp [offerLamp]
@[simp] theorem offerLamp_geom (p : Pos) (m : LampMsg) (s : State) : (offerLamp p m s).geom = s.geom := by simp [offerLamp]
@[simp] theorem offerLamp_lampRecords (p : Pos) (m : LampMsg) (s : State) : (offerLamp p m s).lampRecords = s.lampRecords := by simp [offerLamp]
@[simp] theorem offerLamp_sched (p : Pos) (m : LampMsg) (s : State) : (offerLamp p m s).sched = s.sched := by simp [offerLamp]
@[simp] theorem offerLamp_notices (p : Pos) (m : LampMsg) (s : State) : (offerLamp p m s).notices = s.notices := by simp [offerLamp]
@[simp] theorem offerLamp_lampA (p : Pos) (m : LampMsg) (s : State) : (offerLamp p m s).lampA = s.lampA := by simp [offerLamp]
@[simp] theorem offerLamp_lampB (p : Pos) (m : LampMsg) (s : State) : (offerLamp p m s).lampB = s.lampB := by simp [offerLamp]
@[simp] theorem offerLamp_store (p : Pos) (m : LampMsg) (s : State) : (offerLamp p m s).store = s.store := by simp [offerLamp]

@[simp] theorem offerLamp_lamp (p q : Pos) (m : LampMsg) (s : State) : (offerLamp p m s).lamp q = s.lamp q := by simp [offerLamp]

/-! ### strikeTest -/
@[simp] theorem strikeTest_fixed (p : Pos) (s : State) : (strikeTest p s).fixed = s.fixed := by simp only [strikeTest]; (repeat' split) <;> simp
@[simp] theorem strikeTest_reports (p : Pos) (s : State) : (strikeTest p s).reports = s.reports := by simp only [strikeTest]; (repeat' split) <;> simp
@[simp] theorem strikeTest_table (p : Pos) (s : State) : (strikeTest p s).table = s.table := by simp only [strikeTest]; (repeat' split) <;> simp
@[simp] theorem strikeTest_sources (p : Pos) (s : State) : (strikeTest p s).sources = s.sources := by simp only [strikeTest]; (repeat' split) <;> simp
@[simp] theorem strikeTest_room (p : Pos) (s : State) : (strikeTest p s).room = s.room := by simp only [strikeTest]; (repeat' split) <;> simp
@[simp] theorem strikeTest_medium (p : Pos) (s : State) : (strikeTest p s).medium = s.medium := by simp only [strikeTest]; (repeat' split) <;> simp
@[simp] theorem strikeTest_holds (p : Pos) (s : State) : (strikeTest p s).holds = s.holds := by simp only [strikeTest]; (repeat' split) <;> simp
@[simp] theorem strikeTest_gate (p : Pos) (s : State) : (strikeTest p s).gate = s.gate := by simp only [strikeTest]; (repeat' split) <;> simp
@[simp] theorem strikeTest_geom (p : Pos) (s : State) : (strikeTest p s).geom = s.geom := by simp only [strikeTest]; (repeat' split) <;> simp
@[simp] theorem strikeTest_lampRecords (p : Pos) (s : State) : (strikeTest p s).lampRecords = s.lampRecords := by simp only [strikeTest]; (repeat' split) <;> simp
@[simp] theorem strikeTest_sched (p : Pos) (s : State) : (strikeTest p s).sched = s.sched := by simp only [strikeTest]; (repeat' split) <;> simp
@[simp] theorem strikeTest_notices (p : Pos) (s : State) : (strikeTest p s).notices = s.notices := by simp only [strikeTest]; (repeat' split) <;> simp
@[simp] theorem strikeTest_store (p : Pos) (s : State) : (strikeTest p s).store = s.store := by simp only [strikeTest]; (repeat' split) <;> simp

/-! ### strikeTests -/
@[simp] theorem strikeTests_fixed (s : State) : (strikeTests s).fixed = s.fixed := by simp [strikeTests]
@[simp] theorem strikeTests_reports (s : State) : (strikeTests s).reports = s.reports := by simp [strikeTests]
@[simp] theorem strikeTests_table (s : State) : (strikeTests s).table = s.table := by simp [strikeTests]
@[simp] theorem strikeTests_sources (s : State) : (strikeTests s).sources = s.sources := by simp [strikeTests]
@[simp] theorem strikeTests_room (s : State) : (strikeTests s).room = s.room := by simp [strikeTests]
@[simp] theorem strikeTests_medium (s : State) : (strikeTests s).medium = s.medium := by simp [strikeTests]
@[simp] theorem strikeTests_holds (s : State) : (strikeTests s).holds = s.holds := by simp [strikeTests]
@[simp] theorem strikeTests_gate (s : State) : (strikeTests s).gate = s.gate := by simp [strikeTests]
@[simp] theorem strikeTests_geom (s : State) : (strikeTests s).geom = s.geom := by simp [strikeTests]
@[simp] theorem strikeTests_lampRecords (s : State) : (strikeTests s).lampRecords = s.lampRecords := by simp [strikeTests]
@[simp] theorem strikeTests_sched (s : State) : (strikeTests s).sched = s.sched := by simp [strikeTests]
@[simp] theorem strikeTests_notices (s : State) : (strikeTests s).notices = s.notices := by simp [strikeTests]
@[simp] theorem strikeTests_store (s : State) : (strikeTests s).store = s.store := by simp [strikeTests]

/-! ### evalPower -/
@[simp] theorem evalPower_fixed (p : Pos) (s : State) : (evalPower p s).fixed = s.fixed := by simp only [evalPower]; (repeat' split) <;> simp
@[simp] theorem evalPower_reports (p : Pos) (s : State) : (evalPower p s).reports = s.reports := by simp only [evalPower]; (repeat' split) <;> simp
@[simp] theorem evalPower_table (p : Pos) (s : State) : (evalPower p s).table = s.table := by simp only [evalPower]; (repeat' split) <;> simp
@[simp] theorem evalPower_sources (p : Pos) (s : State) : (evalPower p s).sources = s.sources := by simp only [evalPower]; (repeat' split) <;> simp
@[simp] theorem evalPower_room (p : Pos) (s : State) : (evalPower p s).room = s.room := by simp only [evalPower]; (repeat' split) <;> simp
@[simp] theorem evalPower_medium (p : Pos) (s : State) : (evalPower p s).medium = s.medium := by simp only [evalPower]; (repeat' split) <;> simp
@[simp] theorem evalPower_holds (p : Pos) (s : State) : (evalPower p s).holds = s.holds := by simp only [evalPower]; (repeat' split) <;> simp
@[simp] theorem evalPower_gate (p : Pos) (s : State) : (evalPower p s).gate = s.gate := by simp only [evalPower]; (repeat' split) <;> simp
@[simp] theorem evalPower_geom (p : Pos) (s : State) : (evalPower p s).geom = s.geom := by simp only [evalPower]; (repeat' split) <;> simp
@[simp] theorem evalPower_lampRecords (p : Pos) (s : State) : (evalPower p s).lampRecords = s.lampRecords := by simp only [evalPower]; (repeat' split) <;> simp
@[simp] theorem evalPower_sched (p : Pos) (s : State) : (evalPower p s).sched = s.sched := by simp only [evalPower]; (repeat' split) <;> simp
@[simp] theorem evalPower_notices (p : Pos) (s : State) : (evalPower p s).notices = s.notices := by simp only [evalPower]; (repeat' split) <;> simp
@[simp] theorem evalPower_store (p : Pos) (s : State) : (evalPower p s).store = s.store := by simp only [evalPower]; (repeat' split) <;> simp

/-! ### evalPowers -/
@[simp] theorem evalPowers_fixed (s : State) : (evalPowers s).fixed = s.fixed := by simp [evalPowers]
@[simp] theorem evalPowers_reports (s : State) : (evalPowers s).reports = s.reports := by simp [evalPowers]
@[simp] theorem evalPowers_table (s : State) : (evalPowers s).table = s.table := by simp [evalPowers]
@[simp] theorem evalPowers_sources (s : State) : (evalPowers s).sources = s.sources := by simp [evalPowers]
@[simp] theorem evalPowers_room (s : State) : (evalPowers s).room = s.room := by simp [evalPowers]
@[simp] theorem evalPowers_medium (s : State) : (evalPowers s).medium = s.medium := by simp [evalPowers]
@[simp] theorem evalPowers_holds (s : State) : (evalPowers s).holds = s.holds := by simp [evalPowers]
@[simp] theorem evalPowers_gate (s : State) : (evalPowers s).gate = s.gate := by simp [evalPowers]
@[simp] theorem evalPowers_geom (s : State) : (evalPowers s).geom = s.geom := by simp [evalPowers]
@[simp] theorem evalPowers_lampRecords (s : State) : (evalPowers s).lampRecords = s.lampRecords := by simp [evalPowers]
@[simp] theorem evalPowers_sched (s : State) : (evalPowers s).sched = s.sched := by simp [evalPowers]
@[simp] theorem evalPowers_notices (s : State) : (evalPowers s).notices = s.notices := by simp [evalPowers]
@[simp] theorem evalPowers_store (s : State) : (evalPowers s).store = s.store := by simp [evalPowers]

/-! ### markIfLit -/
@[simp] theorem markIfLit_fixed (p : Pos) (s : State) : (markIfLit p s).fixed = s.fixed := by simp only [markIfLit]; (repeat' split) <;> simp
@[simp] theorem markIfLit_reports (p : Pos) (s : State) : (markIfLit p s).reports = s.reports := by simp only [markIfLit]; (repeat' split) <;> simp
@[simp] theorem markIfLit_table (p : Pos) (s : State) : (markIfLit p s).table = s.table := by simp only [markIfLit]; (repeat' split) <;> simp
@[simp] theorem markIfLit_sources (p : Pos) (s : State) : (markIfLit p s).sources = s.sources := by simp only [markIfLit]; (repeat' split) <;> simp
@[simp] theorem markIfLit_room (p : Pos) (s : State) : (markIfLit p s).room = s.room := by simp only [markIfLit]; (repeat' split) <;> simp
@[simp] theorem markIfLit_medium (p : Pos) (s : State) : (markIfLit p s).medium = s.medium := by simp only [markIfLit]; (repeat' split) <;> simp
@[simp] theorem markIfLit_holds (p : Pos) (s : State) : (markIfLit p s).holds = s.holds := by simp only [markIfLit]; (repeat' split) <;> simp
@[simp] theorem markIfLit_gate (p : Pos) (s : State) : (markIfLit p s).gate = s.gate := by simp only [markIfLit]; (repeat' split) <;> simp
@[simp] theorem markIfLit_geom (p : Pos) (s : State) : (markIfLit p s).geom = s.geom := by simp only [markIfLit]; (repeat' split) <;> simp
@[simp] theorem markIfLit_lampRecords (p : Pos) (s : State) : (markIfLit p s).lampRecords = s.lampRecords := by simp only [markIfLit]; (repeat' split) <;> simp
@[simp] theorem markIfLit_sched (p : Pos) (s : State) : (markIfLit p s).sched = s.sched := by simp only [markIfLit]; (repeat' split) <;> simp
@[simp] theorem markIfLit_notices (p : Pos) (s : State) : (markIfLit p s).notices = s.notices := by simp only [markIfLit]; (repeat' split) <;> simp

/-! ### cool -/
@[simp] theorem cool_fixed (p : Pos) (n : Nat) (s : State) : (cool p n s).fixed = s.fixed := by simp [cool]
@[simp] theorem cool_reports (p : Pos) (n : Nat) (s : State) : (cool p n s).reports = s.reports := by simp [cool]
@[simp] theorem cool_table (p : Pos) (n : Nat) (s : State) : (cool p n s).table = s.table := by simp [cool]
@[simp] theorem cool_sources (p : Pos) (n : Nat) (s : State) : (cool p n s).sources = s.sources := by simp [cool]
@[simp] theorem cool_room (p : Pos) (n : Nat) (s : State) : (cool p n s).room = s.room := by simp [cool]
@[simp] theorem cool_medium (p : Pos) (n : Nat) (s : State) : (cool p n s).medium = s.medium := by simp [cool]
@[simp] theorem cool_holds (p : Pos) (n : Nat) (s : State) : (cool p n s).holds = s.holds := by simp [cool]
@[simp] theorem cool_gate (p : Pos) (n : Nat) (s : State) : (cool p n s).gate = s.gate := by simp [cool]
@[simp] theorem cool_geom (p : Pos) (n : Nat) (s : State) : (cool p n s).geom = s.geom := by simp [cool]
@[simp] theorem cool_lampRecords (p : Pos) (n : Nat) (s : State) : (cool p n s).lampRecords = s.lampRecords := by simp [cool]
@[simp] theorem cool_sched (p : Pos) (n : Nat) (s : State) : (cool p n s).sched = s.sched := by simp [cool]
@[simp] theorem cool_notices (p : Pos) (n : Nat) (s : State) : (cool p n s).notices = s.notices := by simp [cool]

/-! ### douseUnwanted -/
@[simp] theorem douseUnwanted_fixed (p : Pos) (s : State) : (douseUnwanted p s).fixed = s.fixed := by simp only [douseUnwanted]; (repeat' split) <;> simp
@[simp] theorem douseUnwanted_reports (p : Pos) (s : State) : (douseUnwanted p s).reports = s.reports := by simp only [douseUnwanted]; (repeat' split) <;> simp
@[simp] theorem douseUnwanted_table (p : Pos) (s : State) : (douseUnwanted p s).table = s.table := by simp only [douseUnwanted]; (repeat' split) <;> simp
@[simp] theorem douseUnwanted_sources (p : Pos) (s : State) : (douseUnwanted p s).sources = s.sources := by simp only [douseUnwanted]; (repeat' split) <;> simp
@[simp] theorem douseUnwanted_room (p : Pos) (s : State) : (douseUnwanted p s).room = s.room := by simp only [douseUnwanted]; (repeat' split) <;> simp
@[simp] theorem douseUnwanted_medium (p : Pos) (s : State) : (douseUnwanted p s).medium = s.medium := by simp only [douseUnwanted]; (repeat' split) <;> simp
@[simp] theorem douseUnwanted_holds (p : Pos) (s : State) : (douseUnwanted p s).holds = s.holds := by simp only [douseUnwanted]; (repeat' split) <;> simp
@[simp] theorem douseUnwanted_gate (p : Pos) (s : State) : (douseUnwanted p s).gate = s.gate := by simp only [douseUnwanted]; (repeat' split) <;> simp
@[simp] theorem douseUnwanted_geom (p : Pos) (s : State) : (douseUnwanted p s).geom = s.geom := by simp only [douseUnwanted]; (repeat' split) <;> simp
@[simp] theorem douseUnwanted_lampRecords (p : Pos) (s : State) : (douseUnwanted p s).lampRecords = s.lampRecords := by simp only [douseUnwanted]; (repeat' split) <;> simp
@[simp] theorem douseUnwanted_sched (p : Pos) (s : State) : (douseUnwanted p s).sched = s.sched := by simp only [douseUnwanted]; (repeat' split) <;> simp
@[simp] theorem douseUnwanted_notices (p : Pos) (s : State) : (douseUnwanted p s).notices = s.notices := by simp only [douseUnwanted]; (repeat' split) <;> simp

/-! ### setWanted -/
@[simp] theorem setWanted_fixed (eff : LampSet) (p : Pos) (s : State) : (setWanted eff p s).fixed = s.fixed := by simp only [setWanted]; (repeat' split) <;> simp
@[simp] theorem setWanted_reports (eff : LampSet) (p : Pos) (s : State) : (setWanted eff p s).reports = s.reports := by simp only [setWanted]; (repeat' split) <;> simp
@[simp] theorem setWanted_table (eff : LampSet) (p : Pos) (s : State) : (setWanted eff p s).table = s.table := by simp only [setWanted]; (repeat' split) <;> simp
@[simp] theorem setWanted_sources (eff : LampSet) (p : Pos) (s : State) : (setWanted eff p s).sources = s.sources := by simp only [setWanted]; (repeat' split) <;> simp
@[simp] theorem setWanted_room (eff : LampSet) (p : Pos) (s : State) : (setWanted eff p s).room = s.room := by simp only [setWanted]; (repeat' split) <;> simp
@[simp] theorem setWanted_medium (eff : LampSet) (p : Pos) (s : State) : (setWanted eff p s).medium = s.medium := by simp only [setWanted]; (repeat' split) <;> simp
@[simp] theorem setWanted_holds (eff : LampSet) (p : Pos) (s : State) : (setWanted eff p s).holds = s.holds := by simp only [setWanted]; (repeat' split) <;> simp
@[simp] theorem setWanted_gate (eff : LampSet) (p : Pos) (s : State) : (setWanted eff p s).gate = s.gate := by simp only [setWanted]; (repeat' split) <;> simp
@[simp] theorem setWanted_geom (eff : LampSet) (p : Pos) (s : State) : (setWanted eff p s).geom = s.geom := by simp only [setWanted]; (repeat' split) <;> simp
@[simp] theorem setWanted_lampRecords (eff : LampSet) (p : Pos) (s : State) : (setWanted eff p s).lampRecords = s.lampRecords := by simp only [setWanted]; (repeat' split) <;> simp
@[simp] theorem setWanted_sched (eff : LampSet) (p : Pos) (s : State) : (setWanted eff p s).sched = s.sched := by simp only [setWanted]; (repeat' split) <;> simp
@[simp] theorem setWanted_notices (eff : LampSet) (p : Pos) (s : State) : (setWanted eff p s).notices = s.notices := by simp only [setWanted]; (repeat' split) <;> simp

/-! ### pursue -/
@[simp] theorem pursue_fixed (eff : LampSet) (s : State) : (pursue eff s).fixed = s.fixed := by simp [pursue]
@[simp] theorem pursue_reports (eff : LampSet) (s : State) : (pursue eff s).reports = s.reports := by simp [pursue]
@[simp] theorem pursue_table (eff : LampSet) (s : State) : (pursue eff s).table = s.table := by simp [pursue]
@[simp] theorem pursue_sources (eff : LampSet) (s : State) : (pursue eff s).sources = s.sources := by simp [pursue]
@[simp] theorem pursue_room (eff : LampSet) (s : State) : (pursue eff s).room = s.room := by simp [pursue]
@[simp] theorem pursue_medium (eff : LampSet) (s : State) : (pursue eff s).medium = s.medium := by simp [pursue]
@[simp] theorem pursue_holds (eff : LampSet) (s : State) : (pursue eff s).holds = s.holds := by simp [pursue]
@[simp] theorem pursue_gate (eff : LampSet) (s : State) : (pursue eff s).gate = s.gate := by simp [pursue]
@[simp] theorem pursue_geom (eff : LampSet) (s : State) : (pursue eff s).geom = s.geom := by simp [pursue]
@[simp] theorem pursue_lampRecords (eff : LampSet) (s : State) : (pursue eff s).lampRecords = s.lampRecords := by simp [pursue]
@[simp] theorem pursue_sched (eff : LampSet) (s : State) : (pursue eff s).sched = s.sched := by simp [pursue]
@[simp] theorem pursue_notices (eff : LampSet) (s : State) : (pursue eff s).notices = s.notices := by simp [pursue]

/-! ### writeDemand -/
@[simp] theorem writeDemand_fixed (d : Demand) (s : State) : (writeDemand d s).fixed = s.fixed := by simp only [writeDemand]; (repeat' split) <;> simp
@[simp] theorem writeDemand_reports (d : Demand) (s : State) : (writeDemand d s).reports = s.reports := by simp only [writeDemand]; (repeat' split) <;> simp
@[simp] theorem writeDemand_table (d : Demand) (s : State) : (writeDemand d s).table = s.table := by simp only [writeDemand]; (repeat' split) <;> simp
@[simp] theorem writeDemand_sources (d : Demand) (s : State) : (writeDemand d s).sources = s.sources := by simp only [writeDemand]; (repeat' split) <;> simp
@[simp] theorem writeDemand_room (d : Demand) (s : State) : (writeDemand d s).room = s.room := by simp only [writeDemand]; (repeat' split) <;> simp
@[simp] theorem writeDemand_medium (d : Demand) (s : State) : (writeDemand d s).medium = s.medium := by simp only [writeDemand]; (repeat' split) <;> simp
@[simp] theorem writeDemand_holds (d : Demand) (s : State) : (writeDemand d s).holds = s.holds := by simp only [writeDemand]; (repeat' split) <;> simp
@[simp] theorem writeDemand_gate (d : Demand) (s : State) : (writeDemand d s).gate = s.gate := by simp only [writeDemand]; (repeat' split) <;> simp
@[simp] theorem writeDemand_geom (d : Demand) (s : State) : (writeDemand d s).geom = s.geom := by simp only [writeDemand]; (repeat' split) <;> simp
@[simp] theorem writeDemand_lampRecords (d : Demand) (s : State) : (writeDemand d s).lampRecords = s.lampRecords := by simp only [writeDemand]; (repeat' split) <;> simp

/-! ### usabilityChanged -/
@[simp] theorem usabilityChanged_fixed (s : State) : (usabilityChanged s).fixed = s.fixed := by simp only [usabilityChanged]; (repeat' split) <;> simp
@[simp] theorem usabilityChanged_reports (s : State) : (usabilityChanged s).reports = s.reports := by simp only [usabilityChanged]; (repeat' split) <;> simp
@[simp] theorem usabilityChanged_table (s : State) : (usabilityChanged s).table = s.table := by simp only [usabilityChanged]; (repeat' split) <;> simp
@[simp] theorem usabilityChanged_sources (s : State) : (usabilityChanged s).sources = s.sources := by simp only [usabilityChanged]; (repeat' split) <;> simp
@[simp] theorem usabilityChanged_room (s : State) : (usabilityChanged s).room = s.room := by simp only [usabilityChanged]; (repeat' split) <;> simp
@[simp] theorem usabilityChanged_medium (s : State) : (usabilityChanged s).medium = s.medium := by simp only [usabilityChanged]; (repeat' split) <;> simp
@[simp] theorem usabilityChanged_holds (s : State) : (usabilityChanged s).holds = s.holds := by simp only [usabilityChanged]; (repeat' split) <;> simp
@[simp] theorem usabilityChanged_gate (s : State) : (usabilityChanged s).gate = s.gate := by simp only [usabilityChanged]; (repeat' split) <;> simp
@[simp] theorem usabilityChanged_geom (s : State) : (usabilityChanged s).geom = s.geom := by simp only [usabilityChanged]; (repeat' split) <;> simp
@[simp] theorem usabilityChanged_lampRecords (s : State) : (usabilityChanged s).lampRecords = s.lampRecords := by simp only [usabilityChanged]; (repeat' split) <;> simp
@[simp] theorem usabilityChanged_sched (s : State) : (usabilityChanged s).sched = s.sched := by simp only [usabilityChanged]; (repeat' split) <;> simp

/-! ### gapExit -/
@[simp] theorem gapExit_fixed (p : Pos) (s : State) : (gapExit p s).fixed = s.fixed := by simp only [gapExit]; (repeat' split) <;> simp
@[simp] theorem gapExit_reports (p : Pos) (s : State) : (gapExit p s).reports = s.reports := by simp only [gapExit]; (repeat' split) <;> simp
@[simp] theorem gapExit_table (p : Pos) (s : State) : (gapExit p s).table = s.table := by simp only [gapExit]; (repeat' split) <;> simp
@[simp] theorem gapExit_sources (p : Pos) (s : State) : (gapExit p s).sources = s.sources := by simp only [gapExit]; (repeat' split) <;> simp
@[simp] theorem gapExit_room (p : Pos) (s : State) : (gapExit p s).room = s.room := by simp only [gapExit]; (repeat' split) <;> simp
@[simp] theorem gapExit_medium (p : Pos) (s : State) : (gapExit p s).medium = s.medium := by simp only [gapExit]; (repeat' split) <;> simp
@[simp] theorem gapExit_holds (p : Pos) (s : State) : (gapExit p s).holds = s.holds := by simp only [gapExit]; (repeat' split) <;> simp
@[simp] theorem gapExit_gate (p : Pos) (s : State) : (gapExit p s).gate = s.gate := by simp only [gapExit]; (repeat' split) <;> simp
@[simp] theorem gapExit_geom (p : Pos) (s : State) : (gapExit p s).geom = s.geom := by simp only [gapExit]; (repeat' split) <;> simp
@[simp] theorem gapExit_lampRecords (p : Pos) (s : State) : (gapExit p s).lampRecords = s.lampRecords := by simp only [gapExit]; (repeat' split) <;> simp

/-! ### holdDouse -/
@[simp] theorem holdDouse_fixed (p : Pos) (s : State) : (holdDouse p s).fixed = s.fixed := by simp only [holdDouse]; (repeat' split) <;> simp
@[simp] theorem holdDouse_reports (p : Pos) (s : State) : (holdDouse p s).reports = s.reports := by simp only [holdDouse]; (repeat' split) <;> simp
@[simp] theorem holdDouse_table (p : Pos) (s : State) : (holdDouse p s).table = s.table := by simp only [holdDouse]; (repeat' split) <;> simp
@[simp] theorem holdDouse_sources (p : Pos) (s : State) : (holdDouse p s).sources = s.sources := by simp only [holdDouse]; (repeat' split) <;> simp
@[simp] theorem holdDouse_room (p : Pos) (s : State) : (holdDouse p s).room = s.room := by simp only [holdDouse]; (repeat' split) <;> simp
@[simp] theorem holdDouse_medium (p : Pos) (s : State) : (holdDouse p s).medium = s.medium := by simp only [holdDouse]; (repeat' split) <;> simp
@[simp] theorem holdDouse_holds (p : Pos) (s : State) : (holdDouse p s).holds = s.holds := by simp only [holdDouse]; (repeat' split) <;> simp
@[simp] theorem holdDouse_gate (p : Pos) (s : State) : (holdDouse p s).gate = s.gate := by simp only [holdDouse]; (repeat' split) <;> simp
@[simp] theorem holdDouse_geom (p : Pos) (s : State) : (holdDouse p s).geom = s.geom := by simp only [holdDouse]; (repeat' split) <;> simp
@[simp] theorem holdDouse_lampRecords (p : Pos) (s : State) : (holdDouse p s).lampRecords = s.lampRecords := by simp only [holdDouse]; (repeat' split) <;> simp
@[simp] theorem holdDouse_sched (p : Pos) (s : State) : (holdDouse p s).sched = s.sched := by simp only [holdDouse]; (repeat' split) <;> simp
@[simp] theorem holdDouse_notices (p : Pos) (s : State) : (holdDouse p s).notices = s.notices := by simp only [holdDouse]; (repeat' split) <;> simp

/-! ### faultCool -/
@[simp] theorem faultCool_fixed (p : Pos) (s : State) : (faultCool p s).fixed = s.fixed := by simp only [faultCool]; (repeat' split) <;> simp
@[simp] theorem faultCool_reports (p : Pos) (s : State) : (faultCool p s).reports = s.reports := by simp only [faultCool]; (repeat' split) <;> simp
@[simp] theorem faultCool_table (p : Pos) (s : State) : (faultCool p s).table = s.table := by simp only [faultCool]; (repeat' split) <;> simp
@[simp] theorem faultCool_sources (p : Pos) (s : State) : (faultCool p s).sources = s.sources := by simp only [faultCool]; (repeat' split) <;> simp
@[simp] theorem faultCool_room (p : Pos) (s : State) : (faultCool p s).room = s.room := by simp only [faultCool]; (repeat' split) <;> simp
@[simp] theorem faultCool_medium (p : Pos) (s : State) : (faultCool p s).medium = s.medium := by simp only [faultCool]; (repeat' split) <;> simp
@[simp] theorem faultCool_holds (p : Pos) (s : State) : (faultCool p s).holds = s.holds := by simp only [faultCool]; (repeat' split) <;> simp
@[simp] theorem faultCool_gate (p : Pos) (s : State) : (faultCool p s).gate = s.gate := by simp only [faultCool]; (repeat' split) <;> simp
@[simp] theorem faultCool_geom (p : Pos) (s : State) : (faultCool p s).geom = s.geom := by simp only [faultCool]; (repeat' split) <;> simp
@[simp] theorem faultCool_lampRecords (p : Pos) (s : State) : (faultCool p s).lampRecords = s.lampRecords := by simp only [faultCool]; (repeat' split) <;> simp
@[simp] theorem faultCool_sched (p : Pos) (s : State) : (faultCool p s).sched = s.sched := by simp only [faultCool]; (repeat' split) <;> simp
@[simp] theorem faultCool_notices (p : Pos) (s : State) : (faultCool p s).notices = s.notices := by simp only [faultCool]; (repeat' split) <;> simp

/-! ### gapExits -/
@[simp] theorem gapExits_fixed (wasA : Bool) (wasB : Bool) (s : State) : (gapExits wasA wasB s).fixed = s.fixed := by simp only [gapExits]; (repeat' split) <;> simp
@[simp] theorem gapExits_reports (wasA : Bool) (wasB : Bool) (s : State) : (gapExits wasA wasB s).reports = s.reports := by simp only [gapExits]; (repeat' split) <;> simp
@[simp] theorem gapExits_table (wasA : Bool) (wasB : Bool) (s : State) : (gapExits wasA wasB s).table = s.table := by simp only [gapExits]; (repeat' split) <;> simp
@[simp] theorem gapExits_sources (wasA : Bool) (wasB : Bool) (s : State) : (gapExits wasA wasB s).sources = s.sources := by simp only [gapExits]; (repeat' split) <;> simp
@[simp] theorem gapExits_room (wasA : Bool) (wasB : Bool) (s : State) : (gapExits wasA wasB s).room = s.room := by simp only [gapExits]; (repeat' split) <;> simp
@[simp] theorem gapExits_medium (wasA : Bool) (wasB : Bool) (s : State) : (gapExits wasA wasB s).medium = s.medium := by simp only [gapExits]; (repeat' split) <;> simp
@[simp] theorem gapExits_holds (wasA : Bool) (wasB : Bool) (s : State) : (gapExits wasA wasB s).holds = s.holds := by simp only [gapExits]; (repeat' split) <;> simp
@[simp] theorem gapExits_gate (wasA : Bool) (wasB : Bool) (s : State) : (gapExits wasA wasB s).gate = s.gate := by simp only [gapExits]; (repeat' split) <;> simp
@[simp] theorem gapExits_geom (wasA : Bool) (wasB : Bool) (s : State) : (gapExits wasA wasB s).geom = s.geom := by simp only [gapExits]; (repeat' split) <;> simp
@[simp] theorem gapExits_lampRecords (wasA : Bool) (wasB : Bool) (s : State) : (gapExits wasA wasB s).lampRecords = s.lampRecords := by simp only [gapExits]; (repeat' split) <;> simp

/-! ### holdDouseAll -/
@[simp] theorem holdDouseAll_fixed (s : State) : (holdDouseAll s).fixed = s.fixed := by simp [holdDouseAll]
@[simp] theorem holdDouseAll_reports (s : State) : (holdDouseAll s).reports = s.reports := by simp [holdDouseAll]
@[simp] theorem holdDouseAll_table (s : State) : (holdDouseAll s).table = s.table := by simp [holdDouseAll]
@[simp] theorem holdDouseAll_sources (s : State) : (holdDouseAll s).sources = s.sources := by simp [holdDouseAll]
@[simp] theorem holdDouseAll_room (s : State) : (holdDouseAll s).room = s.room := by simp [holdDouseAll]
@[simp] theorem holdDouseAll_medium (s : State) : (holdDouseAll s).medium = s.medium := by simp [holdDouseAll]
@[simp] theorem holdDouseAll_holds (s : State) : (holdDouseAll s).holds = s.holds := by simp [holdDouseAll]
@[simp] theorem holdDouseAll_gate (s : State) : (holdDouseAll s).gate = s.gate := by simp [holdDouseAll]
@[simp] theorem holdDouseAll_geom (s : State) : (holdDouseAll s).geom = s.geom := by simp [holdDouseAll]
@[simp] theorem holdDouseAll_lampRecords (s : State) : (holdDouseAll s).lampRecords = s.lampRecords := by simp [holdDouseAll]

/-! ### faultCoolAll -/
@[simp] theorem faultCoolAll_fixed (s : State) : (faultCoolAll s).fixed = s.fixed := by simp [faultCoolAll]
@[simp] theorem faultCoolAll_reports (s : State) : (faultCoolAll s).reports = s.reports := by simp [faultCoolAll]
@[simp] theorem faultCoolAll_table (s : State) : (faultCoolAll s).table = s.table := by simp [faultCoolAll]
@[simp] theorem faultCoolAll_sources (s : State) : (faultCoolAll s).sources = s.sources := by simp [faultCoolAll]
@[simp] theorem faultCoolAll_room (s : State) : (faultCoolAll s).room = s.room := by simp [faultCoolAll]
@[simp] theorem faultCoolAll_medium (s : State) : (faultCoolAll s).medium = s.medium := by simp [faultCoolAll]
@[simp] theorem faultCoolAll_holds (s : State) : (faultCoolAll s).holds = s.holds := by simp [faultCoolAll]
@[simp] theorem faultCoolAll_gate (s : State) : (faultCoolAll s).gate = s.gate := by simp [faultCoolAll]
@[simp] theorem faultCoolAll_geom (s : State) : (faultCoolAll s).geom = s.geom := by simp [faultCoolAll]
@[simp] theorem faultCoolAll_lampRecords (s : State) : (faultCoolAll s).lampRecords = s.lampRecords := by simp [faultCoolAll]

/-! ### enterLit -/
@[simp] theorem enterLit_fixed (p : Pos) (s : State) : (enterLit p s).fixed = s.fixed := by simp only [enterLit]; (repeat' split) <;> simp
@[simp] theorem enterLit_reports (p : Pos) (s : State) : (enterLit p s).reports = s.reports := by simp only [enterLit]; (repeat' split) <;> simp
@[simp] theorem enterLit_table (p : Pos) (s : State) : (enterLit p s).table = s.table := by simp only [enterLit]; (repeat' split) <;> simp
@[simp] theorem enterLit_sources (p : Pos) (s : State) : (enterLit p s).sources = s.sources := by simp only [enterLit]; (repeat' split) <;> simp
@[simp] theorem enterLit_room (p : Pos) (s : State) : (enterLit p s).room = s.room := by simp only [enterLit]; (repeat' split) <;> simp
@[simp] theorem enterLit_medium (p : Pos) (s : State) : (enterLit p s).medium = s.medium := by simp only [enterLit]; (repeat' split) <;> simp
@[simp] theorem enterLit_holds (p : Pos) (s : State) : (enterLit p s).holds = s.holds := by simp only [enterLit]; (repeat' split) <;> simp
@[simp] theorem enterLit_gate (p : Pos) (s : State) : (enterLit p s).gate = s.gate := by simp only [enterLit]; (repeat' split) <;> simp
@[simp] theorem enterLit_geom (p : Pos) (s : State) : (enterLit p s).geom = s.geom := by simp only [enterLit]; (repeat' split) <;> simp
@[simp] theorem enterLit_sched (p : Pos) (s : State) : (enterLit p s).sched = s.sched := by simp only [enterLit]; (repeat' split) <;> simp

/-! ### enterFailed -/
@[simp] theorem enterFailed_fixed (p : Pos) (s : State) : (enterFailed p s).fixed = s.fixed := by simp [enterFailed]
@[simp] theorem enterFailed_reports (p : Pos) (s : State) : (enterFailed p s).reports = s.reports := by simp [enterFailed]
@[simp] theorem enterFailed_table (p : Pos) (s : State) : (enterFailed p s).table = s.table := by simp [enterFailed]
@[simp] theorem enterFailed_sources (p : Pos) (s : State) : (enterFailed p s).sources = s.sources := by simp [enterFailed]
@[simp] theorem enterFailed_room (p : Pos) (s : State) : (enterFailed p s).room = s.room := by simp [enterFailed]
@[simp] theorem enterFailed_medium (p : Pos) (s : State) : (enterFailed p s).medium = s.medium := by simp [enterFailed]
@[simp] theorem enterFailed_holds (p : Pos) (s : State) : (enterFailed p s).holds = s.holds := by simp [enterFailed]
@[simp] theorem enterFailed_gate (p : Pos) (s : State) : (enterFailed p s).gate = s.gate := by simp [enterFailed]
@[simp] theorem enterFailed_geom (p : Pos) (s : State) : (enterFailed p s).geom = s.geom := by simp [enterFailed]
@[simp] theorem enterFailed_lampRecords (p : Pos) (s : State) : (enterFailed p s).lampRecords = s.lampRecords := by simp [enterFailed]

/-! ### windowRunsOut -/
@[simp] theorem windowRunsOut_fixed (p : Pos) (s : State) : (windowRunsOut p s).fixed = s.fixed := by simp only [windowRunsOut]; (repeat' split) <;> simp
@[simp] theorem windowRunsOut_reports (p : Pos) (s : State) : (windowRunsOut p s).reports = s.reports := by simp only [windowRunsOut]; (repeat' split) <;> simp
@[simp] theorem windowRunsOut_table (p : Pos) (s : State) : (windowRunsOut p s).table = s.table := by simp only [windowRunsOut]; (repeat' split) <;> simp
@[simp] theorem windowRunsOut_sources (p : Pos) (s : State) : (windowRunsOut p s).sources = s.sources := by simp only [windowRunsOut]; (repeat' split) <;> simp
@[simp] theorem windowRunsOut_room (p : Pos) (s : State) : (windowRunsOut p s).room = s.room := by simp only [windowRunsOut]; (repeat' split) <;> simp
@[simp] theorem windowRunsOut_medium (p : Pos) (s : State) : (windowRunsOut p s).medium = s.medium := by simp only [windowRunsOut]; (repeat' split) <;> simp
@[simp] theorem windowRunsOut_holds (p : Pos) (s : State) : (windowRunsOut p s).holds = s.holds := by simp only [windowRunsOut]; (repeat' split) <;> simp
@[simp] theorem windowRunsOut_gate (p : Pos) (s : State) : (windowRunsOut p s).gate = s.gate := by simp only [windowRunsOut]; (repeat' split) <;> simp
@[simp] theorem windowRunsOut_geom (p : Pos) (s : State) : (windowRunsOut p s).geom = s.geom := by simp only [windowRunsOut]; (repeat' split) <;> simp

/-! ### dropLamp -/
@[simp] theorem dropLamp_fixed (p : Pos) (s : State) : (dropLamp p s).fixed = s.fixed := by simp only [dropLamp]; (repeat' split) <;> simp
@[simp] theorem dropLamp_reports (p : Pos) (s : State) : (dropLamp p s).reports = s.reports := by simp only [dropLamp]; (repeat' split) <;> simp
@[simp] theorem dropLamp_table (p : Pos) (s : State) : (dropLamp p s).table = s.table := by simp only [dropLamp]; (repeat' split) <;> simp
@[simp] theorem dropLamp_sources (p : Pos) (s : State) : (dropLamp p s).sources = s.sources := by simp only [dropLamp]; (repeat' split) <;> simp
@[simp] theorem dropLamp_room (p : Pos) (s : State) : (dropLamp p s).room = s.room := by simp only [dropLamp]; (repeat' split) <;> simp
@[simp] theorem dropLamp_medium (p : Pos) (s : State) : (dropLamp p s).medium = s.medium := by simp only [dropLamp]; (repeat' split) <;> simp
@[simp] theorem dropLamp_holds (p : Pos) (s : State) : (dropLamp p s).holds = s.holds := by simp only [dropLamp]; (repeat' split) <;> simp
@[simp] theorem dropLamp_gate (p : Pos) (s : State) : (dropLamp p s).gate = s.gate := by simp only [dropLamp]; (repeat' split) <;> simp
@[simp] theorem dropLamp_geom (p : Pos) (s : State) : (dropLamp p s).geom = s.geom := by simp only [dropLamp]; (repeat' split) <;> simp
@[simp] theorem dropLamp_lampRecords (p : Pos) (s : State) : (dropLamp p s).lampRecords = s.lampRecords := by simp only [dropLamp]; (repeat' split) <;> simp

/-! ### enterCold -/
@[simp] theorem enterCold_fixed (p : Pos) (s : State) : (enterCold p s).fixed = s.fixed := by simp [enterCold]
@[simp] theorem enterCold_reports (p : Pos) (s : State) : (enterCold p s).reports = s.reports := by simp [enterCold]
@[simp] theorem enterCold_table (p : Pos) (s : State) : (enterCold p s).table = s.table := by simp [enterCold]
@[simp] theorem enterCold_sources (p : Pos) (s : State) : (enterCold p s).sources = s.sources := by simp [enterCold]
@[simp] theorem enterCold_room (p : Pos) (s : State) : (enterCold p s).room = s.room := by simp [enterCold]
@[simp] theorem enterCold_medium (p : Pos) (s : State) : (enterCold p s).medium = s.medium := by simp [enterCold]
@[simp] theorem enterCold_holds (p : Pos) (s : State) : (enterCold p s).holds = s.holds := by simp [enterCold]
@[simp] theorem enterCold_gate (p : Pos) (s : State) : (enterCold p s).gate = s.gate := by simp [enterCold]
@[simp] theorem enterCold_geom (p : Pos) (s : State) : (enterCold p s).geom = s.geom := by simp [enterCold]
@[simp] theorem enterCold_lampRecords (p : Pos) (s : State) : (enterCold p s).lampRecords = s.lampRecords := by simp [enterCold]
@[simp] theorem enterCold_sched (p : Pos) (s : State) : (enterCold p s).sched = s.sched := by simp [enterCold]
@[simp] theorem enterCold_notices (p : Pos) (s : State) : (enterCold p s).notices = s.notices := by simp [enterCold]
@[simp] theorem enterCold_store (p : Pos) (s : State) : (enterCold p s).store = s.store := by simp [enterCold]

/-! ### cooldownEnds -/
@[simp] theorem cooldownEnds_fixed (p : Pos) (s : State) : (cooldownEnds p s).fixed = s.fixed := by simp only [cooldownEnds]; (repeat' split) <;> simp
@[simp] theorem cooldownEnds_reports (p : Pos) (s : State) : (cooldownEnds p s).reports = s.reports := by simp only [cooldownEnds]; (repeat' split) <;> simp
@[simp] theorem cooldownEnds_table (p : Pos) (s : State) : (cooldownEnds p s).table = s.table := by simp only [cooldownEnds]; (repeat' split) <;> simp
@[simp] theorem cooldownEnds_sources (p : Pos) (s : State) : (cooldownEnds p s).sources = s.sources := by simp only [cooldownEnds]; (repeat' split) <;> simp
@[simp] theorem cooldownEnds_room (p : Pos) (s : State) : (cooldownEnds p s).room = s.room := by simp only [cooldownEnds]; (repeat' split) <;> simp
@[simp] theorem cooldownEnds_medium (p : Pos) (s : State) : (cooldownEnds p s).medium = s.medium := by simp only [cooldownEnds]; (repeat' split) <;> simp
@[simp] theorem cooldownEnds_holds (p : Pos) (s : State) : (cooldownEnds p s).holds = s.holds := by simp only [cooldownEnds]; (repeat' split) <;> simp
@[simp] theorem cooldownEnds_gate (p : Pos) (s : State) : (cooldownEnds p s).gate = s.gate := by simp only [cooldownEnds]; (repeat' split) <;> simp
@[simp] theorem cooldownEnds_geom (p : Pos) (s : State) : (cooldownEnds p s).geom = s.geom := by simp only [cooldownEnds]; (repeat' split) <;> simp
@[simp] theorem cooldownEnds_lampRecords (p : Pos) (s : State) : (cooldownEnds p s).lampRecords = s.lampRecords := by simp only [cooldownEnds]; (repeat' split) <;> simp

/-! ### strayLit -/
@[simp] theorem strayLit_fixed (p : Pos) (s : State) : (strayLit p s).fixed = s.fixed := by simp only [strayLit]; (repeat' split) <;> simp
@[simp] theorem strayLit_reports (p : Pos) (s : State) : (strayLit p s).reports = s.reports := by simp only [strayLit]; (repeat' split) <;> simp
@[simp] theorem strayLit_table (p : Pos) (s : State) : (strayLit p s).table = s.table := by simp only [strayLit]; (repeat' split) <;> simp
@[simp] theorem strayLit_sources (p : Pos) (s : State) : (strayLit p s).sources = s.sources := by simp only [strayLit]; (repeat' split) <;> simp
@[simp] theorem strayLit_room (p : Pos) (s : State) : (strayLit p s).room = s.room := by simp only [strayLit]; (repeat' split) <;> simp
@[simp] theorem strayLit_medium (p : Pos) (s : State) : (strayLit p s).medium = s.medium := by simp only [strayLit]; (repeat' split) <;> simp
@[simp] theorem strayLit_holds (p : Pos) (s : State) : (strayLit p s).holds = s.holds := by simp only [strayLit]; (repeat' split) <;> simp
@[simp] theorem strayLit_gate (p : Pos) (s : State) : (strayLit p s).gate = s.gate := by simp only [strayLit]; (repeat' split) <;> simp
@[simp] theorem strayLit_geom (p : Pos) (s : State) : (strayLit p s).geom = s.geom := by simp only [strayLit]; (repeat' split) <;> simp
@[simp] theorem strayLit_lampRecords (p : Pos) (s : State) : (strayLit p s).lampRecords = s.lampRecords := by simp only [strayLit]; (repeat' split) <;> simp
@[simp] theorem strayLit_sched (p : Pos) (s : State) : (strayLit p s).sched = s.sched := by simp only [strayLit]; (repeat' split) <;> simp

/-! ### lampReport -/
@[simp] theorem lampReport_fixed (p : Pos) (lit : Bool) (s : State) : (lampReport p lit s).fixed = s.fixed := by simp only [lampReport]; (repeat' split) <;> simp
@[simp] theorem lampReport_reports (p : Pos) (lit : Bool) (s : State) : (lampReport p lit s).reports = s.reports := by simp only [lampReport]; (repeat' split) <;> simp
@[simp] theorem lampReport_table (p : Pos) (lit : Bool) (s : State) : (lampReport p lit s).table = s.table := by simp only [lampReport]; (repeat' split) <;> simp
@[simp] theorem lampReport_sources (p : Pos) (lit : Bool) (s : State) : (lampReport p lit s).sources = s.sources := by simp only [lampReport]; (repeat' split) <;> simp
@[simp] theorem lampReport_room (p : Pos) (lit : Bool) (s : State) : (lampReport p lit s).room = s.room := by simp only [lampReport]; (repeat' split) <;> simp
@[simp] theorem lampReport_medium (p : Pos) (lit : Bool) (s : State) : (lampReport p lit s).medium = s.medium := by simp only [lampReport]; (repeat' split) <;> simp
@[simp] theorem lampReport_holds (p : Pos) (lit : Bool) (s : State) : (lampReport p lit s).holds = s.holds := by simp only [lampReport]; (repeat' split) <;> simp
@[simp] theorem lampReport_gate (p : Pos) (lit : Bool) (s : State) : (lampReport p lit s).gate = s.gate := by simp only [lampReport]; (repeat' split) <;> simp
@[simp] theorem lampReport_geom (p : Pos) (lit : Bool) (s : State) : (lampReport p lit s).geom = s.geom := by simp only [lampReport]; (repeat' split) <;> simp

/-! ### unstoredWraps -/
@[simp] theorem unstoredWraps_fixed (p : Pos) (s : State) : (unstoredWraps p s).fixed = s.fixed := by simp [unstoredWraps]
@[simp] theorem unstoredWraps_reports (p : Pos) (s : State) : (unstoredWraps p s).reports = s.reports := by simp [unstoredWraps]
@[simp] theorem unstoredWraps_table (p : Pos) (s : State) : (unstoredWraps p s).table = s.table := by simp [unstoredWraps]
@[simp] theorem unstoredWraps_sources (p : Pos) (s : State) : (unstoredWraps p s).sources = s.sources := by simp [unstoredWraps]
@[simp] theorem unstoredWraps_room (p : Pos) (s : State) : (unstoredWraps p s).room = s.room := by simp [unstoredWraps]
@[simp] theorem unstoredWraps_medium (p : Pos) (s : State) : (unstoredWraps p s).medium = s.medium := by simp [unstoredWraps]
@[simp] theorem unstoredWraps_holds (p : Pos) (s : State) : (unstoredWraps p s).holds = s.holds := by simp [unstoredWraps]
@[simp] theorem unstoredWraps_gate (p : Pos) (s : State) : (unstoredWraps p s).gate = s.gate := by simp [unstoredWraps]
@[simp] theorem unstoredWraps_geom (p : Pos) (s : State) : (unstoredWraps p s).geom = s.geom := by simp [unstoredWraps]
@[simp] theorem unstoredWraps_lampRecords (p : Pos) (s : State) : (unstoredWraps p s).lampRecords = s.lampRecords := by simp [unstoredWraps]
@[simp] theorem unstoredWraps_sched (p : Pos) (s : State) : (unstoredWraps p s).sched = s.sched := by simp [unstoredWraps]
@[simp] theorem unstoredWraps_notices (p : Pos) (s : State) : (unstoredWraps p s).notices = s.notices := by simp [unstoredWraps]

/-! ### countUnstored -/
@[simp] theorem countUnstored_fixed (p : Pos) (s : State) : (countUnstored p s).fixed = s.fixed := by simp only [countUnstored]; (repeat' split) <;> simp
@[simp] theorem countUnstored_reports (p : Pos) (s : State) : (countUnstored p s).reports = s.reports := by simp only [countUnstored]; (repeat' split) <;> simp
@[simp] theorem countUnstored_table (p : Pos) (s : State) : (countUnstored p s).table = s.table := by simp only [countUnstored]; (repeat' split) <;> simp
@[simp] theorem countUnstored_sources (p : Pos) (s : State) : (countUnstored p s).sources = s.sources := by simp only [countUnstored]; (repeat' split) <;> simp
@[simp] theorem countUnstored_room (p : Pos) (s : State) : (countUnstored p s).room = s.room := by simp only [countUnstored]; (repeat' split) <;> simp
@[simp] theorem countUnstored_medium (p : Pos) (s : State) : (countUnstored p s).medium = s.medium := by simp only [countUnstored]; (repeat' split) <;> simp
@[simp] theorem countUnstored_holds (p : Pos) (s : State) : (countUnstored p s).holds = s.holds := by simp only [countUnstored]; (repeat' split) <;> simp
@[simp] theorem countUnstored_gate (p : Pos) (s : State) : (countUnstored p s).gate = s.gate := by simp only [countUnstored]; (repeat' split) <;> simp
@[simp] theorem countUnstored_geom (p : Pos) (s : State) : (countUnstored p s).geom = s.geom := by simp only [countUnstored]; (repeat' split) <;> simp
@[simp] theorem countUnstored_lampRecords (p : Pos) (s : State) : (countUnstored p s).lampRecords = s.lampRecords := by simp only [countUnstored]; (repeat' split) <;> simp
@[simp] theorem countUnstored_sched (p : Pos) (s : State) : (countUnstored p s).sched = s.sched := by simp only [countUnstored]; (repeat' split) <;> simp
@[simp] theorem countUnstored_notices (p : Pos) (s : State) : (countUnstored p s).notices = s.notices := by simp only [countUnstored]; (repeat' split) <;> simp

/-! ### continuousReaches600 -/
@[simp] theorem continuousReaches600_fixed (p : Pos) (s : State) : (continuousReaches600 p s).fixed = s.fixed := by simp [continuousReaches600]
@[simp] theorem continuousReaches600_reports (p : Pos) (s : State) : (continuousReaches600 p s).reports = s.reports := by simp [continuousReaches600]
@[simp] theorem continuousReaches600_table (p : Pos) (s : State) : (continuousReaches600 p s).table = s.table := by simp [continuousReaches600]
@[simp] theorem continuousReaches600_sources (p : Pos) (s : State) : (continuousReaches600 p s).sources = s.sources := by simp [continuousReaches600]
@[simp] theorem continuousReaches600_room (p : Pos) (s : State) : (continuousReaches600 p s).room = s.room := by simp [continuousReaches600]
@[simp] theorem continuousReaches600_medium (p : Pos) (s : State) : (continuousReaches600 p s).medium = s.medium := by simp [continuousReaches600]
@[simp] theorem continuousReaches600_holds (p : Pos) (s : State) : (continuousReaches600 p s).holds = s.holds := by simp [continuousReaches600]
@[simp] theorem continuousReaches600_gate (p : Pos) (s : State) : (continuousReaches600 p s).gate = s.gate := by simp [continuousReaches600]
@[simp] theorem continuousReaches600_geom (p : Pos) (s : State) : (continuousReaches600 p s).geom = s.geom := by simp [continuousReaches600]
@[simp] theorem continuousReaches600_lampRecords (p : Pos) (s : State) : (continuousReaches600 p s).lampRecords = s.lampRecords := by simp [continuousReaches600]
@[simp] theorem continuousReaches600_sched (p : Pos) (s : State) : (continuousReaches600 p s).sched = s.sched := by simp [continuousReaches600]
@[simp] theorem continuousReaches600_notices (p : Pos) (s : State) : (continuousReaches600 p s).notices = s.notices := by simp [continuousReaches600]
@[simp] theorem continuousReaches600_store (p : Pos) (s : State) : (continuousReaches600 p s).store = s.store := by simp [continuousReaches600]
@[simp] theorem continuousReaches600_engine (p : Pos) (s : State) : (continuousReaches600 p s).engine = s.engine := by simp [continuousReaches600]

/-! ### countContinuous -/
@[simp] theorem countContinuous_fixed (p : Pos) (s : State) : (countContinuous p s).fixed = s.fixed := by simp only [countContinuous]; (repeat' split) <;> simp
@[simp] theorem countContinuous_reports (p : Pos) (s : State) : (countContinuous p s).reports = s.reports := by simp only [countContinuous]; (repeat' split) <;> simp
@[simp] theorem countContinuous_table (p : Pos) (s : State) : (countContinuous p s).table = s.table := by simp only [countContinuous]; (repeat' split) <;> simp
@[simp] theorem countContinuous_sources (p : Pos) (s : State) : (countContinuous p s).sources = s.sources := by simp only [countContinuous]; (repeat' split) <;> simp
@[simp] theorem countContinuous_room (p : Pos) (s : State) : (countContinuous p s).room = s.room := by simp only [countContinuous]; (repeat' split) <;> simp
@[simp] theorem countContinuous_medium (p : Pos) (s : State) : (countContinuous p s).medium = s.medium := by simp only [countContinuous]; (repeat' split) <;> simp
@[simp] theorem countContinuous_holds (p : Pos) (s : State) : (countContinuous p s).holds = s.holds := by simp only [countContinuous]; (repeat' split) <;> simp
@[simp] theorem countContinuous_gate (p : Pos) (s : State) : (countContinuous p s).gate = s.gate := by simp only [countContinuous]; (repeat' split) <;> simp
@[simp] theorem countContinuous_geom (p : Pos) (s : State) : (countContinuous p s).geom = s.geom := by simp only [countContinuous]; (repeat' split) <;> simp
@[simp] theorem countContinuous_lampRecords (p : Pos) (s : State) : (countContinuous p s).lampRecords = s.lampRecords := by simp only [countContinuous]; (repeat' split) <;> simp
@[simp] theorem countContinuous_sched (p : Pos) (s : State) : (countContinuous p s).sched = s.sched := by simp only [countContinuous]; (repeat' split) <;> simp
@[simp] theorem countContinuous_notices (p : Pos) (s : State) : (countContinuous p s).notices = s.notices := by simp only [countContinuous]; (repeat' split) <;> simp
@[simp] theorem countContinuous_store (p : Pos) (s : State) : (countContinuous p s).store = s.store := by simp only [countContinuous]; (repeat' split) <;> simp
@[simp] theorem countContinuous_engine (p : Pos) (s : State) : (countContinuous p s).engine = s.engine := by simp only [countContinuous]; (repeat' split) <;> simp

/-! ### accrue -/
@[simp] theorem accrue_fixed (p : Pos) (s : State) : (accrue p s).fixed = s.fixed := by simp [accrue]
@[simp] theorem accrue_reports (p : Pos) (s : State) : (accrue p s).reports = s.reports := by simp [accrue]
@[simp] theorem accrue_table (p : Pos) (s : State) : (accrue p s).table = s.table := by simp [accrue]
@[simp] theorem accrue_sources (p : Pos) (s : State) : (accrue p s).sources = s.sources := by simp [accrue]
@[simp] theorem accrue_room (p : Pos) (s : State) : (accrue p s).room = s.room := by simp [accrue]
@[simp] theorem accrue_medium (p : Pos) (s : State) : (accrue p s).medium = s.medium := by simp [accrue]
@[simp] theorem accrue_holds (p : Pos) (s : State) : (accrue p s).holds = s.holds := by simp [accrue]
@[simp] theorem accrue_gate (p : Pos) (s : State) : (accrue p s).gate = s.gate := by simp [accrue]
@[simp] theorem accrue_geom (p : Pos) (s : State) : (accrue p s).geom = s.geom := by simp [accrue]
@[simp] theorem accrue_sched (p : Pos) (s : State) : (accrue p s).sched = s.sched := by simp [accrue]
@[simp] theorem accrue_notices (p : Pos) (s : State) : (accrue p s).notices = s.notices := by simp [accrue]
@[simp] theorem accrue_store (p : Pos) (s : State) : (accrue p s).store = s.store := by simp [accrue]
@[simp] theorem accrue_engine (p : Pos) (s : State) : (accrue p s).engine = s.engine := by simp [accrue]

/-! ### warnTest -/
@[simp] theorem warnTest_fixed (p : Pos) (s : State) : (warnTest p s).fixed = s.fixed := by simp only [warnTest]; (repeat' split) <;> simp
@[simp] theorem warnTest_reports (p : Pos) (s : State) : (warnTest p s).reports = s.reports := by simp only [warnTest]; (repeat' split) <;> simp
@[simp] theorem warnTest_table (p : Pos) (s : State) : (warnTest p s).table = s.table := by simp only [warnTest]; (repeat' split) <;> simp
@[simp] theorem warnTest_sources (p : Pos) (s : State) : (warnTest p s).sources = s.sources := by simp only [warnTest]; (repeat' split) <;> simp
@[simp] theorem warnTest_room (p : Pos) (s : State) : (warnTest p s).room = s.room := by simp only [warnTest]; (repeat' split) <;> simp
@[simp] theorem warnTest_medium (p : Pos) (s : State) : (warnTest p s).medium = s.medium := by simp only [warnTest]; (repeat' split) <;> simp
@[simp] theorem warnTest_holds (p : Pos) (s : State) : (warnTest p s).holds = s.holds := by simp only [warnTest]; (repeat' split) <;> simp
@[simp] theorem warnTest_gate (p : Pos) (s : State) : (warnTest p s).gate = s.gate := by simp only [warnTest]; (repeat' split) <;> simp
@[simp] theorem warnTest_geom (p : Pos) (s : State) : (warnTest p s).geom = s.geom := by simp only [warnTest]; (repeat' split) <;> simp
@[simp] theorem warnTest_lampRecords (p : Pos) (s : State) : (warnTest p s).lampRecords = s.lampRecords := by simp only [warnTest]; (repeat' split) <;> simp
@[simp] theorem warnTest_sched (p : Pos) (s : State) : (warnTest p s).sched = s.sched := by simp only [warnTest]; (repeat' split) <;> simp
@[simp] theorem warnTest_store (p : Pos) (s : State) : (warnTest p s).store = s.store := by simp only [warnTest]; (repeat' split) <;> simp
@[simp] theorem warnTest_engine (p : Pos) (s : State) : (warnTest p s).engine = s.engine := by simp only [warnTest]; (repeat' split) <;> simp

/-! ### derateTest -/
@[simp] theorem derateTest_fixed (p : Pos) (s : State) : (derateTest p s).fixed = s.fixed := by simp only [derateTest]; (repeat' split) <;> simp
@[simp] theorem derateTest_reports (p : Pos) (s : State) : (derateTest p s).reports = s.reports := by simp only [derateTest]; (repeat' split) <;> simp
@[simp] theorem derateTest_table (p : Pos) (s : State) : (derateTest p s).table = s.table := by simp only [derateTest]; (repeat' split) <;> simp
@[simp] theorem derateTest_sources (p : Pos) (s : State) : (derateTest p s).sources = s.sources := by simp only [derateTest]; (repeat' split) <;> simp
@[simp] theorem derateTest_room (p : Pos) (s : State) : (derateTest p s).room = s.room := by simp only [derateTest]; (repeat' split) <;> simp
@[simp] theorem derateTest_medium (p : Pos) (s : State) : (derateTest p s).medium = s.medium := by simp only [derateTest]; (repeat' split) <;> simp
@[simp] theorem derateTest_holds (p : Pos) (s : State) : (derateTest p s).holds = s.holds := by simp only [derateTest]; (repeat' split) <;> simp
@[simp] theorem derateTest_gate (p : Pos) (s : State) : (derateTest p s).gate = s.gate := by simp only [derateTest]; (repeat' split) <;> simp
@[simp] theorem derateTest_geom (p : Pos) (s : State) : (derateTest p s).geom = s.geom := by simp only [derateTest]; (repeat' split) <;> simp
@[simp] theorem derateTest_lampRecords (p : Pos) (s : State) : (derateTest p s).lampRecords = s.lampRecords := by simp only [derateTest]; (repeat' split) <;> simp
@[simp] theorem derateTest_sched (p : Pos) (s : State) : (derateTest p s).sched = s.sched := by simp only [derateTest]; (repeat' split) <;> simp
@[simp] theorem derateTest_store (p : Pos) (s : State) : (derateTest p s).store = s.store := by simp only [derateTest]; (repeat' split) <;> simp

/-! ### limitTest -/
@[simp] theorem limitTest_fixed (p : Pos) (s : State) : (limitTest p s).fixed = s.fixed := by simp only [limitTest]; (repeat' split) <;> simp
@[simp] theorem limitTest_reports (p : Pos) (s : State) : (limitTest p s).reports = s.reports := by simp only [limitTest]; (repeat' split) <;> simp
@[simp] theorem limitTest_table (p : Pos) (s : State) : (limitTest p s).table = s.table := by simp only [limitTest]; (repeat' split) <;> simp
@[simp] theorem limitTest_sources (p : Pos) (s : State) : (limitTest p s).sources = s.sources := by simp only [limitTest]; (repeat' split) <;> simp
@[simp] theorem limitTest_room (p : Pos) (s : State) : (limitTest p s).room = s.room := by simp only [limitTest]; (repeat' split) <;> simp
@[simp] theorem limitTest_medium (p : Pos) (s : State) : (limitTest p s).medium = s.medium := by simp only [limitTest]; (repeat' split) <;> simp
@[simp] theorem limitTest_holds (p : Pos) (s : State) : (limitTest p s).holds = s.holds := by simp only [limitTest]; (repeat' split) <;> simp
@[simp] theorem limitTest_gate (p : Pos) (s : State) : (limitTest p s).gate = s.gate := by simp only [limitTest]; (repeat' split) <;> simp
@[simp] theorem limitTest_geom (p : Pos) (s : State) : (limitTest p s).geom = s.geom := by simp only [limitTest]; (repeat' split) <;> simp
@[simp] theorem limitTest_lampRecords (p : Pos) (s : State) : (limitTest p s).lampRecords = s.lampRecords := by simp only [limitTest]; (repeat' split) <;> simp
@[simp] theorem limitTest_sched (p : Pos) (s : State) : (limitTest p s).sched = s.sched := by simp only [limitTest]; (repeat' split) <;> simp
@[simp] theorem limitTest_store (p : Pos) (s : State) : (limitTest p s).store = s.store := by simp only [limitTest]; (repeat' split) <;> simp

/-! ### machineSecond -/
@[simp] theorem machineSecond_fixed (p : Pos) (s : State) : (machineSecond p s).fixed = s.fixed := by simp only [machineSecond]; (repeat' split) <;> simp
@[simp] theorem machineSecond_reports (p : Pos) (s : State) : (machineSecond p s).reports = s.reports := by simp only [machineSecond]; (repeat' split) <;> simp
@[simp] theorem machineSecond_table (p : Pos) (s : State) : (machineSecond p s).table = s.table := by simp only [machineSecond]; (repeat' split) <;> simp
@[simp] theorem machineSecond_sources (p : Pos) (s : State) : (machineSecond p s).sources = s.sources := by simp only [machineSecond]; (repeat' split) <;> simp
@[simp] theorem machineSecond_room (p : Pos) (s : State) : (machineSecond p s).room = s.room := by simp only [machineSecond]; (repeat' split) <;> simp
@[simp] theorem machineSecond_medium (p : Pos) (s : State) : (machineSecond p s).medium = s.medium := by simp only [machineSecond]; (repeat' split) <;> simp
@[simp] theorem machineSecond_holds (p : Pos) (s : State) : (machineSecond p s).holds = s.holds := by simp only [machineSecond]; (repeat' split) <;> simp
@[simp] theorem machineSecond_gate (p : Pos) (s : State) : (machineSecond p s).gate = s.gate := by simp only [machineSecond]; (repeat' split) <;> simp
@[simp] theorem machineSecond_geom (p : Pos) (s : State) : (machineSecond p s).geom = s.geom := by simp only [machineSecond]; (repeat' split) <;> simp

/-! ### litSecond -/
@[simp] theorem litSecond_fixed (p : Pos) (s : State) : (litSecond p s).fixed = s.fixed := by simp only [litSecond]; (repeat' split) <;> simp
@[simp] theorem litSecond_reports (p : Pos) (s : State) : (litSecond p s).reports = s.reports := by simp only [litSecond]; (repeat' split) <;> simp
@[simp] theorem litSecond_table (p : Pos) (s : State) : (litSecond p s).table = s.table := by simp only [litSecond]; (repeat' split) <;> simp
@[simp] theorem litSecond_sources (p : Pos) (s : State) : (litSecond p s).sources = s.sources := by simp only [litSecond]; (repeat' split) <;> simp
@[simp] theorem litSecond_room (p : Pos) (s : State) : (litSecond p s).room = s.room := by simp only [litSecond]; (repeat' split) <;> simp
@[simp] theorem litSecond_medium (p : Pos) (s : State) : (litSecond p s).medium = s.medium := by simp only [litSecond]; (repeat' split) <;> simp
@[simp] theorem litSecond_holds (p : Pos) (s : State) : (litSecond p s).holds = s.holds := by simp only [litSecond]; (repeat' split) <;> simp
@[simp] theorem litSecond_gate (p : Pos) (s : State) : (litSecond p s).gate = s.gate := by simp only [litSecond]; (repeat' split) <;> simp
@[simp] theorem litSecond_geom (p : Pos) (s : State) : (litSecond p s).geom = s.geom := by simp only [litSecond]; (repeat' split) <;> simp
@[simp] theorem litSecond_sched (p : Pos) (s : State) : (litSecond p s).sched = s.sched := by simp only [litSecond]; (repeat' split) <;> simp
@[simp] theorem litSecond_notices (p : Pos) (s : State) : (litSecond p s).notices = s.notices := by simp only [litSecond]; (repeat' split) <;> simp

/-! ### lampsSecond -/
@[simp] theorem lampsSecond_fixed (s : State) : (lampsSecond s).fixed = s.fixed := by simp [lampsSecond]
@[simp] theorem lampsSecond_reports (s : State) : (lampsSecond s).reports = s.reports := by simp [lampsSecond]
@[simp] theorem lampsSecond_table (s : State) : (lampsSecond s).table = s.table := by simp [lampsSecond]
@[simp] theorem lampsSecond_sources (s : State) : (lampsSecond s).sources = s.sources := by simp [lampsSecond]
@[simp] theorem lampsSecond_room (s : State) : (lampsSecond s).room = s.room := by simp [lampsSecond]
@[simp] theorem lampsSecond_medium (s : State) : (lampsSecond s).medium = s.medium := by simp [lampsSecond]
@[simp] theorem lampsSecond_holds (s : State) : (lampsSecond s).holds = s.holds := by simp [lampsSecond]
@[simp] theorem lampsSecond_gate (s : State) : (lampsSecond s).gate = s.gate := by simp [lampsSecond]
@[simp] theorem lampsSecond_geom (s : State) : (lampsSecond s).geom = s.geom := by simp [lampsSecond]

/-! ### takeThermal -/
@[simp] theorem takeThermal_fixed (t : Thermal) (s : State) : (takeThermal t s).fixed = s.fixed := by simp [takeThermal]
@[simp] theorem takeThermal_table (t : Thermal) (s : State) : (takeThermal t s).table = s.table := by simp [takeThermal]
@[simp] theorem takeThermal_sources (t : Thermal) (s : State) : (takeThermal t s).sources = s.sources := by simp [takeThermal]
@[simp] theorem takeThermal_room (t : Thermal) (s : State) : (takeThermal t s).room = s.room := by simp [takeThermal]
@[simp] theorem takeThermal_medium (t : Thermal) (s : State) : (takeThermal t s).medium = s.medium := by simp [takeThermal]
@[simp] theorem takeThermal_holds (t : Thermal) (s : State) : (takeThermal t s).holds = s.holds := by simp [takeThermal]
@[simp] theorem takeThermal_gate (t : Thermal) (s : State) : (takeThermal t s).gate = s.gate := by simp [takeThermal]
@[simp] theorem takeThermal_geom (t : Thermal) (s : State) : (takeThermal t s).geom = s.geom := by simp [takeThermal]
@[simp] theorem takeThermal_lampRecords (t : Thermal) (s : State) : (takeThermal t s).lampRecords = s.lampRecords := by simp [takeThermal]
@[simp] theorem takeThermal_sched (t : Thermal) (s : State) : (takeThermal t s).sched = s.sched := by simp [takeThermal]
@[simp] theorem takeThermal_notices (t : Thermal) (s : State) : (takeThermal t s).notices = s.notices := by simp [takeThermal]
@[simp] theorem takeThermal_store (t : Thermal) (s : State) : (takeThermal t s).store = s.store := by simp [takeThermal]

end Sys2Proof.Machine
end

