-- ==== Sys2Proof/Laws/BookingTable.lean ====
section
/-! SUPPORT. What the booking table's operations leave alone. -/

namespace Sys2Proof.Machine

/-! ### recommit -/
@[simp] theorem recommit_record (p : Pos) (old new : List Booking) (l : Lamp) : (recommit p old new l).record = l.record := rfl
@[simp] theorem recommit_state (p : Pos) (old new : List Booking) (l : Lamp) : (recommit p old new l).state = l.state := rfl
@[simp] theorem recommit_attempts (p : Pos) (old new : List Booking) (l : Lamp) : (recommit p old new l).attempts = l.attempts := rfl
@[simp] theorem recommit_cooldown (p : Pos) (old new : List Booking) (l : Lamp) : (recommit p old new l).cooldown = l.cooldown := rfl
@[simp] theorem recommit_window (p : Pos) (old new : List Booking) (l : Lamp) : (recommit p old new l).window = l.window := rfl
@[simp] theorem recommit_power (p : Pos) (old new : List Booking) (l : Lamp) : (recommit p old new l).power = l.power := rfl
@[simp] theorem recommit_unstored (p : Pos) (old new : List Booking) (l : Lamp) : (recommit p old new l).unstored = l.unstored := rfl
@[simp] theorem recommit_continuous (p : Pos) (old new : List Booking) (l : Lamp) : (recommit p old new l).continuous = l.continuous := rfl
@[simp] theorem recommit_wanted (p : Pos) (old new : List Booking) (l : Lamp) : (recommit p old new l).wanted = l.wanted := rfl
@[simp] theorem recommit_warned (p : Pos) (old new : List Booking) (l : Lamp) : (recommit p old new l).warned = l.warned := rfl
@[simp] theorem recommit_derated (p : Pos) (old new : List Booking) (l : Lamp) : (recommit p old new l).derated = l.derated := rfl

/-! ### changeTable -/
@[simp] theorem changeTable_fixed (bs : List Booking) (s : State) : (changeTable bs s).fixed = s.fixed := by simp [changeTable]
@[simp] theorem changeTable_reports (bs : List Booking) (s : State) : (changeTable bs s).reports = s.reports := by simp [changeTable]
@[simp] theorem changeTable_sources (bs : List Booking) (s : State) : (changeTable bs s).sources = s.sources := by simp [changeTable]
@[simp] theorem changeTable_room (bs : List Booking) (s : State) : (changeTable bs s).room = s.room := by simp [changeTable]
@[simp] theorem changeTable_medium (bs : List Booking) (s : State) : (changeTable bs s).medium = s.medium := by simp [changeTable]
@[simp] theorem changeTable_holds (bs : List Booking) (s : State) : (changeTable bs s).holds = s.holds := by simp [changeTable]
@[simp] theorem changeTable_gate (bs : List Booking) (s : State) : (changeTable bs s).gate = s.gate := by simp [changeTable]
@[simp] theorem changeTable_geom (bs : List Booking) (s : State) : (changeTable bs s).geom = s.geom := by simp [changeTable]
@[simp] theorem changeTable_sched (bs : List Booking) (s : State) : (changeTable bs s).sched = s.sched := by simp [changeTable]
@[simp] theorem changeTable_notices (bs : List Booking) (s : State) : (changeTable bs s).notices = s.notices := by simp [changeTable]
@[simp] theorem changeTable_store (bs : List Booking) (s : State) : (changeTable bs s).store = s.store := by simp [changeTable]
@[simp] theorem changeTable_engine (bs : List Booking) (s : State) : (changeTable bs s).engine = s.engine := by simp [changeTable]

@[simp] theorem changeTable_lampRecords (bs : List Booking) (s : State) : (changeTable bs s).lampRecords = s.lampRecords := by
  rw [changeTable, State.setLamp_lampRecords, State.setLamp_lampRecords] <;> simp

/-! ### overcommittedTest -/
@[simp] theorem overcommittedTest_fixed (l : LampSet) (s : State) : (overcommittedTest l s).fixed = s.fixed := by simp only [overcommittedTest]; (repeat' split) <;> simp
@[simp] theorem overcommittedTest_reports (l : LampSet) (s : State) : (overcommittedTest l s).reports = s.reports := by simp only [overcommittedTest]; (repeat' split) <;> simp
@[simp] theorem overcommittedTest_table (l : LampSet) (s : State) : (overcommittedTest l s).table = s.table := by simp only [overcommittedTest]; (repeat' split) <;> simp
@[simp] theorem overcommittedTest_lampRecords (l : LampSet) (s : State) : (overcommittedTest l s).lampRecords = s.lampRecords := by simp only [overcommittedTest]; (repeat' split) <;> simp
@[simp] theorem overcommittedTest_sources (l : LampSet) (s : State) : (overcommittedTest l s).sources = s.sources := by simp only [overcommittedTest]; (repeat' split) <;> simp
@[simp] theorem overcommittedTest_room (l : LampSet) (s : State) : (overcommittedTest l s).room = s.room := by simp only [overcommittedTest]; (repeat' split) <;> simp
@[simp] theorem overcommittedTest_medium (l : LampSet) (s : State) : (overcommittedTest l s).medium = s.medium := by simp only [overcommittedTest]; (repeat' split) <;> simp
@[simp] theorem overcommittedTest_holds (l : LampSet) (s : State) : (overcommittedTest l s).holds = s.holds := by simp only [overcommittedTest]; (repeat' split) <;> simp
@[simp] theorem overcommittedTest_gate (l : LampSet) (s : State) : (overcommittedTest l s).gate = s.gate := by simp only [overcommittedTest]; (repeat' split) <;> simp
@[simp] theorem overcommittedTest_geom (l : LampSet) (s : State) : (overcommittedTest l s).geom = s.geom := by simp only [overcommittedTest]; (repeat' split) <;> simp
@[simp] theorem overcommittedTest_sched (l : LampSet) (s : State) : (overcommittedTest l s).sched = s.sched := by simp only [overcommittedTest]; (repeat' split) <;> simp
@[simp] theorem overcommittedTest_store (l : LampSet) (s : State) : (overcommittedTest l s).store = s.store := by simp only [overcommittedTest]; (repeat' split) <;> simp
@[simp] theorem overcommittedTest_engine (l : LampSet) (s : State) : (overcommittedTest l s).engine = s.engine := by simp only [overcommittedTest]; (repeat' split) <;> simp
@[simp] theorem overcommittedTest_lampA (l : LampSet) (s : State) : (overcommittedTest l s).lampA = s.lampA := by simp only [overcommittedTest]; (repeat' split) <;> simp
@[simp] theorem overcommittedTest_lampB (l : LampSet) (s : State) : (overcommittedTest l s).lampB = s.lampB := by simp only [overcommittedTest]; (repeat' split) <;> simp

/-! ### testRisen -/
@[simp] theorem testRisen_fixed (x : State) (s : State) : (testRisen x s).fixed = s.fixed := by simp [testRisen]
@[simp] theorem testRisen_reports (x : State) (s : State) : (testRisen x s).reports = s.reports := by simp [testRisen]
@[simp] theorem testRisen_table (x : State) (s : State) : (testRisen x s).table = s.table := by simp [testRisen]
@[simp] theorem testRisen_lampRecords (x : State) (s : State) : (testRisen x s).lampRecords = s.lampRecords := by simp [testRisen]
@[simp] theorem testRisen_sources (x : State) (s : State) : (testRisen x s).sources = s.sources := by simp [testRisen]
@[simp] theorem testRisen_room (x : State) (s : State) : (testRisen x s).room = s.room := by simp [testRisen]
@[simp] theorem testRisen_medium (x : State) (s : State) : (testRisen x s).medium = s.medium := by simp [testRisen]
@[simp] theorem testRisen_holds (x : State) (s : State) : (testRisen x s).holds = s.holds := by simp [testRisen]
@[simp] theorem testRisen_gate (x : State) (s : State) : (testRisen x s).gate = s.gate := by simp [testRisen]
@[simp] theorem testRisen_geom (x : State) (s : State) : (testRisen x s).geom = s.geom := by simp [testRisen]
@[simp] theorem testRisen_sched (x : State) (s : State) : (testRisen x s).sched = s.sched := by simp [testRisen]
@[simp] theorem testRisen_store (x : State) (s : State) : (testRisen x s).store = s.store := by simp [testRisen]
@[simp] theorem testRisen_engine (x : State) (s : State) : (testRisen x s).engine = s.engine := by simp [testRisen]
@[simp] theorem testRisen_lampA (x : State) (s : State) : (testRisen x s).lampA = s.lampA := by simp [testRisen]
@[simp] theorem testRisen_lampB (x : State) (s : State) : (testRisen x s).lampB = s.lampB := by simp [testRisen]

/-! ### dropBooking -/
@[simp] theorem dropBooking_fixed (b : Booking) (s : State) : (dropBooking b s).fixed = s.fixed := by simp [dropBooking]
@[simp] theorem dropBooking_reports (b : Booking) (s : State) : (dropBooking b s).reports = s.reports := by simp [dropBooking]
@[simp] theorem dropBooking_lampRecords (b : Booking) (s : State) : (dropBooking b s).lampRecords = s.lampRecords := by simp [dropBooking]
@[simp] theorem dropBooking_sources (b : Booking) (s : State) : (dropBooking b s).sources = s.sources := by simp [dropBooking]
@[simp] theorem dropBooking_room (b : Booking) (s : State) : (dropBooking b s).room = s.room := by simp [dropBooking]
@[simp] theorem dropBooking_medium (b : Booking) (s : State) : (dropBooking b s).medium = s.medium := by simp [dropBooking]
@[simp] theorem dropBooking_holds (b : Booking) (s : State) : (dropBooking b s).holds = s.holds := by simp [dropBooking]
@[simp] theorem dropBooking_gate (b : Booking) (s : State) : (dropBooking b s).gate = s.gate := by simp [dropBooking]
@[simp] theorem dropBooking_geom (b : Booking) (s : State) : (dropBooking b s).geom = s.geom := by simp [dropBooking]
@[simp] theorem dropBooking_sched (b : Booking) (s : State) : (dropBooking b s).sched = s.sched := by simp [dropBooking]
@[simp] theorem dropBooking_notices (b : Booking) (s : State) : (dropBooking b s).notices = s.notices := by simp [dropBooking]
@[simp] theorem dropBooking_engine (b : Booking) (s : State) : (dropBooking b s).engine = s.engine := by simp [dropBooking]

/-! ### departBooking -/
@[simp] theorem departBooking_fixed (b : Booking) (s : State) : (departBooking b s).fixed = s.fixed := by simp [departBooking]
@[simp] theorem departBooking_reports (b : Booking) (s : State) : (departBooking b s).reports = s.reports := by simp [departBooking]
@[simp] theorem departBooking_lampRecords (b : Booking) (s : State) : (departBooking b s).lampRecords = s.lampRecords := by simp [departBooking]
@[simp] theorem departBooking_sources (b : Booking) (s : State) : (departBooking b s).sources = s.sources := by simp [departBooking]
@[simp] theorem departBooking_room (b : Booking) (s : State) : (departBooking b s).room = s.room := by simp [departBooking]
@[simp] theorem departBooking_medium (b : Booking) (s : State) : (departBooking b s).medium = s.medium := by simp [departBooking]
@[simp] theorem departBooking_holds (b : Booking) (s : State) : (departBooking b s).holds = s.holds := by simp [departBooking]
@[simp] theorem departBooking_gate (b : Booking) (s : State) : (departBooking b s).gate = s.gate := by simp [departBooking]
@[simp] theorem departBooking_geom (b : Booking) (s : State) : (departBooking b s).geom = s.geom := by simp [departBooking]
@[simp] theorem departBooking_sched (b : Booking) (s : State) : (departBooking b s).sched = s.sched := by simp [departBooking]
@[simp] theorem departBooking_engine (b : Booking) (s : State) : (departBooking b s).engine = s.engine := by simp [departBooking]

/-! ### endGapIfDue -/
@[simp] theorem endGapIfDue_fixed (s : State) : (endGapIfDue s).fixed = s.fixed := by simp only [endGapIfDue]; (repeat' split) <;> simp
@[simp] theorem endGapIfDue_reports (s : State) : (endGapIfDue s).reports = s.reports := by simp only [endGapIfDue]; (repeat' split) <;> simp
@[simp] theorem endGapIfDue_table (s : State) : (endGapIfDue s).table = s.table := by simp only [endGapIfDue]; (repeat' split) <;> simp
@[simp] theorem endGapIfDue_lampRecords (s : State) : (endGapIfDue s).lampRecords = s.lampRecords := by simp only [endGapIfDue]; (repeat' split) <;> simp
@[simp] theorem endGapIfDue_sources (s : State) : (endGapIfDue s).sources = s.sources := by simp only [endGapIfDue]; (repeat' split) <;> simp
@[simp] theorem endGapIfDue_room (s : State) : (endGapIfDue s).room = s.room := by simp only [endGapIfDue]; (repeat' split) <;> simp
@[simp] theorem endGapIfDue_medium (s : State) : (endGapIfDue s).medium = s.medium := by simp only [endGapIfDue]; (repeat' split) <;> simp
@[simp] theorem endGapIfDue_holds (s : State) : (endGapIfDue s).holds = s.holds := by simp only [endGapIfDue]; (repeat' split) <;> simp
@[simp] theorem endGapIfDue_gate (s : State) : (endGapIfDue s).gate = s.gate := by simp only [endGapIfDue]; (repeat' split) <;> simp
@[simp] theorem endGapIfDue_geom (s : State) : (endGapIfDue s).geom = s.geom := by simp only [endGapIfDue]; (repeat' split) <;> simp

@[simp] theorem changeTable_bookings (bs : List Booking) (s : State) : (changeTable bs s).bookings = bs := by simp [changeTable]

end Sys2Proof.Machine
end

