-- ==== Sys2Proof/Laws/RecordContracts.lean ====
section
/-! SUPPORT. What the load reads from a stored record, once, in the words of `Sys2Proof.Safety`: for each kind of record, the load
gives a value exactly where the record agrees with its check byte and its content is the bytes of that value, in range. -/

namespace Sys2Proof.Machine

/-! ## Numbers in bytes -/

theorem append_toNat {m n : Nat} (x : BitVec m) (y : BitVec n) : (x ++ y).toNat = x.toNat * 2 ^ n + y.toNat := by
  rw [BitVec.toNat_append, ← Nat.shiftLeft_add_eq_or_of_lt y.isLt, Nat.shiftLeft_eq]

theorem byte_toNat (n : Nat) : (byte n).toNat = n % 256 := BitVec.toNat_ofNat n 8

theorem byte_toNat_self (b : Byte) : byte b.toNat = b := by simp [byte]

theorem two_bytes {n : Nat} (h : n ≤ 65535) : (byte (n / 256) ++ byte n : BitVec 16).toNat = n := by
  rw [append_toNat, byte_toNat, byte_toNat]; omega

theorem four_bytes {n : Nat} (h : n ≤ 4294967295) :
    ((byte (n / 16777216) ++ byte (n / 65536) : BitVec 16) ++ (byte (n / 256) ++ byte n : BitVec 16) : BitVec 32).toNat = n := by
  rw [append_toNat, append_toNat, append_toNat]; simp only [byte_toNat]; omega

/-- A signed number of 16 bits comes back from its two bytes. -/
theorem signed_bytes {v : Int} (h1 : -32768 ≤ v) (h2 : v ≤ 32767) :
    (byte ((BitVec.ofInt 16 v).toNat / 256) ++ byte (BitVec.ofInt 16 v).toNat : BitVec 16).toInt = v := by
  have h : (byte ((BitVec.ofInt 16 v).toNat / 256) ++ byte (BitVec.ofInt 16 v).toNat : BitVec 16) = BitVec.ofInt 16 v := by
    apply BitVec.eq_of_toNat_eq
    exact two_bytes (by have := (BitVec.ofInt 16 v).isLt; omega)
  rw [h, BitVec.toInt_ofInt, Int.bmod_eq_of_le] <;> omega

/-- Two bytes are the bytes of the signed number they give. -/
theorem signed16_append (a b : Byte) : signed16 (a ++ b : BitVec 16).toInt = [a, b] := by
  have ha := a.isLt
  have hb := b.isLt
  have h : (a ++ b : BitVec 16).toNat = a.toNat * 256 + b.toNat := append_toNat a b
  unfold signed16 be16
  rw [BitVec.ofInt_toInt, h]
  congr 1
  · apply BitVec.eq_of_toNat_eq; rw [byte_toNat]; omega
  · congr 1; apply BitVec.eq_of_toNat_eq; rw [byte_toNat]; omega

theorem stored_iff (r : StoredRecord) (content : List Byte) : Stored r content ↔ r.agrees = true ∧ r.content = content := by
  unfold Stored StoredRecord.agrees
  rw [beq_iff_eq]
  exact ⟨fun ⟨h1, h2⟩ => ⟨h1 ▸ h2, h1⟩, fun ⟨h1, h2⟩ => ⟨h2, h2 ▸ h1⟩⟩

/-! ## The configuration -/

/-- The record CONF stores is in range (R198). -/
theorem configOf_inRange (r : ConfigRaw) : ConfigInRange (configOf r) := by
  have hl : ∀ n, clampLevel n ≤ 3 := fun n => by unfold clampLevel; split <;> omega
  have ll : ∀ x ∈ (levelsOf r.levels).toList, x ≤ 3 := by
    intro x hx
    change x ∈ [_, _, _, _, _, _, _, _, _] at hx
    simp only [List.mem_cons, List.not_mem_nil, or_false] at hx
    rcases hx with rfl | rfl | rfl | rfl | rfl | rfl | rfl | rfl | rfl <;> exact hl _
  refine ⟨?_, ?_, ?_, ?_, ?_, ?_, ?_, ?_, ?_, ll⟩ <;> simp only [configOf, clampNoShow, clampNat, clampPlan] <;>
    (repeat' split) <;> first | omega | simp

theorem configOf_bytes {c : ConfigRecord} (h : ConfigInRange c) : configOf (configRawOf c.bytes) = c := by
  obtain ⟨lead, bridge, unattended, noShow, grace, plan, ⟨⟨levels⟩, hl⟩⟩ := c
  match levels, hl with
  | [a, b, c, d, e, f, g, i, j], hl =>
    obtain ⟨h1, h2, h3, h4, h5, h6, h7, h8, h9, h10⟩ := h
    change ∀ x ∈ [a, b, c, d, e, f, g, i, j], x ≤ 3 at h10
    simp only [List.mem_cons, List.not_mem_nil, or_false, forall_eq_or_imp, forall_eq] at h1 h2 h3 h4 h5 h6 h7 h8 h9 h10
    obtain ⟨k1, k2, k3, k4, k5, k6, k7, k8, k9⟩ := h10
    have lev : ∀ n, n ≤ 3 → clampLevel (byte n).toNat = n := fun n hn => by
      rw [byte_toNat]; unfold clampLevel; split <;> omega
    have hb : ConfigRecord.bytes ⟨lead, bridge, unattended, noShow, grace, plan, ⟨⟨[a, b, c, d, e, f, g, i, j]⟩, hl⟩⟩ =
      [byte lead, byte bridge, byte unattended, byte noShow, byte grace, plan.byte, byte a, byte b, byte c, byte d, byte e,
        byte f, byte g, byte i, byte j] := rfl
    rw [hb]
    simp only [configRawOf, configOf, levelsOf, u8,
      List.getD_cons_zero, List.getD_cons_succ, lev _ k1, lev _ k2, lev _ k3, lev _ k4, lev _ k5,
      lev _ k6, lev _ k7, lev _ k8, lev _ k9, ConfigRecord.mk.injEq]
    simp only [byte_toNat]
    refine ⟨?_, ?_, ?_, ?_, ?_, ?_, True.intro⟩
    · unfold clampNat; (repeat' split) <;> omega
    · unfold clampNat; (repeat' split) <;> omega
    · unfold clampNat; (repeat' split) <;> omega
    · unfold clampNoShow clampNat; (repeat' split) <;> omega
    · unfold clampNat; (repeat' split) <;> omega
    · cases plan <;> first | exact absurd rfl h9 | decide

theorem loadConfig_iff (r : StoredRecord) (c : ConfigRecord) :
    loadConfig r = some c ↔ ConfigInRange c ∧ Stored r c.bytes := by
  unfold loadConfig
  dsimp only
  constructor
  · intro h
    split at h
    · rename_i hc
      rw [Bool.and_eq_true, beq_iff_eq] at hc
      cases h
      exact ⟨configOf_inRange _, (stored_iff _ _).mpr ⟨hc.1, hc.2⟩⟩
    · cases h
  · rintro ⟨hr, h⟩
    obtain ⟨ha, hs⟩ := (stored_iff _ _).mp h
    rw [hs, configOf_bytes hr, if_pos (by simp [ha])]

/-! ## Presets -/

theorem clampInt_eq (low high v : Int) (_ : low ≤ high) : clampInt low high v = v ↔ low ≤ v ∧ v ≤ high := by
  unfold clampInt; (repeat' split) <;> omega

theorem clamped_iff (p : Preset) : p.clamped = p ↔ PresetInRange p := by
  obtain ⟨a, b, c, d, e, f, g, h, i, j⟩ := p
  simp only [Preset.clamped, clampTrim, Preset.mk.injEq, PresetInRange, TrimInRange, clampInt_eq _ _ _ (show (-300 : Int) ≤ 300 by decide),
    clampInt_eq _ _ _ (show (-200 : Int) ≤ 200 by decide), clampInt_eq _ _ _ (show (-64 : Int) ≤ 63 by decide), and_assoc]

theorem presetValues_bytes {p : Preset} (h : PresetInRange p) : presetValues (presetRawOf p.bytes 0) = p := by
  obtain ⟨a, b, c, d, e, f, g, i, j, k⟩ := p
  obtain ⟨h1, h2, h3, h4, h5, h6, h7, h8, h9, h10, h11, h12⟩ := h
  simp only [TrimInRange] at *
  simp only [presetValues, presetRawOf, Preset.bytes, signed16, be16, u16, u8, List.cons_append, List.nil_append, Nat.zero_add,
    Nat.reduceAdd, List.getD_cons_zero, List.getD_cons_succ, Preset.mk.injEq]
  refine ⟨?_, ?_, ?_, ?_, ?_, ?_, ?_, ?_, ?_, ?_⟩ <;> exact signed_bytes (by omega) (by omega)

theorem presetBytes_of (bs : List Byte) (_ : bs.length = 20) : (presetValues (presetRawOf bs 0)).bytes = bs := by
  match bs with
  | [_, _, _, _, _, _, _, _, _, _, _, _, _, _, _, _, _, _, _, _] =>
    simp [Preset.bytes, presetValues, presetRawOf, u16, u8, signed16_append]

theorem presetBytes_length (p : Preset) : p.bytes.length = 20 := rfl

theorem loadPreset_iff (r : StoredRecord) (p : Preset) : loadPreset r = some p ↔ PresetInRange p ∧ Stored r p.bytes := by
  unfold loadPreset
  dsimp only
  constructor
  · intro h
    split at h
    · rename_i hc
      simp only [Bool.and_eq_true, beq_iff_eq] at hc
      cases h
      exact ⟨(clamped_iff _).mp hc.2, (stored_iff _ _).mpr ⟨hc.1.1, (presetBytes_of _ hc.1.2).symm⟩⟩
    · cases h
  · rintro ⟨hr, h⟩
    obtain ⟨ha, hs⟩ := (stored_iff _ _).mp h
    rw [hs, presetValues_bytes hr, if_pos (by simp [ha, presetBytes_length, (clamped_iff p).mpr hr])]

/-! ## Lamp records -/

theorem lampRecordRead_bytes {l : LampRecord} (h : LampRecordFits l) : lampRecordRead l.bytes = l := by
  obtain ⟨fitted, serial, rated, wear, strikes, estimated⟩ := l
  cases fitted with
  | true =>
    obtain ⟨_, h2, h3, h4, h5⟩ := h.1 rfl
    dsimp only at h2 h3 h4 h5
    simp only [lampRecordRead, LampRecord.bytes, be32, be16, u32, u16, u8, List.cons_append, List.nil_append, Nat.reduceAdd,
      List.getD_cons_zero, List.getD_cons_succ, four_bytes h3, four_bytes h4, two_bytes (show rated ≤ 65535 by omega),
      two_bytes h5]
    cases estimated <;> rfl
  | false => rw [h.2 rfl]; decide

theorem lampRecordRead_fits {bs : List Byte} (h : (lampRecordRead bs).valid = true) : LampRecordFits (lampRecordRead bs) := by
  unfold LampRecord.valid at h
  split at h
  · rename_i hf
    simp only [Bool.and_eq_true, decide_eq_true_iff] at h
    refine ⟨fun _ => ⟨h.1, h.2, ?_, ?_, ?_⟩, fun hn => by rw [hf] at hn; cases hn⟩
    · have := (u32 bs 1).isLt; show (u32 bs 1).toNat ≤ _; omega
    · have := (u32 bs 7).isLt; show (u32 bs 7).toNat ≤ _; omega
    · have := (u16 bs 11).isLt; show (u16 bs 11).toNat ≤ _; omega
  · rename_i hf
    exact ⟨fun hn => absurd hn hf, fun _ => beq_iff_eq.mp h⟩

theorem lampRecordFits_valid {l : LampRecord} (h : LampRecordFits l) : l.valid = true := by
  unfold LampRecord.valid
  split
  · rename_i hf
    have := h.1 hf
    simp [this.1, this.2.1]
  · rename_i hf
    exact beq_iff_eq.mpr (h.2 (by simpa using hf))

theorem loadLamp_iff (r : StoredRecord) (l : LampRecord) : loadLamp r = some l ↔ LampRecordFits l ∧ Stored r l.bytes := by
  unfold loadLamp
  dsimp only
  constructor
  · intro h
    split at h
    · rename_i hc
      simp only [Bool.and_eq_true, beq_iff_eq] at hc
      cases h
      exact ⟨lampRecordRead_fits hc.2, (stored_iff _ _).mpr hc.1⟩
    · cases h
  · rintro ⟨hr, h⟩
    obtain ⟨ha, hs⟩ := (stored_iff _ _).mp h
    rw [hs, lampRecordRead_bytes hr, if_pos (by simp [ha, lampRecordFits_valid hr])]

theorem estimatedRecord_spec (bs : List Byte) : EstimatedFrom bs (estimatedRecord bs) := by
  refine ⟨rfl, rfl, rfl, rfl, fun h1 h2 => if_pos ⟨h1, h2⟩, fun h => if_neg (fun hc => ?_), rfl⟩
  have : (lampRecordRead bs).rated = (u16 bs 5).toNat := rfl
  rw [this] at hc
  omega

/-! ## Profiles -/

theorem aspect_code (a : Aspect) : Aspect.ofByte a.byte = some a := by cases a <;> decide

theorem aspect_of {b : Byte} {a : Aspect} (h : Aspect.ofByte b = some a) : a.byte = b := by
  unfold Aspect.ofByte at h
  (repeat' split at h) <;> cases h <;> simp_all [Aspect.byte]

theorem bool_code (x : Bool) : boolOf (boolByte x) = some x := by cases x <;> decide

theorem bool_of {b : Byte} {x : Bool} (h : boolOf b = some x) : boolByte x = b := by
  unfold boolOf at h
  (repeat' split at h) <;> cases h <;> simp_all [boolByte]

theorem preset_code (n : PresetNo) : presetOf (byte n.val) = some n := by revert n; decide

theorem preset_of {b : Byte} {n : PresetNo} (h : presetOf b = some n) : byte n.val = b := by
  unfold presetOf at h
  split at h <;> cases h
  exact byte_toNat_self b

theorem optInput_code (i : Option Input) : optInputOf (optInputByte i) = some i := by
  cases i with
  | none => decide
  | some i => revert i; decide

theorem optInput_of {b : Byte} {i : Option Input} (h : optInputOf b = some i) : optInputByte i = b := by
  unfold optInputOf at h
  split at h
  · rename_i hb; cases h; exact hb.symm
  · obtain ⟨j, hj, rfl⟩ := Option.map_eq_some_iff.mp h
    unfold inputOf at hj
    split at hj
    · rename_i hc
      cases hj
      show byte (b.toNat - 1 + 1) = b
      rw [Nat.sub_add_cancel hc.1]; exact byte_toNat_self b
    · cases hj

theorem printable_iff (b : Byte) : printable b = true ↔ 32 ≤ b.toNat ∧ b.toNat ≤ 126 := by simp [printable]

theorem mem_takeWhile (f : Byte → Bool) (l : List Byte) {b : Byte} (h : b ∈ l.takeWhile f) : f b = true := by
  induction l with
  | nil => cases h
  | cons x rest ih =>
    rw [List.takeWhile_cons] at h
    split at h
    · rcases List.mem_cons.mp h with rfl | h
      · assumption
      · exact ih h
    · cases h

theorem dropWhile_zeros (l : List Byte) (k : Nat) (h1 : ∀ b ∈ l.take k, printable b = true) (h2 : ∀ b ∈ l.drop k, b = 0) :
    (l.dropWhile printable).all (· == 0) = true := by
  induction l generalizing k with
  | nil => rfl
  | cons b rest ih =>
    cases k with
    | zero =>
      have hb : b = 0 := h2 b (by simp)
      rw [List.dropWhile_cons_of_neg (by rw [hb]; decide), List.all_eq_true]
      intro x hx; exact beq_iff_eq.mpr (h2 x hx)
    | succ k =>
      rw [List.dropWhile_cons_of_pos (h1 b (by simp))]
      exact ih k (fun x hx => h1 x (by simp [hx])) h2

theorem labelValid_iff (l : List Byte) : labelValid l = true ↔ LabelFits l := by
  unfold labelValid LabelFits
  rw [Bool.and_eq_true, beq_iff_eq]
  constructor
  · rintro ⟨hl, hz⟩
    have h := List.takeWhile_append_dropWhile (p := printable) (l := l)
    have hp : ∀ b ∈ l.takeWhile printable, printable b = true := fun b hb => mem_takeWhile _ l hb
    generalize l.takeWhile printable = xs at h hp
    generalize l.dropWhile printable = ys at h hz
    subst h
    refine ⟨xs.length, hl, fun b hb => (printable_iff b).mp (hp b ?_), fun b hb => ?_⟩
    · rwa [List.take_left' rfl] at hb
    · rw [List.drop_left' rfl] at hb
      exact beq_iff_eq.mp (List.all_eq_true.mp hz b hb)
  · rintro ⟨k, hl, h1, h2⟩
    exact ⟨hl, dropWhile_zeros l k (fun b hb => (printable_iff b).mpr (h1 b hb)) h2⟩

/-- The fields of a PROF or of a stored profile give a profile exactly where each byte codes its field and the profile fits
(R119). -/
theorem profileOf_iff (i : Input) (r : ProfileRaw) (p : Profile) : profileOf i r = some p ↔
    ProfileFits i p ∧ r = ProfileRaw.mk p.label p.aspect.byte (byte p.preset.val) (optInputByte p.fallback)
      (boolByte p.takeOnArrival) (boolByte p.panelSelectable) := by
  constructor
  · intro h
    simp only [profileOf, bind, Option.bind_eq_some_iff] at h
    obtain ⟨a, ha, n, hn, f, hf, x, hx, y, hy, h⟩ := h
    split at h
    · rename_i hc
      rw [Bool.and_eq_true, labelValid_iff] at hc
      cases h
      obtain ⟨l, a', n', f', x', y'⟩ := r
      simp only at ha hn hf hx hy hc
      rw [← aspect_of ha, ← preset_of hn, ← optInput_of hf, ← bool_of hx, ← bool_of hy]
      exact ⟨⟨hc.1, by simpa using hc.2⟩, rfl⟩
    · cases h
  · rintro ⟨⟨h1, h2⟩, rfl⟩
    simp only [profileOf, aspect_code, preset_code, optInput_code, bool_code, bind, Option.bind_some]
    rw [if_pos (by rw [Bool.and_eq_true, labelValid_iff]; exact ⟨h1, by simpa using h2⟩)]

theorem profileRaw_bytes (p : Profile) (h : p.label.length = 8) : profileRawOf p.bytes 0 =
    { label := p.label, aspect := p.aspect.byte, preset := byte p.preset.val, fallback := optInputByte p.fallback,
      takeOnArrival := boolByte p.takeOnArrival, panelSelectable := boolByte p.panelSelectable } := by
  obtain ⟨label, a, n, f, x, y⟩ := p
  match label, h with
  | [_, _, _, _, _, _, _, _], _ => rfl

theorem loadProfile_iff (i : Input) (r : StoredRecord) (p : Profile) :
    loadProfile i r = some p ↔ ProfileFits i p ∧ Stored r p.bytes := by
  unfold loadProfile
  constructor
  · intro h
    split at h
    · rename_i hc
      rw [Bool.and_eq_true, beq_iff_eq] at hc
      obtain ⟨hp, hr⟩ := (profileOf_iff i _ p).mp h
      refine ⟨hp, (stored_iff _ _).mpr ⟨hc.1, ?_⟩⟩
      have hl := hc.2
      generalize r.content = bs at hl hr
      match bs, hl with
      | [_, _, _, _, _, _, _, _, _, _, _, _, _], _ =>
        simp only [profileRawOf, ProfileRaw.mk.injEq] at hr
        obtain ⟨h1, h2, h3, h4, h5, h6⟩ := hr
        unfold Profile.bytes
        rw [← h1, ← h2, ← h3, ← h4, ← h5, ← h6]
        rfl
    · cases h
  · rintro ⟨hp, h⟩
    obtain ⟨ha, hs⟩ := (stored_iff _ _).mp h
    have hl : p.label.length = 8 := by obtain ⟨_, h, _⟩ := hp.1; exact h
    rw [hs, if_pos (by simp [ha, Profile.bytes, hl]), profileOf_iff, profileRaw_bytes p hl]
    exact ⟨hp, rfl⟩

/-! ## Booking slots -/

theorem ofNat_two (n : Nat) : (byte (n / 256) ++ byte n : BitVec 16) = BitVec.ofNat 16 n := by
  apply BitVec.eq_of_toNat_eq
  rw [append_toNat, byte_toNat, byte_toNat, BitVec.toNat_ofNat]; omega

theorem ofNat_four (n : Nat) :
    ((byte (n / 16777216) ++ byte (n / 65536) : BitVec 16) ++ (byte (n / 256) ++ byte n : BitVec 16) : BitVec 32) =
      BitVec.ofNat 32 n := by
  apply BitVec.eq_of_toNat_eq
  rw [append_toNat, append_toNat, append_toNat, BitVec.toNat_ofNat]; simp only [byte_toNat]; omega

theorem be16_append (a b : Byte) : be16 (a ++ b : BitVec 16).toNat = [a, b] := by
  have ha := a.isLt
  have hb := b.isLt
  unfold be16
  rw [append_toNat]
  congr 1
  · apply BitVec.eq_of_toNat_eq; rw [byte_toNat]; omega
  · congr 1; apply BitVec.eq_of_toNat_eq; rw [byte_toNat]; omega

theorem be32_append (a b c d : Byte) :
    be32 ((a ++ b : BitVec 16) ++ (c ++ d : BitVec 16) : BitVec 32).toNat = [a, b, c, d] := by
  have ha := a.isLt
  have hb := b.isLt
  have hc := c.isLt
  have hd := d.isLt
  have h : ((a ++ b : BitVec 16) ++ (c ++ d : BitVec 16) : BitVec 32).toNat =
      a.toNat * 16777216 + b.toNat * 65536 + c.toNat * 256 + d.toNat := by
    rw [append_toNat, append_toNat, append_toNat]; omega
  unfold be32
  rw [h]
  congr 1
  · apply BitVec.eq_of_toNat_eq; rw [byte_toNat]; omega
  · congr 1
    · apply BitVec.eq_of_toNat_eq; rw [byte_toNat]; omega
    · congr 1
      · apply BitVec.eq_of_toNat_eq; rw [byte_toNat]; omega
      · congr 1; apply BitVec.eq_of_toNat_eq; rw [byte_toNat]; omega

theorem plan_code (p : Plan) : Plan.ofByte p.byte = some p := by cases p <;> decide

theorem plan_of {b : Byte} {p : Plan} (h : Plan.ofByte b = some p) : p.byte = b := by
  unfold Plan.ofByte at h
  (repeat' split at h) <;> cases h <;> simp_all [Plan.byte]

theorem optPreset_code (n : Option PresetNo) : optPresetOf (optPresetByte n) = some n := by
  cases n with
  | none => decide
  | some n => revert n; decide

theorem optPreset_of {b : Byte} {n : Option PresetNo} (h : optPresetOf b = some n) : optPresetByte n = b := by
  unfold optPresetOf at h
  split at h
  · rename_i hb; cases h; exact hb.symm
  · obtain ⟨j, hj, rfl⟩ := Option.map_eq_some_iff.mp h
    exact preset_of hj

theorem optSet_of (b : Byte) : optSetByte (optSetOf b) = b := by
  unfold optSetOf; split
  · rename_i h; exact h.symm
  · rfl

theorem class_code (c : Class) : classOf (classByte c) = some c := by cases c <;> decide

theorem class_of {b : Byte} {c : Class} (h : classOf b = some c) : classByte c = b := by
  unfold classOf at h
  (repeat' split at h) <;> cases h <;> simp_all [classByte]

theorem lampSet_code (l : LampSet) : LampSet.ofByte l.byte = some l := by
  obtain ⟨a, b⟩ := l; cases a <;> cases b <;> decide

theorem lampSet_of {b : Byte} {l : LampSet} (h : LampSet.ofByte b = some l) : l.byte = b := by
  unfold LampSet.ofByte at h
  (repeat' split at h) <;> cases h <;> simp_all [LampSet.byte]

/-- What a booking's given fields are when they are read from carried ones (R17, R192). -/
theorem givenOf_fields {r : GivenRaw} {g : Given} (h : givenOf r = some g) : g.inRange = true ∧ g.tag = r.tag.toNat
    ∧ g.start = r.start.toNat ∧ g.fin = r.fin.toNat ∧ g.plan.byte = r.plan ∧ optInputByte g.opening = r.opening
    ∧ optPresetByte g.preset = r.preset ∧ boolByte g.exam = r.exam ∧ optSetByte g.examInputs = r.examInputs := by
  simp only [givenOf, bind, Option.bind_eq_some_iff] at h
  obtain ⟨p, hp, o, ho, n, hn, e, he, h⟩ := h
  split at h
  · rename_i hr
    cases h
    exact ⟨hr, rfl, rfl, rfl, plan_of hp, optInput_of ho, optPreset_of hn, bool_of he, optSet_of _⟩
  · cases h

theorem inRange_iff (g : Given) : g.inRange = true ↔ 1 ≤ g.tag ∧ g.tag ≤ 65535 ∧ g.start + 10 ≤ g.fin ∧ g.fin ≤ g.start + 720
    ∧ g.fin ≤ 2147483647 ∧ examConsistent g.exam g.examInputs g.opening = true := by
  unfold Given.inRange
  simp only [Bool.and_eq_true, decide_eq_true_iff, and_assoc]
  exact Iff.rfl

/-- A booking in range is read back from its carried fields (R17, R192). -/
theorem givenOf_raw {g : Given} (h : g.inRange = true) : givenOf g.raw = some g := by
  obtain ⟨h1, h2, h3, h4, h5, h6⟩ := (inRange_iff g).mp h
  have hs : optSetOf (optSetByte g.examInputs) = g.examInputs := by
    cases hx : g.examInputs with
    | none => rfl
    | some set =>
      rw [hx] at h6
      simp only [examConsistent, Bool.and_eq_true, bne_iff_ne] at h6
      exact if_neg h6.1.2
  have ht : (BitVec.ofNat 16 g.tag).toNat = g.tag := by rw [BitVec.toNat_ofNat]; omega
  have hst : (BitVec.ofNat 32 g.start).toNat = g.start := by rw [BitVec.toNat_ofNat]; omega
  have hf : (BitVec.ofNat 32 g.fin).toNat = g.fin := by rw [BitVec.toNat_ofNat]; omega
  simp only [givenOf, Given.raw, plan_code, optInput_code, optPreset_code, bool_code, bind, Option.bind_some, ht, hst, hf, hs]
  exact if_pos h

theorem givenRaw_bytes (g : Given) (rest : List Byte) : givenRawOf (g.bytes ++ rest) = g.raw := by
  have h16 : ∀ bs k n, u8 bs k = byte (n / 256) → u8 bs (k + 1) = byte n → u16 bs k = BitVec.ofNat 16 n := fun bs k n h1 h2 => by
    unfold u16; rw [h1, h2]; exact ofNat_two n
  have h32 : ∀ bs k n, u8 bs k = byte (n / 16777216) → u8 bs (k + 1) = byte (n / 65536) → u8 bs (k + 2) = byte (n / 256) →
      u8 bs (k + 3) = byte n → u32 bs k = BitVec.ofNat 32 n := fun bs k n h1 h2 h3 h4 => by
    unfold u32 u16; rw [h1, h2, h3, show k + 2 + 1 = k + 3 from rfl, h4]; exact ofNat_four n
  have e0 : u16 (g.bytes ++ rest) 0 = _ := h16 _ 0 g.tag rfl rfl
  have e2 : u32 (g.bytes ++ rest) 2 = _ := h32 _ 2 g.start rfl rfl rfl rfl
  have e6 : u32 (g.bytes ++ rest) 6 = _ := h32 _ 6 g.fin rfl rfl rfl rfl
  unfold givenRawOf
  rw [e0, e2, e6]
  rfl

theorem suits_iff (p : Plan) (l : LampSet) : assignmentSuits p l = true ↔ (p = .noLight → l = ⟨false, false⟩)
    ∧ (p = .dual → l = ⟨true, true⟩) ∧ (p = .eco ∨ p = .full → ∃ x, l = .only x) := by
  have ho : (∃ x, l = .only x) ↔ l = ⟨true, false⟩ ∨ l = ⟨false, true⟩ :=
    ⟨fun ⟨x, hx⟩ => by cases x <;> simp [hx, LampSet.only], fun h => h.elim (fun h => ⟨.a, h⟩) (fun h => ⟨.b, h⟩)⟩
  rw [ho]
  obtain ⟨a, b⟩ := l
  cases p <;> cases a <;> cases b <;> simp [assignmentSuits]

theorem seventeen (bs : List Byte) (h : bs.length = 17) : bs = [u8 bs 0, u8 bs 1, u8 bs 2, u8 bs 3, u8 bs 4, u8 bs 5, u8 bs 6,
    u8 bs 7, u8 bs 8, u8 bs 9, u8 bs 10, u8 bs 11, u8 bs 12, u8 bs 13, u8 bs 14, u8 bs 15, u8 bs 16] := by
  match bs, h with
  | [_, _, _, _, _, _, _, _, _, _, _, _, _, _, _, _, _], _ => rfl

/-- The 17 bytes of a slot are its fields, one after another. -/
theorem slot_split (bs : List Byte) (h : bs.length = 17) : bs = be16 (u16 bs 0).toNat ++ be32 (u32 bs 2).toNat
    ++ be32 (u32 bs 6).toNat ++ [u8 bs 10, u8 bs 11, u8 bs 12, u8 bs 13, u8 bs 14] ++ [u8 bs 15, u8 bs 16] := by
  have e0 : be16 (u16 bs 0).toNat = [u8 bs 0, u8 bs 1] := be16_append _ _
  have e2 : be32 (u32 bs 2).toNat = [u8 bs 2, u8 bs 3, u8 bs 4, u8 bs 5] := be32_append _ _ _ _
  have e6 : be32 (u32 bs 6).toNat = [u8 bs 6, u8 bs 7, u8 bs 8, u8 bs 9] := be32_append _ _ _ _
  rw [e0, e2, e6]
  exact seventeen bs h

theorem slotContent_of {bs : List Byte} {g : Given} {o : Class} {l : LampSet} (hl : bs.length = 17)
    (hg : givenOf (givenRawOf bs) = some g) (ho : classOf (u8 bs 15) = some o) (ha : LampSet.ofByte (u8 bs 16) = some l) :
    bs = g.bytes ++ [classByte o, l.byte] := by
  obtain ⟨_, h1, h2, h3, h4, h5, h6, h7, h8⟩ := givenOf_fields hg
  rw [class_of ho, lampSet_of ha]
  unfold Given.bytes
  rw [h1, h2, h3, h4, h5, h6, h7, h8]
  exact slot_split bs hl

theorem slotBytes_ne {g : Given} (h : g.inRange = true) (rest : List Byte) : g.bytes ++ rest ≠ List.replicate 17 0 := by
  intro hc
  have h1 := givenOf_raw h
  rw [← givenRaw_bytes g rest, hc] at h1
  have h2 : givenOf (givenRawOf (List.replicate 17 0)) = none := by decide
  rw [h2] at h1
  cases h1

theorem loadSlot_taken (r : StoredRecord) (g : Given) (o : Class) (l : LampSet) :
    loadSlot r = some (.taken g o l) ↔ SlotHolds r g o l := by
  have hp : (o != .panel) = true ↔ o = .control ∨ o = .service := by cases o <;> decide
  unfold loadSlot SlotHolds
  rw [stored_iff]
  constructor
  · intro h
    split at h
    · cases h
    · rename_i hc
      rw [Bool.not_eq_true, Bool.not_eq_false', Bool.and_eq_true, beq_iff_eq] at hc
      split at h
      · cases h
      · simp only [bind, Option.bind_eq_some_iff] at h
        obtain ⟨g', hg, o', ho, l', hl, h⟩ := h
        split at h
        · rename_i hs
          cases h
          rw [Bool.and_eq_true, hp, suits_iff] at hs
          exact ⟨⟨hc.1, slotContent_of hc.2 hg ho hl⟩, (givenOf_fields hg).1, hs.1, hs.2⟩
        · cases h
  · rintro ⟨⟨ha, hs⟩, hr, ho, hl⟩
    have h15 : u8 (g.bytes ++ [classByte o, l.byte]) 15 = classByte o := rfl
    have h16 : u8 (g.bytes ++ [classByte o, l.byte]) 16 = l.byte := rfl
    have hlen : (g.bytes ++ [classByte o, l.byte]).length = 17 := rfl
    rw [hs, if_neg (by simp [ha, hlen]), if_neg (by rw [beq_iff_eq]; exact slotBytes_ne hr _), givenRaw_bytes, h15, h16]
    simp only [bind, givenOf_raw hr, class_code, lampSet_code, Option.bind_some]
    rw [if_pos (by rw [Bool.and_eq_true, hp, suits_iff]; exact ⟨ho, hl⟩)]

theorem loadSlot_free (r : StoredRecord) : loadSlot r = some .free ↔ Stored r (List.replicate 17 0) := by
  unfold loadSlot
  rw [stored_iff]
  constructor
  · intro h
    split at h
    · cases h
    · rename_i hc
      rw [Bool.not_eq_true, Bool.not_eq_false', Bool.and_eq_true, beq_iff_eq] at hc
      split at h
      · rename_i he; exact ⟨hc.1, beq_iff_eq.mp he⟩
      · simp only [bind, Option.bind_eq_some_iff] at h
        obtain ⟨g', hg, o', ho, l', hl, h⟩ := h
        split at h <;> cases h
  · rintro ⟨ha, hs⟩
    rw [hs, if_neg (by simp [ha]), if_pos (by decide)]

end Sys2Proof.Machine
end

