-- ==== Sys2Proof/Laws/Effect.lean ====
section
/-! SUPPORT. Everything a command can do to the state, said once: `Effect s t` lists the whole events, each with what is known
when it happens, and `exec_effect` says that every command is a chain of them. A property that every listed effect keeps is kept
by every step (`kept_of_effects`). -/

namespace Sys2Proof.Machine

/-- One effect of a command, or a chain of effects. -/
inductive Effect : State → State → Prop
  | refl (s : State) : Effect s s
  | trans {s t u : State} : Effect s t → Effect t u → Effect s u
  | link (s : State) (l : Link) : Effect s (s.setLink l)
  | panel (s : State) (k : Option Byte) : Effect s (s.setPanel k)
  | notice (s : State) (c : NoticeClass) (k : Nat) (a : BitVec 32) : Effect s (raiseNotice c k a s)
  | noticesRead (s : State) (c : NoticeClass) : Effect s (clearPending s c)
  | freeValue (s : State) : Effect s { s with freeCount := s.freeCount + 1 }
  | clock (s : State) : Effect s (stepClock s)
  | book (s : State) (c : Class) (g : Given) (a : Admission) (hg : g.inRange = true)
      (hh : inHorizon s.clock.minute g = true) (ht : bookingAt g.tag s.bookings = none) (hf : fitsTable g s.bookings = true)
      (hl : s.bookings.length < 48)
      (ha : lifeCheck s s.bookings s.lampA.committed s.lampB.committed g = some a) : Effect s (admitBooking c g a s)
  | amend (s : State) (b : Booking) (g : Given) (a : Admission) (hb : bookingAt g.tag s.bookings = some b)
      (hp : b.state = .pending) (hg : g.inRange = true) (hf : fitsTable g (removeTag g.tag s.bookings) = true) :
      Effect s (amendPendingTable b g a s)
  | extend (s : State) (b : Booking) (fin : Nat) (hb : bookingAt b.given.tag s.bookings = some b) (hp : b.state ≠ .pending)
      (hr : newEndInRange s.clock.minute b fin = true)
      (hs : (successorAt b.given.start s.bookings).any (fun n => n.given.start < fin) = false) :
      Effect s (amendActiveTable b fin s)
  | remove (s : State) (b : Booking) (hb : bookingAt b.given.tag s.bookings = some b) (hp : b.state = .pending) :
      Effect s (removeBooking b s)
  | endNow (s : State) (b : Booking) (hb : b ∈ s.bookings) (hp : b.state ≠ .pending) : Effect s (finish (endByRequest b s))
  | time (s : State) (m sec : Nat) (hm : m ≤ Config.topMinute) (hs : sec ≤ 59) : Effect s (setTime m sec s)
  | sessionOn (s : State) : Effect s (startSession s)
  | sessionOff (s : State) : Effect s (finish (endSession s))
  | fit (s : State) (p : Pos) (serial rated : Nat) (hr : 100 ≤ rated ∧ rated ≤ 20000)
      (hp : (s.lamp p).state.mayFit = true) : Effect s (fitLamp p serial rated s)
  | unfit (s : State) (p : Pos) (hp : (s.lamp p).state.mayRemove = true) : Effect s (removeLamp p s)
  | clear (s : State) (p : Pos) (hp : (s.lamp p).state = .failed) : Effect s (clearFailure p s)
  | hold (s : State) (slot : Fin 16) (c : Class) (r : HoldRaw) (h : Hold) (hc : atLeast c .control = true)
      (hh : requestedHoldOf c r = some h) (hs : freeRequestedSlot s = some slot)
      (ht : requestedHoldAt r.tag.toNat s = none) : Effect s (finish (arrivalLifts h (placeHold slot h s)))
  | lift (s : State) (slot : Fin 16) (h : Hold) (hs : s.holds[slot] = some h) : Effect s (finish (liftHold slot h s))
  | select (s : State) (sel : Selection) : Effect s (makeSelection sel s)
  | profile (s : State) (i : Input) (p : Profile) : Effect s (writeProfile i p s)
  | preset (s : State) (n : PresetNo) (p : Preset) : Effect s (writePreset n p.clamped s)
  | override (s : State) (p : Option PresetNo) : Effect s (applyOverride p s)
  | mute (s : State) (on : Bool) : Effect s (setMute on s)
  | config (s : State) (cfg : ConfigRecord) (h : ConfigInRange s.config → ConfigInRange cfg) : Effect s (writeConfig cfg s)
  | flush (s : State) : Effect s (beginFlush s)
  | second (s : State) : Effect s (secondHanded s)
  | minute (s : State) : Effect s (minuteHanded s)
  | unstored (s : State) (p : Pos) (h : unstoredDue p s = true) : Effect s (finish (unstoredWraps p s))
  | continuous (s : State) (p : Pos) (h : continuousDue p s = true) : Effect s (finish (continuousReaches600 p s))
  | window (s : State) (p : Pos) (h : windowDue p s = true) : Effect s (finish (windowRunsOut p s))
  | cooldown (s : State) (p : Pos) (h : cooldownDue p s = true) : Effect s (finish (cooldownEnds p s))
  | unattended (s : State) (h : unattendedDue s = true) : Effect s (finish (unattendedEnds s))
  | grace (s : State) (h : graceDue s = true) : Effect s (finish (graceRanOut s))
  | takeTimeout (s : State) (h : takeTimerDue s = true) : Effect s (finish (takeTimesOut s))
  | settleTimeout (s : State) (h : settleTimerDue s = true) : Effect s (finish (settleTimesOut s))
  | loss (s : State) (h : lossTimerDue s = true) : Effect s (finish (lossTimesOut s))
  | frameEdge (s : State) (time : Nat) : Effect s (finish (frameEdgeTaken time s))
  | lineEdge (s : State) : Effect s (lineEdgeTaken s)
  | delivered (s : State) (h : s.engine.state = .sending) : Effect s (finish (messageDelivered s))
  | faulted (s : State) (h : s.engine.state = .sending) : Effect s (finish (channelFaults s))
  | engineLatch (s : State) (m : Option EngineMsg) : Effect s (s.setEngine { s.engine with latch := m })
  | lampSense (s : State) (p : Pos) (lit : Bool) : Effect s (finish (lampReport p lit s))
  | thermal (s : State) (t : Thermal) : Effect s (finish (thermalReport t s))
  | door (s : State) (o : Bool) : Effect s (finish (doorReport o s))
  | status (s : State) (a b : Bool) (t : Thermal) (o : Bool) (h : s.engine.state ≠ .fault) :
      Effect s (finish (statusTaken a b t o s))
  | recovery (s : State) (a b : Bool) (t : Thermal) (o : Bool) (h : s.engine.state = .fault) :
      Effect s (finish (recover a b t o s))
  | matrixLatch (s : State) (m : Option MatrixMsg) : Effect s (s.setSwitch { s.switch with latch := m })
  | takeAck (s : State) (i : Input) : Effect s (finish (takeAckTaken i s))
  | presence (s : State) (set : InputSet) : Effect s (finish (presenceTaken set s))
  | fireLevel (s : State) (active : Bool) : Effect s (s.setFire { s.fire with level := active })
  | fire (s : State) (active : Bool) : Effect s (finish (fireReport active s))
  | writeEnd (s : State) (r : ReadBack) (w : Writing) (h : s.store.writing = some w) : Effect s (writeEnds r w s)
  | flushWriteEnd (s : State) (r : ReadBack) (w : Writing) (h : s.store.writing = some w) : Effect s (flushWriteEnds r w s)
  | retry (s : State) (n : Nat) : Effect s (startWrite (s.setStore { s.store with waiting := s.store.waiting.erase n }))
  | powerReset (s : State) (d : Damage) : Effect s (powerResetState d s)
  | restart (s : State) (failed : List (Nat × ReadBack)) : Effect s (restartState failed s)
  | startUpEnd (s : State) (h : s.phase = .startUp) : Effect s (endStartUp s)

/-! ## Requests -/

/-- An answer's state is reached by effects. -/
def Answers (s : State) (a : Answer) : Prop := Effect s a.state

theorem answers_refuse (o : ReqOutcome) (s : State) : Answers s (refuse o s) := .refl s

theorem answers_doneWith {params : List Byte} {s t : State} (h : Effect s t) : Answers s (doneWith params t) := h

theorem answers_done {s t : State} (h : Effect s t) : Answers s (done t) := h

theorem answers_needClass {c need : Class} {act : State → Answer} {s : State}
    (h : atLeast c need = true → Answers s (act s)) : Answers s (needClass c need act s) := by
  unfold needClass; split
  · exact h ‹_›
  · exact .refl s

theorem answers_needScope {c : Class} {sc : Scope} {target : Option Input} {act : State → Answer} {s : State}
    (h : Answers s (act s)) : Answers s (needScope c sc target act s) := by
  unfold needScope; apply answers_needClass; intro _; split
  · exact .refl s
  · exact h

theorem answers_withOwnBooking {c : Class} {tag : BitVec 16} {act : Booking → State → Answer} {s : State}
    (h : ∀ b, bookingAt tag.toNat s.bookings = some b → Answers s (act b s)) : Answers s (withOwnBooking c tag act s) := by
  unfold withOwnBooking; split
  · exact .refl s
  · split
    · exact .refl s
    · split
      · exact h _ ‹_›
      · exact .refl s

/-- A request row is a chain of effects if its answer is. -/
theorem effect_takeRequest {n : ReqName} {request : State → Answer} {s : State} (h : Answers s (request s)) :
    Effect s (takeRequest n request s) := by
  unfold takeRequest whenRunning; split
  · exact .trans h (.link _ _)
  · exact .refl s

theorem effect_whenRunning {f : State → State} {s : State} (h : Effect s (f s)) : Effect s (whenRunning f s) := by
  unfold whenRunning; split
  · exact h
  · exact .refl s

/-- The booking that a tag finds has that tag. -/
theorem bookingAt_tag {tag : Nat} {bs : List Booking} {b : Booking} (h : bookingAt tag bs = some b) : b.given.tag = tag := by
  simpa using List.find?_some h

/-- The booking that a tag finds is in the table. -/
theorem bookingAt_mem {tag : Nat} {bs : List Booking} {b : Booking} (h : bookingAt tag bs = some b) : b ∈ bs :=
  List.mem_of_find?_eq_some h

/-- The given fields that a request carries are in range (R17). -/
theorem givenOf_inRange {r : GivenRaw} {g : Given} (h : givenOf r = some g) : g.inRange = true := by
  simp only [givenOf, bind, Option.bind_eq_some_iff] at h
  obtain ⟨_, _, _, _, _, _, _, _, h⟩ := h
  split at h
  · next hg => simp only [Option.some.injEq] at h; subst h; exact hg
  · simp at h

/-- The given fields that a request carries keep its tag. -/
theorem givenOf_tag {r : GivenRaw} {g : Given} (h : givenOf r = some g) : g.tag = r.tag.toNat := by
  simp only [givenOf, bind, Option.bind_eq_some_iff] at h
  obtain ⟨_, _, _, _, _, _, _, _, h⟩ := h
  split at h
  · simp only [Option.some.injEq] at h; subst h; rfl
  · simp at h

/-- What check 4 of BOOK lets through (R17). -/
theorem check4_some {now : Nat} {r : GivenRaw} {g : Given} (h : check4 now r = some g) :
    givenOf r = some g ∧ inHorizon now g = true := by
  simpa [check4, Option.filter_eq_some_iff] using h

theorem answers_book (c : Class) (r : GivenRaw) (s : State) : Answers s (bookRequest c r s) := by
  unfold bookRequest; apply answers_needScope
  split; · exact answers_refuse _ _
  split; · exact answers_refuse _ _
  next g hg =>
    split; · exact answers_refuse _ _
    next ht =>
      split; · exact answers_refuse _ _
      next hf =>
        split; · exact answers_refuse _ _
        next hl =>
          split; · exact answers_refuse _ _
          next a ha =>
            apply answers_doneWith
            exact .book s c g a (givenOf_inRange (check4_some hg).1) (check4_some hg).2 (by simpa using ht) (by simpa using hf)
              (by simpa [Config.tableCapacity] using hl) ha

theorem answers_rebk (c : Class) (r : GivenRaw) (s : State) : Answers s (rebkRequest c r s) := by
  unfold rebkRequest; apply answers_needScope
  split; · exact answers_refuse _ _
  apply answers_withOwnBooking; intro b hb
  split
  · next hp =>
    unfold amendPending
    split; · exact answers_refuse _ _
    next g hg =>
      have ht := givenOf_tag (check4_some hg).1
      dsimp only
      split; · exact answers_refuse _ _
      next hf =>
        split; · exact answers_refuse _ _
        next a ha =>
          apply answers_doneWith
          exact .amend s b g a (ht ▸ hb) hp (givenOf_inRange (check4_some hg).1) (by simpa using hf)
  · next hp =>
    unfold amendActive
    split; · exact answers_refuse _ _
    split; · exact answers_refuse _ _
    next hr =>
      split; · exact answers_refuse _ _
      next hs => apply answers_doneWith; exact .extend s b _ ((bookingAt_tag hb).symm ▸ hb) hp (by simpa using hr) (by simpa using hs)

theorem answers_unbk (c : Class) (tag : BitVec 16) (s : State) : Answers s (unbkRequest c tag s) := by
  unfold unbkRequest; apply answers_needScope; apply answers_withOwnBooking; intro b hb
  split
  · next hp => apply answers_done; exact .remove s b ((bookingAt_tag hb).symm ▸ hb) hp
  · exact answers_refuse _ _

theorem answers_find (c : Class) (tag : BitVec 16) (s : State) : Answers s (findRequest c tag s) := by
  unfold findRequest; apply answers_needClass; intro _; (repeat' split) <;> exact .refl s

theorem answers_next (c : Class) (m : BitVec 32) (s : State) : Answers s (nextRequest c m s) := by
  unfold nextRequest; apply answers_needClass; intro _; (repeat' split) <;> exact .refl s

theorem answers_endn (c : Class) (tag : BitVec 16) (s : State) : Answers s (endnRequest c tag s) := by
  unfold endnRequest; apply answers_needScope; apply answers_withOwnBooking; intro b hb
  split
  · exact answers_refuse _ _
  · next hp => apply answers_done; exact .endNow s b (bookingAt_mem hb) hp

theorem answers_time (c : Class) (m : BitVec 32) (sec : Byte) (s : State) : Answers s (timeRequest c m sec s) := by
  unfold timeRequest; apply answers_needClass; intro _; split
  · exact answers_refuse _ _
  · next h => apply answers_done; exact .time s _ _ (by omega) (by omega)

theorem answers_clck (c : Class) (s : State) : Answers s (clckRequest c s) := by
  unfold clckRequest; apply answers_needClass; intro _; exact .refl s

theorem answers_sesn (c : Class) (s : State) : Answers s (sesnRequest c s) := by
  unfold sesnRequest; apply answers_needClass; intro _; split
  · exact answers_refuse _ _
  · exact .sessionOn s

theorem answers_sesf (c : Class) (s : State) : Answers s (sesfRequest c s) := by
  unfold sesfRequest; apply answers_needScope
  show Effect s (stopSession s)
  unfold stopSession; split
  · exact .sessionOff s
  · exact .refl s

theorem answers_lamp (c : Class) (s : State) : Answers s (lampRequest c s) := by
  unfold lampRequest; apply answers_needClass; intro _; exact .refl s

theorem answers_fitl (c : Class) (b : Byte) (ser : BitVec 32) (rated : BitVec 16) (s : State) :
    Answers s (fitlRequest c b ser rated s) := by
  unfold fitlRequest; apply answers_needClass; intro _
  split; · exact answers_refuse _ _
  split; · exact answers_refuse _ _
  next hr =>
    split; · exact answers_refuse _ _
    split; · exact answers_refuse _ _
    next hp => apply answers_done; exact .fit s _ _ _ (by omega) (by simpa using hp)

theorem answers_reml (c : Class) (b : Byte) (s : State) : Answers s (remlRequest c b s) := by
  unfold remlRequest; apply answers_needClass; intro _
  split; · exact answers_refuse _ _
  split; · exact answers_refuse _ _
  split; · exact answers_refuse _ _
  next hp => apply answers_done; exact .unfit s _ (by simpa using hp)

theorem answers_clrf (c : Class) (b : Byte) (s : State) : Answers s (clrfRequest c b s) := by
  unfold clrfRequest; apply answers_needClass; intro _
  split; · exact answers_refuse _ _
  split
  · apply answers_done; exact .clear s _ ‹_›
  · exact answers_refuse _ _

theorem answers_hold (c : Class) (r : HoldRaw) (m : Meeting) (s : State) : Answers s (holdRequest c r m s) := by
  unfold holdRequest; apply answers_needClass; intro hc
  split; · exact answers_refuse _ _
  split; · exact answers_refuse _ _
  next h hh =>
    unfold placeRequested
    split; · exact answers_refuse _ _
    split; · exact answers_refuse _ _
    split; · exact answers_refuse _ _
    next ht =>
      split; · exact answers_refuse _ _
      next slot hs => apply answers_doneWith; exact .hold s slot c r h hc hh hs (by simpa using ht)

theorem answers_lift (c : Class) (tag : BitVec 16) (s : State) : Answers s (liftRequest c tag s) := by
  unfold liftRequest; apply answers_needClass; intro _
  split; · exact answers_refuse _ _
  unfold liftRequested
  split; · exact answers_refuse _ _
  split; · exact answers_refuse _ _
  next h hh =>
    split
    · apply answers_done; exact .lift s _ h hh
    · exact answers_refuse _ _

theorem answers_hlds (c : Class) (s : State) : Answers s (hldsRequest c s) := by
  unfold hldsRequest; apply answers_needClass; intro _; exact .refl s

theorem answers_srce (c : Class) (b : Byte) (s : State) : Answers s (srceRequest c b s) := by
  unfold srceRequest; apply answers_needScope
  split; · exact answers_refuse _ _
  exact .select s _

theorem answers_prof (c : Class) (b : Byte) (r : ProfileRaw) (s : State) : Answers s (profRequest c b r s) := by
  unfold profRequest; apply answers_needScope
  split; · exact answers_refuse _ _
  split; · exact answers_refuse _ _
  exact .profile s _ _

theorem answers_prfr (c : Class) (b : Byte) (s : State) : Answers s (prfrRequest c b s) := by
  unfold prfrRequest; apply answers_needClass; intro _; (repeat' split) <;> exact .refl s

theorem answers_sigs (c : Class) (s : State) : Answers s (sigsRequest c s) := by
  unfold sigsRequest; apply answers_needClass; intro _; exact .freeValue s

theorem answers_prst (c : Class) (b : Byte) (r : PresetRaw) (s : State) : Answers s (prstRequest c b r s) := by
  unfold prstRequest; apply answers_needScope
  split; · exact answers_refuse _ _
  exact .preset s _ _

theorem answers_prsr (c : Class) (b : Byte) (s : State) : Answers s (prsrRequest c b s) := by
  unfold prsrRequest; apply answers_needClass; intro _; (repeat' split) <;> exact .refl s

theorem answers_appl (c : Class) (b : Byte) (s : State) : Answers s (applRequest c b s) := by
  unfold applRequest; apply answers_needScope
  split; · exact answers_refuse _ _
  split
  · exact .override s _
  · exact answers_refuse _ _

theorem answers_crnr (c : Class) (s : State) : Answers s (crnrRequest c s) := by
  unfold crnrRequest; apply answers_needClass; intro _; exact .freeValue s

theorem answers_mute (c : Class) (s : State) : Answers s (muteRequest c s) := by
  unfold muteRequest; apply answers_needClass; intro _; exact .mute s true

theorem answers_unmt (c : Class) (s : State) : Answers s (unmtRequest c s) := by
  unfold unmtRequest; apply answers_needClass; intro _; exact .mute s false

/-- Reading a list of notice classes. -/
theorem effect_clearAll (l : List NoticeClass) (s : State) : Effect s (l.foldl clearPending s) := by
  induction l generalizing s with
  | nil => exact .refl s
  | cons c l ih => exact .trans (.noticesRead s c) (ih _)

theorem answers_summ (c : Class) (s : State) : Answers s (summRequest c s) := by
  unfold summRequest; apply answers_needClass; intro _; exact effect_clearAll _ s

theorem clampLevel_le (n : Nat) : clampLevel n ≤ 3 := by unfold clampLevel; split <;> omega

/-- A record whose level takes a value 0 to 3 stays in range. -/
theorem inRange_setLevel {c : ConfigRecord} (h : ConfigInRange c) (i : Fin 9) (x : Nat) (hx : x ≤ 3) :
    ConfigInRange { c with levels := c.levels.set i x } := by
  obtain ⟨h1, h2, h3, h4, h5, h6, h7, h8, h9, h10⟩ := h
  refine ⟨h1, h2, h3, h4, h5, h6, h7, h8, h9, ?_⟩
  intro y hy
  rw [Vector.toList_set] at hy
  rcases List.mem_or_eq_of_mem_set hy with hy | rfl
  · exact h10 y hy
  · exact hx

theorem answers_nlvl (c : Class) (p l : Byte) (s : State) : Answers s (nlvlRequest c p l s) := by
  unfold nlvlRequest; apply answers_needClass; intro _
  split; · exact answers_refuse _ _
  exact .config s _ (fun h => inRange_setLevel h _ _ (clampLevel_le _))

theorem answers_conf (c : Class) (r : ConfigRaw) (s : State) : Answers s (confRequest c r s) := by
  unfold confRequest; apply answers_needClass; intro _; exact .config s _ (fun _ => configOf_inRange r)

theorem answers_cnfr (c : Class) (s : State) : Answers s (cnfrRequest c s) := by
  unfold cnfrRequest; apply answers_needClass; intro _; exact .refl s

theorem answers_rstr (c : Class) (s : State) : Answers s (rstrRequest c s) := by
  unfold rstrRequest; apply answers_needClass; intro _; exact .flush s

/-- Whatever request a frame hands over, its answer is reached by effects. -/
theorem answers_handRequest (n : ReqName) (c : Class) (m : Meeting) (ps : List Byte) (s : State) :
    Answers s (handRequest n c m ps s) := by
  cases n with
  | book => exact answers_book ..
  | rebk => exact answers_rebk ..
  | unbk => exact answers_unbk ..
  | find => exact answers_find ..
  | next => exact answers_next ..
  | endn => exact answers_endn ..
  | time => exact answers_time ..
  | clck => exact answers_clck ..
  | sesn => exact answers_sesn ..
  | sesf => exact answers_sesf ..
  | lamp => exact answers_lamp ..
  | fitl => exact answers_fitl ..
  | reml => exact answers_reml ..
  | clrf => exact answers_clrf ..
  | hold => exact answers_hold ..
  | lift => exact answers_lift ..
  | hlds => exact answers_hlds ..
  | srce => exact answers_srce ..
  | prof => exact answers_prof ..
  | prfr => exact answers_prfr ..
  | sigs => exact answers_sigs ..
  | prst => exact answers_prst ..
  | prsr => exact answers_prsr ..
  | appl => exact answers_appl ..
  | crnr => exact answers_crnr ..
  | mute => exact answers_mute ..
  | unmt => exact answers_unmt ..
  | summ => exact answers_summ ..
  | nlvl => exact answers_nlvl ..
  | conf => exact answers_conf ..
  | cnfr => exact answers_cnfr ..
  | rstr => exact answers_rstr ..

/-! ## Keys, arrivals and timers -/

theorem effect_keyStrobed (code : Byte) (s : State) : Effect s (keyStrobed code s) := by
  unfold keyStrobed; split
  · exact .panel s _
  · exact .notice s _ _ _

theorem effect_takeKey {takes : Byte → Bool} {act : Byte → State → State} (h : ∀ code s, Effect s (act code s)) (s : State) :
    Effect s (takeKey takes act s) := by
  unfold takeKey; split
  · exact .trans (h _ s) (.panel _ _)
  · exact .refl s

theorem effect_keyChecks (code : Byte) (own : Option (Scope × Option Input)) (test : Bool) {act : State → State} {s : State}
    (h : Effect s (act s)) : Effect s (keyChecks code own test act s) := by
  unfold keyChecks refuseKey; (repeat' split) <;> first | exact h | exact .notice s _ _ _

theorem effect_muteToggle (code : Byte) (s : State) : Effect s (muteToggle code s) := by
  unfold muteToggle
  exact effect_keyChecks code none true (act := fun s => setMute (!s.gate.mute) s) (Effect.mute s (!s.gate.mute))

theorem effect_powerOffAct (s : State) : Effect s (powerOffAct s) := by
  unfold powerOffAct; split
  · exact .sessionOff s
  · split
    · next b hb =>
      exact .endNow s b (List.mem_of_find?_eq_some hb) (by simpa using List.find?_some hb)
    · exact .refl s

theorem effect_dueEvent {due : State → Bool} {act : State → State} {s : State}
    (h : due s = true → Effect s (finish (act s))) : Effect s (dueEvent due act s) := by
  unfold dueEvent; apply effect_whenRunning; split
  · exact h ‹_›
  · exact .refl s

theorem effect_secondArrival (s : State) : Effect s (secondArrival s) := by
  have h : Effect s (whenRunning secondHanded (stepClock s)) := .trans (.clock s) (effect_whenRunning (.second _))
  unfold secondArrival; dsimp only; split
  · exact .trans h (effect_whenRunning (.minute _))
  · exact h

theorem effect_minuteArrival (s : State) : Effect s (minuteArrival s) := by
  unfold minuteArrival; split
  · exact .trans (.clock s) (effect_whenRunning (.minute _))
  · exact .refl s

/-! ## Channels, link and store -/

theorem effect_acknowledged (s : State) : Effect s (acknowledged s) := by
  unfold acknowledged; split
  · exact .delivered s ‹_›
  · exact .notice s _ _ _

theorem effect_engineStrobed (m : EngineMsg) (s : State) : Effect s (engineStrobed m s) := by
  unfold engineStrobed; split
  · exact .engineLatch s _
  · exact .notice s _ _ _

theorem effect_matrixStrobed (m : MatrixMsg) (s : State) : Effect s (matrixStrobed m s) := by
  unfold matrixStrobed; split
  · exact .matrixLatch s _
  · exact .notice s _ _ _

theorem effect_statusReportTaken (s : State) : Effect s (statusReportTaken s) := by
  unfold statusReportTaken; split
  · split
    · next h => exact .trans (.engineLatch s none) (.recovery _ _ _ _ _ (by simpa [emptyEngineLatch, State.setEngine] using h))
    · next h => exact .trans (.engineLatch s none) (.status _ _ _ _ _ (by simpa [emptyEngineLatch, State.setEngine] using h))
  · exact .refl s

theorem effect_fireLineSeen (active : Bool) (s : State) : Effect s (fireLineSeen active s) := by
  unfold fireLineSeen; split
  · exact .refl s
  · exact .fire s active

theorem effect_frameEnds {takes : FrameSort → Bool} {act : FrameSort → State → State} (h : ∀ f s, Effect s (act f s))
    (s : State) : Effect s (frameEnds takes act s) := by
  unfold frameEnds; split; · exact .link s _
  split; · exact .link s _
  dsimp only
  split; · exact .link s _
  split
  · exact .trans (.link s _) (h _ _)
  · exact .refl s

theorem effect_requestTaken (k : Bool) (m : Meeting) (f : FrameSort) (s : State) : Effect s (requestTaken k m f s) := by
  unfold requestTaken; split
  · exact .trans (answers_handRequest ..) (.link _ _)
  all_goals exact .refl s

theorem effect_malformedTaken (f : FrameSort) (s : State) : Effect s (malformedTaken f s) := by
  unfold malformedTaken; split
  · exact .trans (.link s _) (.notice _ _ _ _)
  all_goals exact .refl s

theorem effect_writeEndTaken (r : ReadBack) (s : State) : Effect s (writeEndTaken r s) := by
  unfold writeEndTaken; split
  · exact .refl s
  · split
    · exact .flushWriteEnd s r _ ‹_›
    · exact .writeEnd s r _ ‹_›

/-! ## The command -/

/-- Every command is a chain of effects. -/
theorem exec_effect {c : Instr} {s t : State} (h : exec c s = .next t) : Effect s t := by
  cases c <;> simp only [exec] at h
  case book => cases h; exact effect_takeRequest (answers_book ..)
  case rebk => cases h; exact effect_takeRequest (answers_rebk ..)
  case unbk => cases h; exact effect_takeRequest (answers_unbk ..)
  case find => cases h; exact effect_takeRequest (answers_find ..)
  case next => cases h; exact effect_takeRequest (answers_next ..)
  case endn => cases h; exact effect_takeRequest (answers_endn ..)
  case time => cases h; exact effect_takeRequest (answers_time ..)
  case clck => cases h; exact effect_takeRequest (answers_clck ..)
  case sesn => cases h; exact effect_takeRequest (answers_sesn ..)
  case sesf => cases h; exact effect_takeRequest (answers_sesf ..)
  case lamp => cases h; exact effect_takeRequest (answers_lamp ..)
  case fitl => cases h; exact effect_takeRequest (answers_fitl ..)
  case reml => cases h; exact effect_takeRequest (answers_reml ..)
  case clrf => cases h; exact effect_takeRequest (answers_clrf ..)
  case hold => cases h; exact effect_takeRequest (answers_hold ..)
  case lift => cases h; exact effect_takeRequest (answers_lift ..)
  case hlds => cases h; exact effect_takeRequest (answers_hlds ..)
  case srce => cases h; exact effect_takeRequest (answers_srce ..)
  case prof => cases h; exact effect_takeRequest (answers_prof ..)
  case prfr => cases h; exact effect_takeRequest (answers_prfr ..)
  case sigs => cases h; exact effect_takeRequest (answers_sigs ..)
  case prst => cases h; exact effect_takeRequest (answers_prst ..)
  case prsr => cases h; exact effect_takeRequest (answers_prsr ..)
  case appl => cases h; exact effect_takeRequest (answers_appl ..)
  case crnr => cases h; exact effect_takeRequest (answers_crnr ..)
  case mute => cases h; exact effect_takeRequest (answers_mute ..)
  case unmt => cases h; exact effect_takeRequest (answers_unmt ..)
  case summ => cases h; exact effect_takeRequest (answers_summ ..)
  case nlvl => cases h; exact effect_takeRequest (answers_nlvl ..)
  case conf => cases h; exact effect_takeRequest (answers_conf ..)
  case cnfr => cases h; exact effect_takeRequest (answers_cnfr ..)
  case rstr => cases h; exact effect_takeRequest (answers_rstr ..)
  case restartFlushEnd f =>
    cases h; split
    · exact .restart s f
    · exact .refl s
  case keyStrobe => cases h; exact effect_whenRunning (effect_keyStrobed ..)
  case powerOn => cases h; exact effect_whenRunning (effect_takeKey (fun _ s => effect_keyChecks _ _ _ (.sessionOn s)) s)
  case powerOff => cases h; exact effect_whenRunning (effect_takeKey (fun _ s => effect_keyChecks _ _ _ (effect_powerOffAct s)) s)
  case muteKey => cases h; exact effect_whenRunning (effect_takeKey effect_muteToggle s)
  case sourceKey => cases h; exact effect_whenRunning (effect_takeKey (fun _ s => effect_keyChecks _ _ _ (.select s _)) s)
  case presetKey => cases h; exact effect_whenRunning (effect_takeKey (fun _ s => effect_keyChecks _ _ _ (.override s _)) s)
  case unknownKey => cases h; exact effect_whenRunning (effect_takeKey (fun _ s => .notice s _ _ _) s)
  case secondArrival => cases h; exact effect_secondArrival s
  case minuteArrival => cases h; exact effect_minuteArrival s
  case unstoredLitSecondsWrap p => cases h; exact effect_dueEvent (fun h => .unstored s p h)
  case continuousLit600 p => cases h; exact effect_dueEvent (fun h => .continuous s p h)
  case strikeWindowRunsOut p => cases h; exact effect_dueEvent (fun h => .window s p h)
  case cooldownEnd p => cases h; exact effect_dueEvent (fun h => .cooldown s p h)
  case unattendedEnd => cases h; exact effect_dueEvent (fun h => .unattended s h)
  case graceRunsOut => cases h; exact effect_dueEvent (fun h => .grace s h)
  case takeTimeout => cases h; exact effect_dueEvent (fun h => .takeTimeout s h)
  case settleTimeout => cases h; exact effect_dueEvent (fun h => .settleTimeout s h)
  case lossTimerRunsOut => cases h; exact effect_dueEvent (fun h => .loss s h)
  case frameEdge => cases h; exact effect_whenRunning (.frameEdge s _)
  case lineEdge => cases h; exact effect_whenRunning (.lineEdge s)
  case acknowledgeTimeout =>
    cases h; apply effect_whenRunning; split
    · next h => exact .faulted s h.1
    · exact .refl s
  case engineAcknowledge =>
    cases h; split
    · exact .refl s
    · exact effect_acknowledged s
  case engineInboundStrobe => cases h; exact effect_engineStrobed ..
  case lampSense =>
    cases h; apply effect_whenRunning; unfold lampSenseTaken; split
    · exact .trans (.engineLatch s none) (.lampSense _ _ _)
    · exact .refl s
  case thermal =>
    cases h; apply effect_whenRunning; unfold thermalTaken; split
    · exact .trans (.engineLatch s none) (.thermal _ _)
    · exact .refl s
  case door =>
    cases h; apply effect_whenRunning; unfold doorTaken; split
    · exact .trans (.engineLatch s none) (.door _ _)
    · exact .refl s
  case statusReport => cases h; exact effect_whenRunning (effect_statusReportTaken s)
  case matrixInboundStrobe => cases h; exact effect_matrixStrobed ..
  case takeAck =>
    cases h; apply effect_whenRunning; unfold takeAckRow; split
    · exact .trans (.matrixLatch s none) (.takeAck _ _)
    · exact .refl s
  case presence =>
    cases h; apply effect_whenRunning; unfold presenceRow; split
    · exact .trans (.matrixLatch s none) (.presence _ _)
    · exact .refl s
  case fireLineChange a => cases h; exact .trans (.fireLevel s a) (effect_whenRunning (effect_fireLineSeen a _))
  case frameBegin =>
    cases h; split
    · exact .refl s
    · exact .link s _
  case requestFrameEnd => cases h; exact effect_frameEnds (fun f s => effect_requestTaken _ _ f s) s
  case fetchFrame => cases h; exact effect_frameEnds (fun _ s => .refl s) s
  case malformedFrame => cases h; exact effect_frameEnds (fun f s => effect_malformedTaken f s) s
  case overrunFrame => cases h; exact effect_frameEnds (fun _ s => .notice s _ _ _) s
  case replyStaging => cases h; exact effect_whenRunning (.link s _)
  case writeEnd => cases h; exact effect_writeEndTaken ..
  case retryWaitEnd n =>
    cases h; unfold retryWaitEnds; split
    · exact .retry s n
    · exact .refl s
  case powerReset d => cases h; exact .powerReset s d
  case startUpEnd =>
    cases h; split
    · exact .startUpEnd s ‹_›
    · exact .refl s
  case byteCompletion => cases h; exact .link s _

/-- A property that every effect keeps, and that does not look at the queue, is kept by every step. -/
theorem kept_of_effects {P : State → Prop} (hq : ∀ s q, P s → P { s with pending := q })
    (he : ∀ s t, Effect s t → P s → P t) : KeptByStep P := by
  intro s t hs h
  unfold step at h
  split at h
  · cases h; exact hs
  · exact he _ _ (exec_effect h) (hq s _ hs)

end Sys2Proof.Machine
end

