-- ==== Sys2Proof/Laws/GeometryUnit.lean ====
section
/-! SUPPORT. What the geometry unit's operations leave alone. -/

namespace Sys2Proof.Machine

/-! ### compute -/
@[simp] theorem compute_fixed (i : Input) (s : State) : (compute i s).fixed = s.fixed := by simp [compute]
@[simp] theorem compute_reports (i : Input) (s : State) : (compute i s).reports = s.reports := by simp [compute]
@[simp] theorem compute_table (i : Input) (s : State) : (compute i s).table = s.table := by simp [compute]
@[simp] theorem compute_lampRecords (i : Input) (s : State) : (compute i s).lampRecords = s.lampRecords := by simp [compute]
@[simp] theorem compute_sources (i : Input) (s : State) : (compute i s).sources = s.sources := by simp [compute]
@[simp] theorem compute_room (i : Input) (s : State) : (compute i s).room = s.room := by simp [compute]
@[simp] theorem compute_medium (i : Input) (s : State) : (compute i s).medium = s.medium := by simp [compute]
@[simp] theorem compute_holds (i : Input) (s : State) : (compute i s).holds = s.holds := by simp [compute]
@[simp] theorem compute_gate (i : Input) (s : State) : (compute i s).gate = s.gate := by simp [compute]
@[simp] theorem compute_sched (i : Input) (s : State) : (compute i s).sched = s.sched := by simp [compute]
@[simp] theorem compute_notices (i : Input) (s : State) : (compute i s).notices = s.notices := by simp [compute]
@[simp] theorem compute_lampA (i : Input) (s : State) : (compute i s).lampA = s.lampA := by simp [compute]
@[simp] theorem compute_lampB (i : Input) (s : State) : (compute i s).lampB = s.lampB := by simp [compute]
@[simp] theorem compute_store (i : Input) (s : State) : (compute i s).store = s.store := by simp [compute]

/-! ### computeTarget -/
@[simp] theorem computeTarget_fixed (s : State) : (computeTarget s).fixed = s.fixed := by simp only [computeTarget]; (repeat' split) <;> simp
@[simp] theorem computeTarget_reports (s : State) : (computeTarget s).reports = s.reports := by simp only [computeTarget]; (repeat' split) <;> simp
@[simp] theorem computeTarget_table (s : State) : (computeTarget s).table = s.table := by simp only [computeTarget]; (repeat' split) <;> simp
@[simp] theorem computeTarget_lampRecords (s : State) : (computeTarget s).lampRecords = s.lampRecords := by simp only [computeTarget]; (repeat' split) <;> simp
@[simp] theorem computeTarget_sources (s : State) : (computeTarget s).sources = s.sources := by simp only [computeTarget]; (repeat' split) <;> simp
@[simp] theorem computeTarget_room (s : State) : (computeTarget s).room = s.room := by simp only [computeTarget]; (repeat' split) <;> simp
@[simp] theorem computeTarget_medium (s : State) : (computeTarget s).medium = s.medium := by simp only [computeTarget]; (repeat' split) <;> simp
@[simp] theorem computeTarget_holds (s : State) : (computeTarget s).holds = s.holds := by simp only [computeTarget]; (repeat' split) <;> simp
@[simp] theorem computeTarget_gate (s : State) : (computeTarget s).gate = s.gate := by simp only [computeTarget]; (repeat' split) <;> simp
@[simp] theorem computeTarget_sched (s : State) : (computeTarget s).sched = s.sched := by simp only [computeTarget]; (repeat' split) <;> simp
@[simp] theorem computeTarget_notices (s : State) : (computeTarget s).notices = s.notices := by simp only [computeTarget]; (repeat' split) <;> simp
@[simp] theorem computeTarget_lampA (s : State) : (computeTarget s).lampA = s.lampA := by simp only [computeTarget]; (repeat' split) <;> simp
@[simp] theorem computeTarget_lampB (s : State) : (computeTarget s).lampB = s.lampB := by simp only [computeTarget]; (repeat' split) <;> simp
@[simp] theorem computeTarget_store (s : State) : (computeTarget s).store = s.store := by simp only [computeTarget]; (repeat' split) <;> simp

/-! ### computeIfChanged -/
@[simp] theorem computeIfChanged_fixed (x : Option PresetNo) (s : State) : (computeIfChanged x s).fixed = s.fixed := by simp only [computeIfChanged]; (repeat' split) <;> simp
@[simp] theorem computeIfChanged_reports (x : Option PresetNo) (s : State) : (computeIfChanged x s).reports = s.reports := by simp only [computeIfChanged]; (repeat' split) <;> simp
@[simp] theorem computeIfChanged_table (x : Option PresetNo) (s : State) : (computeIfChanged x s).table = s.table := by simp only [computeIfChanged]; (repeat' split) <;> simp
@[simp] theorem computeIfChanged_lampRecords (x : Option PresetNo) (s : State) : (computeIfChanged x s).lampRecords = s.lampRecords := by simp only [computeIfChanged]; (repeat' split) <;> simp
@[simp] theorem computeIfChanged_sources (x : Option PresetNo) (s : State) : (computeIfChanged x s).sources = s.sources := by simp only [computeIfChanged]; (repeat' split) <;> simp
@[simp] theorem computeIfChanged_room (x : Option PresetNo) (s : State) : (computeIfChanged x s).room = s.room := by simp only [computeIfChanged]; (repeat' split) <;> simp
@[simp] theorem computeIfChanged_medium (x : Option PresetNo) (s : State) : (computeIfChanged x s).medium = s.medium := by simp only [computeIfChanged]; (repeat' split) <;> simp
@[simp] theorem computeIfChanged_holds (x : Option PresetNo) (s : State) : (computeIfChanged x s).holds = s.holds := by simp only [computeIfChanged]; (repeat' split) <;> simp
@[simp] theorem computeIfChanged_gate (x : Option PresetNo) (s : State) : (computeIfChanged x s).gate = s.gate := by simp only [computeIfChanged]; (repeat' split) <;> simp
@[simp] theorem computeIfChanged_sched (x : Option PresetNo) (s : State) : (computeIfChanged x s).sched = s.sched := by simp only [computeIfChanged]; (repeat' split) <;> simp
@[simp] theorem computeIfChanged_notices (x : Option PresetNo) (s : State) : (computeIfChanged x s).notices = s.notices := by simp only [computeIfChanged]; (repeat' split) <;> simp
@[simp] theorem computeIfChanged_lampA (x : Option PresetNo) (s : State) : (computeIfChanged x s).lampA = s.lampA := by simp only [computeIfChanged]; (repeat' split) <;> simp
@[simp] theorem computeIfChanged_lampB (x : Option PresetNo) (s : State) : (computeIfChanged x s).lampB = s.lampB := by simp only [computeIfChanged]; (repeat' split) <;> simp
@[simp] theorem computeIfChanged_store (x : Option PresetNo) (s : State) : (computeIfChanged x s).store = s.store := by simp only [computeIfChanged]; (repeat' split) <;> simp

/-! ### endOverride -/
@[simp] theorem endOverride_fixed (s : State) : (endOverride s).fixed = s.fixed := by simp [endOverride]
@[simp] theorem endOverride_reports (s : State) : (endOverride s).reports = s.reports := by simp [endOverride]
@[simp] theorem endOverride_table (s : State) : (endOverride s).table = s.table := by simp [endOverride]
@[simp] theorem endOverride_lampRecords (s : State) : (endOverride s).lampRecords = s.lampRecords := by simp [endOverride]
@[simp] theorem endOverride_sources (s : State) : (endOverride s).sources = s.sources := by simp [endOverride]
@[simp] theorem endOverride_room (s : State) : (endOverride s).room = s.room := by simp [endOverride]
@[simp] theorem endOverride_medium (s : State) : (endOverride s).medium = s.medium := by simp [endOverride]
@[simp] theorem endOverride_holds (s : State) : (endOverride s).holds = s.holds := by simp [endOverride]
@[simp] theorem endOverride_gate (s : State) : (endOverride s).gate = s.gate := by simp [endOverride]
@[simp] theorem endOverride_sched (s : State) : (endOverride s).sched = s.sched := by simp [endOverride]
@[simp] theorem endOverride_notices (s : State) : (endOverride s).notices = s.notices := by simp [endOverride]
@[simp] theorem endOverride_lampA (s : State) : (endOverride s).lampA = s.lampA := by simp [endOverride]
@[simp] theorem endOverride_lampB (s : State) : (endOverride s).lampB = s.lampB := by simp [endOverride]
@[simp] theorem endOverride_store (s : State) : (endOverride s).store = s.store := by simp [endOverride]
@[simp] theorem endOverride_engine (s : State) : (endOverride s).engine = s.engine := by simp [endOverride]

/-! ### geometryFault -/
@[simp] theorem geometryFault_fixed (s : State) : (geometryFault s).fixed = s.fixed := by simp [geometryFault]
@[simp] theorem geometryFault_reports (s : State) : (geometryFault s).reports = s.reports := by simp [geometryFault]
@[simp] theorem geometryFault_table (s : State) : (geometryFault s).table = s.table := by simp [geometryFault]
@[simp] theorem geometryFault_lampRecords (s : State) : (geometryFault s).lampRecords = s.lampRecords := by simp [geometryFault]
@[simp] theorem geometryFault_sources (s : State) : (geometryFault s).sources = s.sources := by simp [geometryFault]
@[simp] theorem geometryFault_room (s : State) : (geometryFault s).room = s.room := by simp [geometryFault]
@[simp] theorem geometryFault_medium (s : State) : (geometryFault s).medium = s.medium := by simp [geometryFault]
@[simp] theorem geometryFault_holds (s : State) : (geometryFault s).holds = s.holds := by simp [geometryFault]
@[simp] theorem geometryFault_gate (s : State) : (geometryFault s).gate = s.gate := by simp [geometryFault]
@[simp] theorem geometryFault_sched (s : State) : (geometryFault s).sched = s.sched := by simp [geometryFault]
@[simp] theorem geometryFault_notices (s : State) : (geometryFault s).notices = s.notices := by simp [geometryFault]
@[simp] theorem geometryFault_lampA (s : State) : (geometryFault s).lampA = s.lampA := by simp [geometryFault]
@[simp] theorem geometryFault_lampB (s : State) : (geometryFault s).lampB = s.lampB := by simp [geometryFault]
@[simp] theorem geometryFault_store (s : State) : (geometryFault s).store = s.store := by simp [geometryFault]
@[simp] theorem geometryFault_engine (s : State) : (geometryFault s).engine = s.engine := by simp [geometryFault]

/-! ### warpDelivered -/
@[simp] theorem warpDelivered_fixed (w : CornerSet) (s : State) : (warpDelivered w s).fixed = s.fixed := by simp [warpDelivered]
@[simp] theorem warpDelivered_reports (w : CornerSet) (s : State) : (warpDelivered w s).reports = s.reports := by simp [warpDelivered]
@[simp] theorem warpDelivered_table (w : CornerSet) (s : State) : (warpDelivered w s).table = s.table := by simp [warpDelivered]
@[simp] theorem warpDelivered_lampRecords (w : CornerSet) (s : State) : (warpDelivered w s).lampRecords = s.lampRecords := by simp [warpDelivered]
@[simp] theorem warpDelivered_sources (w : CornerSet) (s : State) : (warpDelivered w s).sources = s.sources := by simp [warpDelivered]
@[simp] theorem warpDelivered_room (w : CornerSet) (s : State) : (warpDelivered w s).room = s.room := by simp [warpDelivered]
@[simp] theorem warpDelivered_medium (w : CornerSet) (s : State) : (warpDelivered w s).medium = s.medium := by simp [warpDelivered]
@[simp] theorem warpDelivered_holds (w : CornerSet) (s : State) : (warpDelivered w s).holds = s.holds := by simp [warpDelivered]
@[simp] theorem warpDelivered_gate (w : CornerSet) (s : State) : (warpDelivered w s).gate = s.gate := by simp [warpDelivered]
@[simp] theorem warpDelivered_sched (w : CornerSet) (s : State) : (warpDelivered w s).sched = s.sched := by simp [warpDelivered]
@[simp] theorem warpDelivered_notices (w : CornerSet) (s : State) : (warpDelivered w s).notices = s.notices := by simp [warpDelivered]
@[simp] theorem warpDelivered_lampA (w : CornerSet) (s : State) : (warpDelivered w s).lampA = s.lampA := by simp [warpDelivered]
@[simp] theorem warpDelivered_lampB (w : CornerSet) (s : State) : (warpDelivered w s).lampB = s.lampB := by simp [warpDelivered]
@[simp] theorem warpDelivered_store (w : CornerSet) (s : State) : (warpDelivered w s).store = s.store := by simp [warpDelivered]
@[simp] theorem warpDelivered_engine (w : CornerSet) (s : State) : (warpDelivered w s).engine = s.engine := by simp [warpDelivered]

@[simp] theorem compute_geom_presets (i : Input) (s : State) : (compute i s).geom.presets = s.geom.presets := by simp [compute]
@[simp] theorem compute_geom_applied (i : Input) (s : State) : (compute i s).geom.applied = s.geom.applied := by simp [compute]
@[simp] theorem compute_geom_appliedFor (i : Input) (s : State) : (compute i s).geom.appliedFor = s.geom.appliedFor := by simp [compute]
@[simp] theorem compute_geom_override (i : Input) (s : State) : (compute i s).geom.override = s.geom.override := by simp [compute]
@[simp] theorem computeTarget_geom_presets  (s : State) : (computeTarget  s).geom.presets = s.geom.presets := by simp only [computeTarget]; (repeat' split) <;> simp
@[simp] theorem computeTarget_geom_applied  (s : State) : (computeTarget  s).geom.applied = s.geom.applied := by simp only [computeTarget]; (repeat' split) <;> simp
@[simp] theorem computeTarget_geom_appliedFor  (s : State) : (computeTarget  s).geom.appliedFor = s.geom.appliedFor := by simp only [computeTarget]; (repeat' split) <;> simp
@[simp] theorem computeTarget_geom_override  (s : State) : (computeTarget  s).geom.override = s.geom.override := by simp only [computeTarget]; (repeat' split) <;> simp
@[simp] theorem computeIfChanged_geom_presets (x : Option PresetNo) (s : State) : (computeIfChanged x s).geom.presets = s.geom.presets := by simp only [computeIfChanged]; (repeat' split) <;> simp
@[simp] theorem computeIfChanged_geom_applied (x : Option PresetNo) (s : State) : (computeIfChanged x s).geom.applied = s.geom.applied := by simp only [computeIfChanged]; (repeat' split) <;> simp
@[simp] theorem computeIfChanged_geom_appliedFor (x : Option PresetNo) (s : State) : (computeIfChanged x s).geom.appliedFor = s.geom.appliedFor := by simp only [computeIfChanged]; (repeat' split) <;> simp
@[simp] theorem computeIfChanged_geom_override (x : Option PresetNo) (s : State) : (computeIfChanged x s).geom.override = s.geom.override := by simp only [computeIfChanged]; (repeat' split) <;> simp
@[simp] theorem endOverride_geom_presets  (s : State) : (endOverride  s).geom.presets = s.geom.presets := by simp [endOverride]
@[simp] theorem endOverride_geom_applied  (s : State) : (endOverride  s).geom.applied = s.geom.applied := by simp [endOverride]
@[simp] theorem endOverride_geom_appliedFor  (s : State) : (endOverride  s).geom.appliedFor = s.geom.appliedFor := by simp [endOverride]
@[simp] theorem endOverride_geom_wanted  (s : State) : (endOverride  s).geom.wanted = s.geom.wanted := by simp [endOverride]
@[simp] theorem endOverride_override (s : State) : (endOverride s).geom.override = none := rfl

end Sys2Proof.Machine
end

