-- ==== Sys2Proof/Laws/HoldTable.lean ====
section
/-! SUPPORT. What the hold table's operations leave alone. -/

namespace Sys2Proof.Machine

/-! ### placeHold -/
@[simp] theorem placeHold_fixed (slot : Fin 16) (h : Hold) (s : State) : (placeHold slot h s).fixed = s.fixed := by simp only [placeHold]; (repeat' split) <;> simp
@[simp] theorem placeHold_reports (slot : Fin 16) (h : Hold) (s : State) : (placeHold slot h s).reports = s.reports := by simp only [placeHold]; (repeat' split) <;> simp
@[simp] theorem placeHold_table (slot : Fin 16) (h : Hold) (s : State) : (placeHold slot h s).table = s.table := by simp only [placeHold]; (repeat' split) <;> simp
@[simp] theorem placeHold_lampRecords (slot : Fin 16) (h : Hold) (s : State) : (placeHold slot h s).lampRecords = s.lampRecords := by simp only [placeHold]; (repeat' split) <;> simp
@[simp] theorem placeHold_sources (slot : Fin 16) (h : Hold) (s : State) : (placeHold slot h s).sources = s.sources := by simp only [placeHold]; (repeat' split) <;> simp
@[simp] theorem placeHold_room (slot : Fin 16) (h : Hold) (s : State) : (placeHold slot h s).room = s.room := by simp only [placeHold]; (repeat' split) <;> simp
@[simp] theorem placeHold_medium (slot : Fin 16) (h : Hold) (s : State) : (placeHold slot h s).medium = s.medium := by simp only [placeHold]; (repeat' split) <;> simp
@[simp] theorem placeHold_gate (slot : Fin 16) (h : Hold) (s : State) : (placeHold slot h s).gate = s.gate := by simp only [placeHold]; (repeat' split) <;> simp
@[simp] theorem placeHold_geom (slot : Fin 16) (h : Hold) (s : State) : (placeHold slot h s).geom = s.geom := by simp only [placeHold]; (repeat' split) <;> simp

/-! ### clearSlot -/
@[simp] theorem clearSlot_fixed (slot : Fin 16) (s : State) : (clearSlot slot s).fixed = s.fixed := by simp [clearSlot]
@[simp] theorem clearSlot_reports (slot : Fin 16) (s : State) : (clearSlot slot s).reports = s.reports := by simp [clearSlot]
@[simp] theorem clearSlot_table (slot : Fin 16) (s : State) : (clearSlot slot s).table = s.table := by simp [clearSlot]
@[simp] theorem clearSlot_lampRecords (slot : Fin 16) (s : State) : (clearSlot slot s).lampRecords = s.lampRecords := by simp [clearSlot]
@[simp] theorem clearSlot_sources (slot : Fin 16) (s : State) : (clearSlot slot s).sources = s.sources := by simp [clearSlot]
@[simp] theorem clearSlot_room (slot : Fin 16) (s : State) : (clearSlot slot s).room = s.room := by simp [clearSlot]
@[simp] theorem clearSlot_medium (slot : Fin 16) (s : State) : (clearSlot slot s).medium = s.medium := by simp [clearSlot]
@[simp] theorem clearSlot_gate (slot : Fin 16) (s : State) : (clearSlot slot s).gate = s.gate := by simp [clearSlot]
@[simp] theorem clearSlot_geom (slot : Fin 16) (s : State) : (clearSlot slot s).geom = s.geom := by simp [clearSlot]
@[simp] theorem clearSlot_sched (slot : Fin 16) (s : State) : (clearSlot slot s).sched = s.sched := by simp [clearSlot]
@[simp] theorem clearSlot_notices (slot : Fin 16) (s : State) : (clearSlot slot s).notices = s.notices := by simp [clearSlot]
@[simp] theorem clearSlot_store (slot : Fin 16) (s : State) : (clearSlot slot s).store = s.store := by simp [clearSlot]
@[simp] theorem clearSlot_engine (slot : Fin 16) (s : State) : (clearSlot slot s).engine = s.engine := by simp [clearSlot]
@[simp] theorem clearSlot_lampA (slot : Fin 16) (s : State) : (clearSlot slot s).lampA = s.lampA := by simp [clearSlot]
@[simp] theorem clearSlot_lampB (slot : Fin 16) (s : State) : (clearSlot slot s).lampB = s.lampB := by simp [clearSlot]

/-! ### liftOnly -/
@[simp] theorem liftOnly_fixed (slot : Fin 16) (h : Hold) (s : State) : (liftOnly slot h s).fixed = s.fixed := by simp [liftOnly]
@[simp] theorem liftOnly_reports (slot : Fin 16) (h : Hold) (s : State) : (liftOnly slot h s).reports = s.reports := by simp [liftOnly]
@[simp] theorem liftOnly_table (slot : Fin 16) (h : Hold) (s : State) : (liftOnly slot h s).table = s.table := by simp [liftOnly]
@[simp] theorem liftOnly_lampRecords (slot : Fin 16) (h : Hold) (s : State) : (liftOnly slot h s).lampRecords = s.lampRecords := by simp [liftOnly]
@[simp] theorem liftOnly_sources (slot : Fin 16) (h : Hold) (s : State) : (liftOnly slot h s).sources = s.sources := by simp [liftOnly]
@[simp] theorem liftOnly_room (slot : Fin 16) (h : Hold) (s : State) : (liftOnly slot h s).room = s.room := by simp [liftOnly]
@[simp] theorem liftOnly_medium (slot : Fin 16) (h : Hold) (s : State) : (liftOnly slot h s).medium = s.medium := by simp [liftOnly]
@[simp] theorem liftOnly_gate (slot : Fin 16) (h : Hold) (s : State) : (liftOnly slot h s).gate = s.gate := by simp [liftOnly]
@[simp] theorem liftOnly_geom (slot : Fin 16) (h : Hold) (s : State) : (liftOnly slot h s).geom = s.geom := by simp [liftOnly]
@[simp] theorem liftOnly_sched (slot : Fin 16) (h : Hold) (s : State) : (liftOnly slot h s).sched = s.sched := by simp [liftOnly]
@[simp] theorem liftOnly_store (slot : Fin 16) (h : Hold) (s : State) : (liftOnly slot h s).store = s.store := by simp [liftOnly]
@[simp] theorem liftOnly_engine (slot : Fin 16) (h : Hold) (s : State) : (liftOnly slot h s).engine = s.engine := by simp [liftOnly]
@[simp] theorem liftOnly_lampA (slot : Fin 16) (h : Hold) (s : State) : (liftOnly slot h s).lampA = s.lampA := by simp [liftOnly]
@[simp] theorem liftOnly_lampB (slot : Fin 16) (h : Hold) (s : State) : (liftOnly slot h s).lampB = s.lampB := by simp [liftOnly]

/-! ### afterLift -/
@[simp] theorem afterLift_fixed (h : Hold) (s : State) : (afterLift h s).fixed = s.fixed := by simp only [afterLift]; (repeat' split) <;> simp
@[simp] theorem afterLift_reports (h : Hold) (s : State) : (afterLift h s).reports = s.reports := by simp only [afterLift]; (repeat' split) <;> simp
@[simp] theorem afterLift_table (h : Hold) (s : State) : (afterLift h s).table = s.table := by simp only [afterLift]; (repeat' split) <;> simp
@[simp] theorem afterLift_lampRecords (h : Hold) (s : State) : (afterLift h s).lampRecords = s.lampRecords := by simp only [afterLift]; (repeat' split) <;> simp
@[simp] theorem afterLift_sources (h : Hold) (s : State) : (afterLift h s).sources = s.sources := by simp only [afterLift]; (repeat' split) <;> simp
@[simp] theorem afterLift_room (h : Hold) (s : State) : (afterLift h s).room = s.room := by simp only [afterLift]; (repeat' split) <;> simp
@[simp] theorem afterLift_medium (h : Hold) (s : State) : (afterLift h s).medium = s.medium := by simp only [afterLift]; (repeat' split) <;> simp
@[simp] theorem afterLift_holds (h : Hold) (s : State) : (afterLift h s).holds = s.holds := by simp only [afterLift]; (repeat' split) <;> simp
@[simp] theorem afterLift_gate (h : Hold) (s : State) : (afterLift h s).gate = s.gate := by simp only [afterLift]; (repeat' split) <;> simp
@[simp] theorem afterLift_geom (h : Hold) (s : State) : (afterLift h s).geom = s.geom := by simp only [afterLift]; (repeat' split) <;> simp
@[simp] theorem afterLift_sched (h : Hold) (s : State) : (afterLift h s).sched = s.sched := by simp only [afterLift]; (repeat' split) <;> simp
@[simp] theorem afterLift_store (h : Hold) (s : State) : (afterLift h s).store = s.store := by simp only [afterLift]; (repeat' split) <;> simp
@[simp] theorem afterLift_notices (h : Hold) (s : State) : (afterLift h s).notices = s.notices := by simp only [afterLift]; (repeat' split) <;> simp

/-! ### liftHold -/
@[simp] theorem liftHold_fixed (slot : Fin 16) (h : Hold) (s : State) : (liftHold slot h s).fixed = s.fixed := by simp [liftHold]
@[simp] theorem liftHold_reports (slot : Fin 16) (h : Hold) (s : State) : (liftHold slot h s).reports = s.reports := by simp [liftHold]
@[simp] theorem liftHold_table (slot : Fin 16) (h : Hold) (s : State) : (liftHold slot h s).table = s.table := by simp [liftHold]
@[simp] theorem liftHold_lampRecords (slot : Fin 16) (h : Hold) (s : State) : (liftHold slot h s).lampRecords = s.lampRecords := by simp [liftHold]
@[simp] theorem liftHold_sources (slot : Fin 16) (h : Hold) (s : State) : (liftHold slot h s).sources = s.sources := by simp [liftHold]
@[simp] theorem liftHold_room (slot : Fin 16) (h : Hold) (s : State) : (liftHold slot h s).room = s.room := by simp [liftHold]
@[simp] theorem liftHold_medium (slot : Fin 16) (h : Hold) (s : State) : (liftHold slot h s).medium = s.medium := by simp [liftHold]
@[simp] theorem liftHold_gate (slot : Fin 16) (h : Hold) (s : State) : (liftHold slot h s).gate = s.gate := by simp [liftHold]
@[simp] theorem liftHold_geom (slot : Fin 16) (h : Hold) (s : State) : (liftHold slot h s).geom = s.geom := by simp [liftHold]
@[simp] theorem liftHold_sched (slot : Fin 16) (h : Hold) (s : State) : (liftHold slot h s).sched = s.sched := by simp [liftHold]
@[simp] theorem liftHold_store (slot : Fin 16) (h : Hold) (s : State) : (liftHold slot h s).store = s.store := by simp [liftHold]

/-! ### reportOnly -/
@[simp] theorem reportOnly_fixed (slot : Fin 16) (h : Hold) (r : Bool) (s : State) : (reportOnly slot h r s).fixed = s.fixed := by simp only [reportOnly]; (repeat' split) <;> simp
@[simp] theorem reportOnly_reports (slot : Fin 16) (h : Hold) (r : Bool) (s : State) : (reportOnly slot h r s).reports = s.reports := by simp only [reportOnly]; (repeat' split) <;> simp
@[simp] theorem reportOnly_table (slot : Fin 16) (h : Hold) (r : Bool) (s : State) : (reportOnly slot h r s).table = s.table := by simp only [reportOnly]; (repeat' split) <;> simp
@[simp] theorem reportOnly_lampRecords (slot : Fin 16) (h : Hold) (r : Bool) (s : State) : (reportOnly slot h r s).lampRecords = s.lampRecords := by simp only [reportOnly]; (repeat' split) <;> simp
@[simp] theorem reportOnly_sources (slot : Fin 16) (h : Hold) (r : Bool) (s : State) : (reportOnly slot h r s).sources = s.sources := by simp only [reportOnly]; (repeat' split) <;> simp
@[simp] theorem reportOnly_room (slot : Fin 16) (h : Hold) (r : Bool) (s : State) : (reportOnly slot h r s).room = s.room := by simp only [reportOnly]; (repeat' split) <;> simp
@[simp] theorem reportOnly_medium (slot : Fin 16) (h : Hold) (r : Bool) (s : State) : (reportOnly slot h r s).medium = s.medium := by simp only [reportOnly]; (repeat' split) <;> simp
@[simp] theorem reportOnly_gate (slot : Fin 16) (h : Hold) (r : Bool) (s : State) : (reportOnly slot h r s).gate = s.gate := by simp only [reportOnly]; (repeat' split) <;> simp
@[simp] theorem reportOnly_geom (slot : Fin 16) (h : Hold) (r : Bool) (s : State) : (reportOnly slot h r s).geom = s.geom := by simp only [reportOnly]; (repeat' split) <;> simp

/-! ### reportHold -/
@[simp] theorem reportHold_fixed (slot : Fin 16) (h : Hold) (r : Bool) (s : State) : (reportHold slot h r s).fixed = s.fixed := by simp only [reportHold]; (repeat' split) <;> simp
@[simp] theorem reportHold_reports (slot : Fin 16) (h : Hold) (r : Bool) (s : State) : (reportHold slot h r s).reports = s.reports := by simp only [reportHold]; (repeat' split) <;> simp
@[simp] theorem reportHold_table (slot : Fin 16) (h : Hold) (r : Bool) (s : State) : (reportHold slot h r s).table = s.table := by simp only [reportHold]; (repeat' split) <;> simp
@[simp] theorem reportHold_lampRecords (slot : Fin 16) (h : Hold) (r : Bool) (s : State) : (reportHold slot h r s).lampRecords = s.lampRecords := by simp only [reportHold]; (repeat' split) <;> simp
@[simp] theorem reportHold_sources (slot : Fin 16) (h : Hold) (r : Bool) (s : State) : (reportHold slot h r s).sources = s.sources := by simp only [reportHold]; (repeat' split) <;> simp
@[simp] theorem reportHold_room (slot : Fin 16) (h : Hold) (r : Bool) (s : State) : (reportHold slot h r s).room = s.room := by simp only [reportHold]; (repeat' split) <;> simp
@[simp] theorem reportHold_medium (slot : Fin 16) (h : Hold) (r : Bool) (s : State) : (reportHold slot h r s).medium = s.medium := by simp only [reportHold]; (repeat' split) <;> simp
@[simp] theorem reportHold_gate (slot : Fin 16) (h : Hold) (r : Bool) (s : State) : (reportHold slot h r s).gate = s.gate := by simp only [reportHold]; (repeat' split) <;> simp
@[simp] theorem reportHold_geom (slot : Fin 16) (h : Hold) (r : Bool) (s : State) : (reportHold slot h r s).geom = s.geom := by simp only [reportHold]; (repeat' split) <;> simp

/-! ### doorReport -/
@[simp] theorem doorReport_fixed (r : Bool) (s : State) : (doorReport r s).fixed = s.fixed := by simp [doorReport]
@[simp] theorem doorReport_reports (r : Bool) (s : State) : (doorReport r s).reports = s.reports := by simp [doorReport]
@[simp] theorem doorReport_table (r : Bool) (s : State) : (doorReport r s).table = s.table := by simp [doorReport]
@[simp] theorem doorReport_lampRecords (r : Bool) (s : State) : (doorReport r s).lampRecords = s.lampRecords := by simp [doorReport]
@[simp] theorem doorReport_sources (r : Bool) (s : State) : (doorReport r s).sources = s.sources := by simp [doorReport]
@[simp] theorem doorReport_room (r : Bool) (s : State) : (doorReport r s).room = s.room := by simp [doorReport]
@[simp] theorem doorReport_medium (r : Bool) (s : State) : (doorReport r s).medium = s.medium := by simp [doorReport]
@[simp] theorem doorReport_gate (r : Bool) (s : State) : (doorReport r s).gate = s.gate := by simp [doorReport]
@[simp] theorem doorReport_geom (r : Bool) (s : State) : (doorReport r s).geom = s.geom := by simp [doorReport]

/-! ### thermalReport -/
@[simp] theorem thermalReport_fixed (t : Thermal) (s : State) : (thermalReport t s).fixed = s.fixed := by simp [thermalReport]
@[simp] theorem thermalReport_table (t : Thermal) (s : State) : (thermalReport t s).table = s.table := by simp [thermalReport]
@[simp] theorem thermalReport_lampRecords (t : Thermal) (s : State) : (thermalReport t s).lampRecords = s.lampRecords := by simp [thermalReport]
@[simp] theorem thermalReport_sources (t : Thermal) (s : State) : (thermalReport t s).sources = s.sources := by simp [thermalReport]
@[simp] theorem thermalReport_room (t : Thermal) (s : State) : (thermalReport t s).room = s.room := by simp [thermalReport]
@[simp] theorem thermalReport_medium (t : Thermal) (s : State) : (thermalReport t s).medium = s.medium := by simp [thermalReport]
@[simp] theorem thermalReport_gate (t : Thermal) (s : State) : (thermalReport t s).gate = s.gate := by simp [thermalReport]
@[simp] theorem thermalReport_geom (t : Thermal) (s : State) : (thermalReport t s).geom = s.geom := by simp [thermalReport]

/-! ### fireReport -/
@[simp] theorem fireReport_fixed (r : Bool) (s : State) : (fireReport r s).fixed = s.fixed := by simp [fireReport]
@[simp] theorem fireReport_table (r : Bool) (s : State) : (fireReport r s).table = s.table := by simp [fireReport]
@[simp] theorem fireReport_lampRecords (r : Bool) (s : State) : (fireReport r s).lampRecords = s.lampRecords := by simp [fireReport]
@[simp] theorem fireReport_sources (r : Bool) (s : State) : (fireReport r s).sources = s.sources := by simp [fireReport]
@[simp] theorem fireReport_room (r : Bool) (s : State) : (fireReport r s).room = s.room := by simp [fireReport]
@[simp] theorem fireReport_medium (r : Bool) (s : State) : (fireReport r s).medium = s.medium := by simp [fireReport]
@[simp] theorem fireReport_gate (r : Bool) (s : State) : (fireReport r s).gate = s.gate := by simp [fireReport]
@[simp] theorem fireReport_geom (r : Bool) (s : State) : (fireReport r s).geom = s.geom := by simp [fireReport]

@[simp] theorem expireSlot_fixed (m : Nat) (s : State) (i : Fin 16) : (expireSlot m s i).fixed = s.fixed := by simp only [expireSlot]; (repeat' split) <;> simp
@[simp] theorem expireSlot_reports (m : Nat) (s : State) (i : Fin 16) : (expireSlot m s i).reports = s.reports := by simp only [expireSlot]; (repeat' split) <;> simp
@[simp] theorem expireSlot_table (m : Nat) (s : State) (i : Fin 16) : (expireSlot m s i).table = s.table := by simp only [expireSlot]; (repeat' split) <;> simp
@[simp] theorem expireSlot_lampRecords (m : Nat) (s : State) (i : Fin 16) : (expireSlot m s i).lampRecords = s.lampRecords := by simp only [expireSlot]; (repeat' split) <;> simp
@[simp] theorem expireSlot_sources (m : Nat) (s : State) (i : Fin 16) : (expireSlot m s i).sources = s.sources := by simp only [expireSlot]; (repeat' split) <;> simp
@[simp] theorem expireSlot_room (m : Nat) (s : State) (i : Fin 16) : (expireSlot m s i).room = s.room := by simp only [expireSlot]; (repeat' split) <;> simp
@[simp] theorem expireSlot_medium (m : Nat) (s : State) (i : Fin 16) : (expireSlot m s i).medium = s.medium := by simp only [expireSlot]; (repeat' split) <;> simp
@[simp] theorem expireSlot_gate (m : Nat) (s : State) (i : Fin 16) : (expireSlot m s i).gate = s.gate := by simp only [expireSlot]; (repeat' split) <;> simp
@[simp] theorem expireSlot_geom (m : Nat) (s : State) (i : Fin 16) : (expireSlot m s i).geom = s.geom := by simp only [expireSlot]; (repeat' split) <;> simp
@[simp] theorem expireSlot_sched (m : Nat) (s : State) (i : Fin 16) : (expireSlot m s i).sched = s.sched := by simp only [expireSlot]; (repeat' split) <;> simp
@[simp] theorem expireSlot_store (m : Nat) (s : State) (i : Fin 16) : (expireSlot m s i).store = s.store := by simp only [expireSlot]; (repeat' split) <;> simp

@[simp] theorem expireHolds_fixed (m : Nat) (s : State) : (expireHolds m s).fixed = s.fixed := by
  have h := foldl_view State.fixed (expireSlot m) (fun s i => by simp) requestedSlots s
  simp only [expireHolds]; split <;> simp [h]
@[simp] theorem expireHolds_reports (m : Nat) (s : State) : (expireHolds m s).reports = s.reports := by
  have h := foldl_view State.reports (expireSlot m) (fun s i => by simp) requestedSlots s
  simp only [expireHolds]; split <;> simp [h]
@[simp] theorem expireHolds_table (m : Nat) (s : State) : (expireHolds m s).table = s.table := by
  have h := foldl_view State.table (expireSlot m) (fun s i => by simp) requestedSlots s
  simp only [expireHolds]; split <;> simp [h]
@[simp] theorem expireHolds_lampRecords (m : Nat) (s : State) : (expireHolds m s).lampRecords = s.lampRecords := by
  have h := foldl_view State.lampRecords (expireSlot m) (fun s i => by simp) requestedSlots s
  simp only [expireHolds]; split <;> simp [h]
@[simp] theorem expireHolds_sources (m : Nat) (s : State) : (expireHolds m s).sources = s.sources := by
  have h := foldl_view State.sources (expireSlot m) (fun s i => by simp) requestedSlots s
  simp only [expireHolds]; split <;> simp [h]
@[simp] theorem expireHolds_room (m : Nat) (s : State) : (expireHolds m s).room = s.room := by
  have h := foldl_view State.room (expireSlot m) (fun s i => by simp) requestedSlots s
  simp only [expireHolds]; split <;> simp [h]
@[simp] theorem expireHolds_medium (m : Nat) (s : State) : (expireHolds m s).medium = s.medium := by
  have h := foldl_view State.medium (expireSlot m) (fun s i => by simp) requestedSlots s
  simp only [expireHolds]; split <;> simp [h]
@[simp] theorem expireHolds_gate (m : Nat) (s : State) : (expireHolds m s).gate = s.gate := by
  have h := foldl_view State.gate (expireSlot m) (fun s i => by simp) requestedSlots s
  simp only [expireHolds]; split <;> simp [h]
@[simp] theorem expireHolds_geom (m : Nat) (s : State) : (expireHolds m s).geom = s.geom := by
  have h := foldl_view State.geom (expireSlot m) (fun s i => by simp) requestedSlots s
  simp only [expireHolds]; split <;> simp [h]
@[simp] theorem expireHolds_sched (m : Nat) (s : State) : (expireHolds m s).sched = s.sched := by
  have h := foldl_view State.sched (expireSlot m) (fun s i => by simp) requestedSlots s
  simp only [expireHolds]; split <;> simp [h]
@[simp] theorem expireHolds_store (m : Nat) (s : State) : (expireHolds m s).store = s.store := by
  have h := foldl_view State.store (expireSlot m) (fun s i => by simp) requestedSlots s
  simp only [expireHolds]; split <;> simp [h]

end Sys2Proof.Machine
end

