-- ==== Sys2Proof/Laws/SourceUnit.lean ====
section
/-! SUPPORT. What the source unit's operations leave alone. -/

namespace Sys2Proof.Machine

/-! ### takeSelection -/
@[simp] theorem takeSelection_fixed (sel : Selection) (s : State) : (takeSelection sel s).fixed = s.fixed := by simp [takeSelection]
@[simp] theorem takeSelection_reports (sel : Selection) (s : State) : (takeSelection sel s).reports = s.reports := by simp [takeSelection]
@[simp] theorem takeSelection_table (sel : Selection) (s : State) : (takeSelection sel s).table = s.table := by simp [takeSelection]
@[simp] theorem takeSelection_lampRecords (sel : Selection) (s : State) : (takeSelection sel s).lampRecords = s.lampRecords := by simp [takeSelection]
@[simp] theorem takeSelection_room (sel : Selection) (s : State) : (takeSelection sel s).room = s.room := by simp [takeSelection]
@[simp] theorem takeSelection_medium (sel : Selection) (s : State) : (takeSelection sel s).medium = s.medium := by simp [takeSelection]
@[simp] theorem takeSelection_holds (sel : Selection) (s : State) : (takeSelection sel s).holds = s.holds := by simp [takeSelection]
@[simp] theorem takeSelection_gate (sel : Selection) (s : State) : (takeSelection sel s).gate = s.gate := by simp [takeSelection]
@[simp] theorem takeSelection_geom (sel : Selection) (s : State) : (takeSelection sel s).geom = s.geom := by simp [takeSelection]
@[simp] theorem takeSelection_sched (sel : Selection) (s : State) : (takeSelection sel s).sched = s.sched := by simp [takeSelection]
@[simp] theorem takeSelection_lampA (sel : Selection) (s : State) : (takeSelection sel s).lampA = s.lampA := by simp [takeSelection]
@[simp] theorem takeSelection_lampB (sel : Selection) (s : State) : (takeSelection sel s).lampB = s.lampB := by simp [takeSelection]
@[simp] theorem takeSelection_store (sel : Selection) (s : State) : (takeSelection sel s).store = s.store := by simp [takeSelection]
@[simp] theorem takeSelection_engine (sel : Selection) (s : State) : (takeSelection sel s).engine = s.engine := by simp [takeSelection]
@[simp] theorem takeSelection_notices (sel : Selection) (s : State) : (takeSelection sel s).notices = s.notices := by simp [takeSelection]

/-! ### supersede -/
@[simp] theorem supersede_fixed (s : State) : (supersede s).fixed = s.fixed := by simp only [supersede]; (repeat' split) <;> simp
@[simp] theorem supersede_reports (s : State) : (supersede s).reports = s.reports := by simp only [supersede]; (repeat' split) <;> simp
@[simp] theorem supersede_table (s : State) : (supersede s).table = s.table := by simp only [supersede]; (repeat' split) <;> simp
@[simp] theorem supersede_lampRecords (s : State) : (supersede s).lampRecords = s.lampRecords := by simp only [supersede]; (repeat' split) <;> simp
@[simp] theorem supersede_sources (s : State) : (supersede s).sources = s.sources := by simp only [supersede]; (repeat' split) <;> simp
@[simp] theorem supersede_room (s : State) : (supersede s).room = s.room := by simp only [supersede]; (repeat' split) <;> simp
@[simp] theorem supersede_medium (s : State) : (supersede s).medium = s.medium := by simp only [supersede]; (repeat' split) <;> simp
@[simp] theorem supersede_holds (s : State) : (supersede s).holds = s.holds := by simp only [supersede]; (repeat' split) <;> simp
@[simp] theorem supersede_gate (s : State) : (supersede s).gate = s.gate := by simp only [supersede]; (repeat' split) <;> simp
@[simp] theorem supersede_geom (s : State) : (supersede s).geom = s.geom := by simp only [supersede]; (repeat' split) <;> simp
@[simp] theorem supersede_sched (s : State) : (supersede s).sched = s.sched := by simp only [supersede]; (repeat' split) <;> simp
@[simp] theorem supersede_lampA (s : State) : (supersede s).lampA = s.lampA := by simp only [supersede]; (repeat' split) <;> simp
@[simp] theorem supersede_lampB (s : State) : (supersede s).lampB = s.lampB := by simp only [supersede]; (repeat' split) <;> simp
@[simp] theorem supersede_store (s : State) : (supersede s).store = s.store := by simp only [supersede]; (repeat' split) <;> simp
@[simp] theorem supersede_engine (s : State) : (supersede s).engine = s.engine := by simp only [supersede]; (repeat' split) <;> simp

/-! ### placePending -/
@[simp] theorem placePending_fixed (sel : Selection) (s : State) : (placePending sel s).fixed = s.fixed := by simp [placePending]
@[simp] theorem placePending_reports (sel : Selection) (s : State) : (placePending sel s).reports = s.reports := by simp [placePending]
@[simp] theorem placePending_table (sel : Selection) (s : State) : (placePending sel s).table = s.table := by simp [placePending]
@[simp] theorem placePending_lampRecords (sel : Selection) (s : State) : (placePending sel s).lampRecords = s.lampRecords := by simp [placePending]
@[simp] theorem placePending_room (sel : Selection) (s : State) : (placePending sel s).room = s.room := by simp [placePending]
@[simp] theorem placePending_medium (sel : Selection) (s : State) : (placePending sel s).medium = s.medium := by simp [placePending]
@[simp] theorem placePending_holds (sel : Selection) (s : State) : (placePending sel s).holds = s.holds := by simp [placePending]
@[simp] theorem placePending_gate (sel : Selection) (s : State) : (placePending sel s).gate = s.gate := by simp [placePending]
@[simp] theorem placePending_geom (sel : Selection) (s : State) : (placePending sel s).geom = s.geom := by simp [placePending]
@[simp] theorem placePending_sched (sel : Selection) (s : State) : (placePending sel s).sched = s.sched := by simp [placePending]
@[simp] theorem placePending_lampA (sel : Selection) (s : State) : (placePending sel s).lampA = s.lampA := by simp [placePending]
@[simp] theorem placePending_lampB (sel : Selection) (s : State) : (placePending sel s).lampB = s.lampB := by simp [placePending]
@[simp] theorem placePending_store (sel : Selection) (s : State) : (placePending sel s).store = s.store := by simp [placePending]
@[simp] theorem placePending_engine (sel : Selection) (s : State) : (placePending sel s).engine = s.engine := by simp [placePending]

/-! ### dealSelection -/
@[simp] theorem dealSelection_fixed (sel : Selection) (s : State) : (dealSelection sel s).fixed = s.fixed := by simp only [dealSelection]; (repeat' split) <;> simp
@[simp] theorem dealSelection_reports (sel : Selection) (s : State) : (dealSelection sel s).reports = s.reports := by simp only [dealSelection]; (repeat' split) <;> simp
@[simp] theorem dealSelection_table (sel : Selection) (s : State) : (dealSelection sel s).table = s.table := by simp only [dealSelection]; (repeat' split) <;> simp
@[simp] theorem dealSelection_lampRecords (sel : Selection) (s : State) : (dealSelection sel s).lampRecords = s.lampRecords := by simp only [dealSelection]; (repeat' split) <;> simp
@[simp] theorem dealSelection_room (sel : Selection) (s : State) : (dealSelection sel s).room = s.room := by simp only [dealSelection]; (repeat' split) <;> simp
@[simp] theorem dealSelection_medium (sel : Selection) (s : State) : (dealSelection sel s).medium = s.medium := by simp only [dealSelection]; (repeat' split) <;> simp
@[simp] theorem dealSelection_holds (sel : Selection) (s : State) : (dealSelection sel s).holds = s.holds := by simp only [dealSelection]; (repeat' split) <;> simp
@[simp] theorem dealSelection_gate (sel : Selection) (s : State) : (dealSelection sel s).gate = s.gate := by simp only [dealSelection]; (repeat' split) <;> simp
@[simp] theorem dealSelection_geom (sel : Selection) (s : State) : (dealSelection sel s).geom = s.geom := by simp only [dealSelection]; (repeat' split) <;> simp
@[simp] theorem dealSelection_sched (sel : Selection) (s : State) : (dealSelection sel s).sched = s.sched := by simp only [dealSelection]; (repeat' split) <;> simp
@[simp] theorem dealSelection_lampA (sel : Selection) (s : State) : (dealSelection sel s).lampA = s.lampA := by simp only [dealSelection]; (repeat' split) <;> simp
@[simp] theorem dealSelection_lampB (sel : Selection) (s : State) : (dealSelection sel s).lampB = s.lampB := by simp only [dealSelection]; (repeat' split) <;> simp
@[simp] theorem dealSelection_store (sel : Selection) (s : State) : (dealSelection sel s).store = s.store := by simp only [dealSelection]; (repeat' split) <;> simp
@[simp] theorem dealSelection_engine (sel : Selection) (s : State) : (dealSelection sel s).engine = s.engine := by simp only [dealSelection]; (repeat' split) <;> simp

/-! ### autoSelection -/
@[simp] theorem autoSelection_fixed (i : Input) (k : SelKind) (s : State) : (autoSelection i k s).fixed = s.fixed := by simp only [autoSelection]; (repeat' split) <;> simp
@[simp] theorem autoSelection_reports (i : Input) (k : SelKind) (s : State) : (autoSelection i k s).reports = s.reports := by simp only [autoSelection]; (repeat' split) <;> simp
@[simp] theorem autoSelection_table (i : Input) (k : SelKind) (s : State) : (autoSelection i k s).table = s.table := by simp only [autoSelection]; (repeat' split) <;> simp
@[simp] theorem autoSelection_lampRecords (i : Input) (k : SelKind) (s : State) : (autoSelection i k s).lampRecords = s.lampRecords := by simp only [autoSelection]; (repeat' split) <;> simp
@[simp] theorem autoSelection_room (i : Input) (k : SelKind) (s : State) : (autoSelection i k s).room = s.room := by simp only [autoSelection]; (repeat' split) <;> simp
@[simp] theorem autoSelection_medium (i : Input) (k : SelKind) (s : State) : (autoSelection i k s).medium = s.medium := by simp only [autoSelection]; (repeat' split) <;> simp
@[simp] theorem autoSelection_holds (i : Input) (k : SelKind) (s : State) : (autoSelection i k s).holds = s.holds := by simp only [autoSelection]; (repeat' split) <;> simp
@[simp] theorem autoSelection_gate (i : Input) (k : SelKind) (s : State) : (autoSelection i k s).gate = s.gate := by simp only [autoSelection]; (repeat' split) <;> simp
@[simp] theorem autoSelection_geom (i : Input) (k : SelKind) (s : State) : (autoSelection i k s).geom = s.geom := by simp only [autoSelection]; (repeat' split) <;> simp
@[simp] theorem autoSelection_sched (i : Input) (k : SelKind) (s : State) : (autoSelection i k s).sched = s.sched := by simp only [autoSelection]; (repeat' split) <;> simp
@[simp] theorem autoSelection_lampA (i : Input) (k : SelKind) (s : State) : (autoSelection i k s).lampA = s.lampA := by simp only [autoSelection]; (repeat' split) <;> simp
@[simp] theorem autoSelection_lampB (i : Input) (k : SelKind) (s : State) : (autoSelection i k s).lampB = s.lampB := by simp only [autoSelection]; (repeat' split) <;> simp
@[simp] theorem autoSelection_store (i : Input) (k : SelKind) (s : State) : (autoSelection i k s).store = s.store := by simp only [autoSelection]; (repeat' split) <;> simp
@[simp] theorem autoSelection_engine (i : Input) (k : SelKind) (s : State) : (autoSelection i k s).engine = s.engine := by simp only [autoSelection]; (repeat' split) <;> simp

theorem examinePending_fixed (exit : State → State) (h : ∀ s, (exit s).fixed = s.fixed) (s : State) :
    (examinePending exit s).fixed = s.fixed := by
  simp only [examinePending]; (repeat' split) <;> simp [h]
theorem examinePending_reports (exit : State → State) (h : ∀ s, (exit s).reports = s.reports) (s : State) :
    (examinePending exit s).reports = s.reports := by
  simp only [examinePending]; (repeat' split) <;> simp [h]
theorem examinePending_table (exit : State → State) (h : ∀ s, (exit s).table = s.table) (s : State) :
    (examinePending exit s).table = s.table := by
  simp only [examinePending]; (repeat' split) <;> simp [h]
theorem examinePending_lampRecords (exit : State → State) (h : ∀ s, (exit s).lampRecords = s.lampRecords) (s : State) :
    (examinePending exit s).lampRecords = s.lampRecords := by
  simp only [examinePending]; (repeat' split) <;> simp [h]
theorem examinePending_room (exit : State → State) (h : ∀ s, (exit s).room = s.room) (s : State) :
    (examinePending exit s).room = s.room := by
  simp only [examinePending]; (repeat' split) <;> simp [h]
theorem examinePending_medium (exit : State → State) (h : ∀ s, (exit s).medium = s.medium) (s : State) :
    (examinePending exit s).medium = s.medium := by
  simp only [examinePending]; (repeat' split) <;> simp [h]
theorem examinePending_holds (exit : State → State) (h : ∀ s, (exit s).holds = s.holds) (s : State) :
    (examinePending exit s).holds = s.holds := by
  simp only [examinePending]; (repeat' split) <;> simp [h]
theorem examinePending_gate (exit : State → State) (h : ∀ s, (exit s).gate = s.gate) (s : State) :
    (examinePending exit s).gate = s.gate := by
  simp only [examinePending]; (repeat' split) <;> simp [h]
theorem examinePending_geom (exit : State → State) (h : ∀ s, (exit s).geom = s.geom) (s : State) :
    (examinePending exit s).geom = s.geom := by
  simp only [examinePending]; (repeat' split) <;> simp [h]
theorem examinePending_sched (exit : State → State) (h : ∀ s, (exit s).sched = s.sched) (s : State) :
    (examinePending exit s).sched = s.sched := by
  simp only [examinePending]; (repeat' split) <;> simp [h]
theorem examinePending_lampA (exit : State → State) (h : ∀ s, (exit s).lampA = s.lampA) (s : State) :
    (examinePending exit s).lampA = s.lampA := by
  simp only [examinePending]; (repeat' split) <;> simp [h]
theorem examinePending_lampB (exit : State → State) (h : ∀ s, (exit s).lampB = s.lampB) (s : State) :
    (examinePending exit s).lampB = s.lampB := by
  simp only [examinePending]; (repeat' split) <;> simp [h]
theorem examinePending_store (exit : State → State) (h : ∀ s, (exit s).store = s.store) (s : State) :
    (examinePending exit s).store = s.store := by
  simp only [examinePending]; (repeat' split) <;> simp [h]
theorem examinePending_engine (exit : State → State) (h : ∀ s, (exit s).engine = s.engine) (s : State) :
    (examinePending exit s).engine = s.engine := by
  simp only [examinePending]; (repeat' split) <;> simp [h]

/-! ### scheduleSeesShown -/
@[simp] theorem scheduleSeesShown_fixed (s : State) : (scheduleSeesShown s).fixed = s.fixed := by simp only [scheduleSeesShown]; (repeat' split) <;> simp
@[simp] theorem scheduleSeesShown_reports (s : State) : (scheduleSeesShown s).reports = s.reports := by simp only [scheduleSeesShown]; (repeat' split) <;> simp
@[simp] theorem scheduleSeesShown_lampRecords (s : State) : (scheduleSeesShown s).lampRecords = s.lampRecords := by simp only [scheduleSeesShown]; (repeat' split) <;> simp
@[simp] theorem scheduleSeesShown_medium (s : State) : (scheduleSeesShown s).medium = s.medium := by simp only [scheduleSeesShown]; (repeat' split) <;> simp
@[simp] theorem scheduleSeesShown_holds (s : State) : (scheduleSeesShown s).holds = s.holds := by simp only [scheduleSeesShown]; (repeat' split) <;> simp
@[simp] theorem scheduleSeesShown_gate (s : State) : (scheduleSeesShown s).gate = s.gate := by simp only [scheduleSeesShown]; (repeat' split) <;> simp
@[simp] theorem scheduleSeesShown_store (s : State) : (scheduleSeesShown s).store = s.store := by simp only [scheduleSeesShown]; (repeat' split) <;> simp
@[simp] theorem scheduleSeesShown_sources (s : State) : (scheduleSeesShown s).sources = s.sources := by simp only [scheduleSeesShown]; (repeat' split) <;> simp
@[simp] theorem scheduleSeesShown_geom (s : State) : (scheduleSeesShown s).geom = s.geom := by simp only [scheduleSeesShown]; (repeat' split) <;> simp
@[simp] theorem scheduleSeesShown_engine (s : State) : (scheduleSeesShown s).engine = s.engine := by simp only [scheduleSeesShown]; (repeat' split) <;> simp

/-! ### geometrySeesShown -/
@[simp] theorem geometrySeesShown_fixed (i : Input) (s : State) : (geometrySeesShown i s).fixed = s.fixed := by simp only [geometrySeesShown]; (repeat' split) <;> simp
@[simp] theorem geometrySeesShown_reports (i : Input) (s : State) : (geometrySeesShown i s).reports = s.reports := by simp only [geometrySeesShown]; (repeat' split) <;> simp
@[simp] theorem geometrySeesShown_table (i : Input) (s : State) : (geometrySeesShown i s).table = s.table := by simp only [geometrySeesShown]; (repeat' split) <;> simp
@[simp] theorem geometrySeesShown_lampRecords (i : Input) (s : State) : (geometrySeesShown i s).lampRecords = s.lampRecords := by simp only [geometrySeesShown]; (repeat' split) <;> simp
@[simp] theorem geometrySeesShown_sources (i : Input) (s : State) : (geometrySeesShown i s).sources = s.sources := by simp only [geometrySeesShown]; (repeat' split) <;> simp
@[simp] theorem geometrySeesShown_room (i : Input) (s : State) : (geometrySeesShown i s).room = s.room := by simp only [geometrySeesShown]; (repeat' split) <;> simp
@[simp] theorem geometrySeesShown_medium (i : Input) (s : State) : (geometrySeesShown i s).medium = s.medium := by simp only [geometrySeesShown]; (repeat' split) <;> simp
@[simp] theorem geometrySeesShown_holds (i : Input) (s : State) : (geometrySeesShown i s).holds = s.holds := by simp only [geometrySeesShown]; (repeat' split) <;> simp
@[simp] theorem geometrySeesShown_gate (i : Input) (s : State) : (geometrySeesShown i s).gate = s.gate := by simp only [geometrySeesShown]; (repeat' split) <;> simp
@[simp] theorem geometrySeesShown_sched (i : Input) (s : State) : (geometrySeesShown i s).sched = s.sched := by simp only [geometrySeesShown]; (repeat' split) <;> simp
@[simp] theorem geometrySeesShown_notices (i : Input) (s : State) : (geometrySeesShown i s).notices = s.notices := by simp only [geometrySeesShown]; (repeat' split) <;> simp
@[simp] theorem geometrySeesShown_lampA (i : Input) (s : State) : (geometrySeesShown i s).lampA = s.lampA := by simp only [geometrySeesShown]; (repeat' split) <;> simp
@[simp] theorem geometrySeesShown_lampB (i : Input) (s : State) : (geometrySeesShown i s).lampB = s.lampB := by simp only [geometrySeesShown]; (repeat' split) <;> simp
@[simp] theorem geometrySeesShown_store (i : Input) (s : State) : (geometrySeesShown i s).store = s.store := by simp only [geometrySeesShown]; (repeat' split) <;> simp

/-! ### enterShown -/
@[simp] theorem enterShown_fixed (s : State) : (enterShown s).fixed = s.fixed := by simp only [enterShown]; (repeat' split) <;> simp
@[simp] theorem enterShown_reports (s : State) : (enterShown s).reports = s.reports := by simp only [enterShown]; (repeat' split) <;> simp
@[simp] theorem enterShown_lampRecords (s : State) : (enterShown s).lampRecords = s.lampRecords := by simp only [enterShown]; (repeat' split) <;> simp
@[simp] theorem enterShown_medium (s : State) : (enterShown s).medium = s.medium := by simp only [enterShown]; (repeat' split) <;> simp
@[simp] theorem enterShown_holds (s : State) : (enterShown s).holds = s.holds := by simp only [enterShown]; (repeat' split) <;> simp
@[simp] theorem enterShown_gate (s : State) : (enterShown s).gate = s.gate := by simp only [enterShown]; (repeat' split) <;> simp
@[simp] theorem enterShown_store (s : State) : (enterShown s).store = s.store := by simp only [enterShown]; (repeat' split) <;> simp

/-! ### enterNoSignal -/
@[simp] theorem enterNoSignal_fixed (s : State) : (enterNoSignal s).fixed = s.fixed := by simp [enterNoSignal]
@[simp] theorem enterNoSignal_reports (s : State) : (enterNoSignal s).reports = s.reports := by simp [enterNoSignal]
@[simp] theorem enterNoSignal_table (s : State) : (enterNoSignal s).table = s.table := by simp [enterNoSignal]
@[simp] theorem enterNoSignal_lampRecords (s : State) : (enterNoSignal s).lampRecords = s.lampRecords := by simp [enterNoSignal]
@[simp] theorem enterNoSignal_room (s : State) : (enterNoSignal s).room = s.room := by simp [enterNoSignal]
@[simp] theorem enterNoSignal_medium (s : State) : (enterNoSignal s).medium = s.medium := by simp [enterNoSignal]
@[simp] theorem enterNoSignal_holds (s : State) : (enterNoSignal s).holds = s.holds := by simp [enterNoSignal]
@[simp] theorem enterNoSignal_gate (s : State) : (enterNoSignal s).gate = s.gate := by simp [enterNoSignal]
@[simp] theorem enterNoSignal_geom (s : State) : (enterNoSignal s).geom = s.geom := by simp [enterNoSignal]
@[simp] theorem enterNoSignal_sched (s : State) : (enterNoSignal s).sched = s.sched := by simp [enterNoSignal]
@[simp] theorem enterNoSignal_lampA (s : State) : (enterNoSignal s).lampA = s.lampA := by simp [enterNoSignal]
@[simp] theorem enterNoSignal_lampB (s : State) : (enterNoSignal s).lampB = s.lampB := by simp [enterNoSignal]
@[simp] theorem enterNoSignal_store (s : State) : (enterNoSignal s).store = s.store := by simp [enterNoSignal]
@[simp] theorem enterNoSignal_engine (s : State) : (enterNoSignal s).engine = s.engine := by simp [enterNoSignal]

@[simp] theorem stableReport_fixed (s : State) : (stableReport s).fixed = s.fixed := by
  simp only [stableReport]; split <;> simp [examinePending_fixed]
@[simp] theorem stableReport_reports (s : State) : (stableReport s).reports = s.reports := by
  simp only [stableReport]; split <;> simp [examinePending_reports]
@[simp] theorem stableReport_lampRecords (s : State) : (stableReport s).lampRecords = s.lampRecords := by
  simp only [stableReport]; split <;> simp [examinePending_lampRecords]
@[simp] theorem stableReport_medium (s : State) : (stableReport s).medium = s.medium := by
  simp only [stableReport]; split <;> simp [examinePending_medium]
@[simp] theorem stableReport_holds (s : State) : (stableReport s).holds = s.holds := by
  simp only [stableReport]; split <;> simp [examinePending_holds]
@[simp] theorem stableReport_gate (s : State) : (stableReport s).gate = s.gate := by
  simp only [stableReport]; split <;> simp [examinePending_gate]
@[simp] theorem stableReport_store (s : State) : (stableReport s).store = s.store := by
  simp only [stableReport]; split <;> simp [examinePending_store]

/-! ### lostReport -/
@[simp] theorem lostReport_fixed (s : State) : (lostReport s).fixed = s.fixed := by simp only [lostReport]; (repeat' split) <;> simp
@[simp] theorem lostReport_reports (s : State) : (lostReport s).reports = s.reports := by simp only [lostReport]; (repeat' split) <;> simp
@[simp] theorem lostReport_table (s : State) : (lostReport s).table = s.table := by simp only [lostReport]; (repeat' split) <;> simp
@[simp] theorem lostReport_lampRecords (s : State) : (lostReport s).lampRecords = s.lampRecords := by simp only [lostReport]; (repeat' split) <;> simp
@[simp] theorem lostReport_room (s : State) : (lostReport s).room = s.room := by simp only [lostReport]; (repeat' split) <;> simp
@[simp] theorem lostReport_medium (s : State) : (lostReport s).medium = s.medium := by simp only [lostReport]; (repeat' split) <;> simp
@[simp] theorem lostReport_holds (s : State) : (lostReport s).holds = s.holds := by simp only [lostReport]; (repeat' split) <;> simp
@[simp] theorem lostReport_gate (s : State) : (lostReport s).gate = s.gate := by simp only [lostReport]; (repeat' split) <;> simp
@[simp] theorem lostReport_geom (s : State) : (lostReport s).geom = s.geom := by simp only [lostReport]; (repeat' split) <;> simp
@[simp] theorem lostReport_sched (s : State) : (lostReport s).sched = s.sched := by simp only [lostReport]; (repeat' split) <;> simp
@[simp] theorem lostReport_lampA (s : State) : (lostReport s).lampA = s.lampA := by simp only [lostReport]; (repeat' split) <;> simp
@[simp] theorem lostReport_lampB (s : State) : (lostReport s).lampB = s.lampB := by simp only [lostReport]; (repeat' split) <;> simp
@[simp] theorem lostReport_store (s : State) : (lostReport s).store = s.store := by simp only [lostReport]; (repeat' split) <;> simp
@[simp] theorem lostReport_engine (s : State) : (lostReport s).engine = s.engine := by simp only [lostReport]; (repeat' split) <;> simp

/-! ### enterSettling -/
@[simp] theorem enterSettling_fixed (s : State) : (enterSettling s).fixed = s.fixed := by simp [enterSettling]
@[simp] theorem enterSettling_reports (s : State) : (enterSettling s).reports = s.reports := by simp [enterSettling]
@[simp] theorem enterSettling_table (s : State) : (enterSettling s).table = s.table := by simp [enterSettling]
@[simp] theorem enterSettling_lampRecords (s : State) : (enterSettling s).lampRecords = s.lampRecords := by simp [enterSettling]
@[simp] theorem enterSettling_room (s : State) : (enterSettling s).room = s.room := by simp [enterSettling]
@[simp] theorem enterSettling_medium (s : State) : (enterSettling s).medium = s.medium := by simp [enterSettling]
@[simp] theorem enterSettling_holds (s : State) : (enterSettling s).holds = s.holds := by simp [enterSettling]
@[simp] theorem enterSettling_gate (s : State) : (enterSettling s).gate = s.gate := by simp [enterSettling]
@[simp] theorem enterSettling_geom (s : State) : (enterSettling s).geom = s.geom := by simp [enterSettling]
@[simp] theorem enterSettling_sched (s : State) : (enterSettling s).sched = s.sched := by simp [enterSettling]
@[simp] theorem enterSettling_lampA (s : State) : (enterSettling s).lampA = s.lampA := by simp [enterSettling]
@[simp] theorem enterSettling_lampB (s : State) : (enterSettling s).lampB = s.lampB := by simp [enterSettling]
@[simp] theorem enterSettling_store (s : State) : (enterSettling s).store = s.store := by simp [enterSettling]
@[simp] theorem enterSettling_engine (s : State) : (enterSettling s).engine = s.engine := by simp [enterSettling]
@[simp] theorem enterSettling_notices (s : State) : (enterSettling s).notices = s.notices := by simp [enterSettling]

@[simp] theorem takeAckTaken_fixed (i : Input) (s : State) : (takeAckTaken i s).fixed = s.fixed := by
  simp only [takeAckTaken]; split <;> simp [examinePending_fixed]
@[simp] theorem takeAckTaken_reports (i : Input) (s : State) : (takeAckTaken i s).reports = s.reports := by
  simp only [takeAckTaken]; split <;> simp [examinePending_reports]
@[simp] theorem takeAckTaken_table (i : Input) (s : State) : (takeAckTaken i s).table = s.table := by
  simp only [takeAckTaken]; split <;> simp [examinePending_table]
@[simp] theorem takeAckTaken_lampRecords (i : Input) (s : State) : (takeAckTaken i s).lampRecords = s.lampRecords := by
  simp only [takeAckTaken]; split <;> simp [examinePending_lampRecords]
@[simp] theorem takeAckTaken_room (i : Input) (s : State) : (takeAckTaken i s).room = s.room := by
  simp only [takeAckTaken]; split <;> simp [examinePending_room]
@[simp] theorem takeAckTaken_medium (i : Input) (s : State) : (takeAckTaken i s).medium = s.medium := by
  simp only [takeAckTaken]; split <;> simp [examinePending_medium]
@[simp] theorem takeAckTaken_holds (i : Input) (s : State) : (takeAckTaken i s).holds = s.holds := by
  simp only [takeAckTaken]; split <;> simp [examinePending_holds]
@[simp] theorem takeAckTaken_gate (i : Input) (s : State) : (takeAckTaken i s).gate = s.gate := by
  simp only [takeAckTaken]; split <;> simp [examinePending_gate]
@[simp] theorem takeAckTaken_geom (i : Input) (s : State) : (takeAckTaken i s).geom = s.geom := by
  simp only [takeAckTaken]; split <;> simp [examinePending_geom]
@[simp] theorem takeAckTaken_sched (i : Input) (s : State) : (takeAckTaken i s).sched = s.sched := by
  simp only [takeAckTaken]; split <;> simp [examinePending_sched]
@[simp] theorem takeAckTaken_lampA (i : Input) (s : State) : (takeAckTaken i s).lampA = s.lampA := by
  simp only [takeAckTaken]; split <;> simp [examinePending_lampA]
@[simp] theorem takeAckTaken_lampB (i : Input) (s : State) : (takeAckTaken i s).lampB = s.lampB := by
  simp only [takeAckTaken]; split <;> simp [examinePending_lampB]
@[simp] theorem takeAckTaken_store (i : Input) (s : State) : (takeAckTaken i s).store = s.store := by
  simp only [takeAckTaken]; split <;> simp [examinePending_store]
@[simp] theorem takeAckTaken_engine (i : Input) (s : State) : (takeAckTaken i s).engine = s.engine := by
  simp only [takeAckTaken]; split <;> simp [examinePending_engine]

/-! ### takeTimesOut -/
@[simp] theorem takeTimesOut_fixed (s : State) : (takeTimesOut s).fixed = s.fixed := by simp [takeTimesOut]
@[simp] theorem takeTimesOut_reports (s : State) : (takeTimesOut s).reports = s.reports := by simp [takeTimesOut]
@[simp] theorem takeTimesOut_table (s : State) : (takeTimesOut s).table = s.table := by simp [takeTimesOut]
@[simp] theorem takeTimesOut_lampRecords (s : State) : (takeTimesOut s).lampRecords = s.lampRecords := by simp [takeTimesOut]
@[simp] theorem takeTimesOut_room (s : State) : (takeTimesOut s).room = s.room := by simp [takeTimesOut]
@[simp] theorem takeTimesOut_medium (s : State) : (takeTimesOut s).medium = s.medium := by simp [takeTimesOut]
@[simp] theorem takeTimesOut_holds (s : State) : (takeTimesOut s).holds = s.holds := by simp [takeTimesOut]
@[simp] theorem takeTimesOut_gate (s : State) : (takeTimesOut s).gate = s.gate := by simp [takeTimesOut]
@[simp] theorem takeTimesOut_geom (s : State) : (takeTimesOut s).geom = s.geom := by simp [takeTimesOut]
@[simp] theorem takeTimesOut_sched (s : State) : (takeTimesOut s).sched = s.sched := by simp [takeTimesOut]
@[simp] theorem takeTimesOut_lampA (s : State) : (takeTimesOut s).lampA = s.lampA := by simp [takeTimesOut]
@[simp] theorem takeTimesOut_lampB (s : State) : (takeTimesOut s).lampB = s.lampB := by simp [takeTimesOut]
@[simp] theorem takeTimesOut_store (s : State) : (takeTimesOut s).store = s.store := by simp [takeTimesOut]
@[simp] theorem takeTimesOut_engine (s : State) : (takeTimesOut s).engine = s.engine := by simp [takeTimesOut]

@[simp] theorem settleTimesOut_fixed (s : State) : (settleTimesOut s).fixed = s.fixed := by
  simp [settleTimesOut, examinePending_fixed]
@[simp] theorem settleTimesOut_reports (s : State) : (settleTimesOut s).reports = s.reports := by
  simp [settleTimesOut, examinePending_reports]
@[simp] theorem settleTimesOut_table (s : State) : (settleTimesOut s).table = s.table := by
  simp [settleTimesOut, examinePending_table]
@[simp] theorem settleTimesOut_lampRecords (s : State) : (settleTimesOut s).lampRecords = s.lampRecords := by
  simp [settleTimesOut, examinePending_lampRecords]
@[simp] theorem settleTimesOut_room (s : State) : (settleTimesOut s).room = s.room := by
  simp [settleTimesOut, examinePending_room]
@[simp] theorem settleTimesOut_medium (s : State) : (settleTimesOut s).medium = s.medium := by
  simp [settleTimesOut, examinePending_medium]
@[simp] theorem settleTimesOut_holds (s : State) : (settleTimesOut s).holds = s.holds := by
  simp [settleTimesOut, examinePending_holds]
@[simp] theorem settleTimesOut_gate (s : State) : (settleTimesOut s).gate = s.gate := by
  simp [settleTimesOut, examinePending_gate]
@[simp] theorem settleTimesOut_geom (s : State) : (settleTimesOut s).geom = s.geom := by
  simp [settleTimesOut, examinePending_geom]
@[simp] theorem settleTimesOut_sched (s : State) : (settleTimesOut s).sched = s.sched := by
  simp [settleTimesOut, examinePending_sched]
@[simp] theorem settleTimesOut_lampA (s : State) : (settleTimesOut s).lampA = s.lampA := by
  simp [settleTimesOut, examinePending_lampA]
@[simp] theorem settleTimesOut_lampB (s : State) : (settleTimesOut s).lampB = s.lampB := by
  simp [settleTimesOut, examinePending_lampB]
@[simp] theorem settleTimesOut_store (s : State) : (settleTimesOut s).store = s.store := by
  simp [settleTimesOut, examinePending_store]
@[simp] theorem settleTimesOut_engine (s : State) : (settleTimesOut s).engine = s.engine := by
  simp [settleTimesOut, examinePending_engine]

/-! ### graceRanOut -/
@[simp] theorem graceRanOut_fixed (s : State) : (graceRanOut s).fixed = s.fixed := by simp only [graceRanOut]; (repeat' split) <;> simp
@[simp] theorem graceRanOut_reports (s : State) : (graceRanOut s).reports = s.reports := by simp only [graceRanOut]; (repeat' split) <;> simp
@[simp] theorem graceRanOut_table (s : State) : (graceRanOut s).table = s.table := by simp only [graceRanOut]; (repeat' split) <;> simp
@[simp] theorem graceRanOut_lampRecords (s : State) : (graceRanOut s).lampRecords = s.lampRecords := by simp only [graceRanOut]; (repeat' split) <;> simp
@[simp] theorem graceRanOut_room (s : State) : (graceRanOut s).room = s.room := by simp only [graceRanOut]; (repeat' split) <;> simp
@[simp] theorem graceRanOut_medium (s : State) : (graceRanOut s).medium = s.medium := by simp only [graceRanOut]; (repeat' split) <;> simp
@[simp] theorem graceRanOut_holds (s : State) : (graceRanOut s).holds = s.holds := by simp only [graceRanOut]; (repeat' split) <;> simp
@[simp] theorem graceRanOut_gate (s : State) : (graceRanOut s).gate = s.gate := by simp only [graceRanOut]; (repeat' split) <;> simp
@[simp] theorem graceRanOut_geom (s : State) : (graceRanOut s).geom = s.geom := by simp only [graceRanOut]; (repeat' split) <;> simp
@[simp] theorem graceRanOut_sched (s : State) : (graceRanOut s).sched = s.sched := by simp only [graceRanOut]; (repeat' split) <;> simp
@[simp] theorem graceRanOut_lampA (s : State) : (graceRanOut s).lampA = s.lampA := by simp only [graceRanOut]; (repeat' split) <;> simp
@[simp] theorem graceRanOut_lampB (s : State) : (graceRanOut s).lampB = s.lampB := by simp only [graceRanOut]; (repeat' split) <;> simp
@[simp] theorem graceRanOut_store (s : State) : (graceRanOut s).store = s.store := by simp only [graceRanOut]; (repeat' split) <;> simp
@[simp] theorem graceRanOut_engine (s : State) : (graceRanOut s).engine = s.engine := by simp only [graceRanOut]; (repeat' split) <;> simp

/-! ### sourceSecond -/
@[simp] theorem sourceSecond_fixed (s : State) : (sourceSecond s).fixed = s.fixed := by simp only [sourceSecond]; (repeat' split) <;> simp
@[simp] theorem sourceSecond_reports (s : State) : (sourceSecond s).reports = s.reports := by simp only [sourceSecond]; (repeat' split) <;> simp
@[simp] theorem sourceSecond_table (s : State) : (sourceSecond s).table = s.table := by simp only [sourceSecond]; (repeat' split) <;> simp
@[simp] theorem sourceSecond_lampRecords (s : State) : (sourceSecond s).lampRecords = s.lampRecords := by simp only [sourceSecond]; (repeat' split) <;> simp
@[simp] theorem sourceSecond_room (s : State) : (sourceSecond s).room = s.room := by simp only [sourceSecond]; (repeat' split) <;> simp
@[simp] theorem sourceSecond_medium (s : State) : (sourceSecond s).medium = s.medium := by simp only [sourceSecond]; (repeat' split) <;> simp
@[simp] theorem sourceSecond_holds (s : State) : (sourceSecond s).holds = s.holds := by simp only [sourceSecond]; (repeat' split) <;> simp
@[simp] theorem sourceSecond_gate (s : State) : (sourceSecond s).gate = s.gate := by simp only [sourceSecond]; (repeat' split) <;> simp
@[simp] theorem sourceSecond_geom (s : State) : (sourceSecond s).geom = s.geom := by simp only [sourceSecond]; (repeat' split) <;> simp
@[simp] theorem sourceSecond_sched (s : State) : (sourceSecond s).sched = s.sched := by simp only [sourceSecond]; (repeat' split) <;> simp
@[simp] theorem sourceSecond_lampA (s : State) : (sourceSecond s).lampA = s.lampA := by simp only [sourceSecond]; (repeat' split) <;> simp
@[simp] theorem sourceSecond_lampB (s : State) : (sourceSecond s).lampB = s.lampB := by simp only [sourceSecond]; (repeat' split) <;> simp
@[simp] theorem sourceSecond_store (s : State) : (sourceSecond s).store = s.store := by simp only [sourceSecond]; (repeat' split) <;> simp
@[simp] theorem sourceSecond_engine (s : State) : (sourceSecond s).engine = s.engine := by simp only [sourceSecond]; (repeat' split) <;> simp

/-! ### presenceTaken -/
@[simp] theorem presenceTaken_fixed (set : InputSet) (s : State) : (presenceTaken set s).fixed = s.fixed := by simp only [presenceTaken]; (repeat' split) <;> simp
@[simp] theorem presenceTaken_reports (set : InputSet) (s : State) : (presenceTaken set s).reports = s.reports := by simp only [presenceTaken]; (repeat' split) <;> simp
@[simp] theorem presenceTaken_table (set : InputSet) (s : State) : (presenceTaken set s).table = s.table := by simp only [presenceTaken]; (repeat' split) <;> simp
@[simp] theorem presenceTaken_lampRecords (set : InputSet) (s : State) : (presenceTaken set s).lampRecords = s.lampRecords := by simp only [presenceTaken]; (repeat' split) <;> simp
@[simp] theorem presenceTaken_room (set : InputSet) (s : State) : (presenceTaken set s).room = s.room := by simp only [presenceTaken]; (repeat' split) <;> simp
@[simp] theorem presenceTaken_medium (set : InputSet) (s : State) : (presenceTaken set s).medium = s.medium := by simp only [presenceTaken]; (repeat' split) <;> simp
@[simp] theorem presenceTaken_holds (set : InputSet) (s : State) : (presenceTaken set s).holds = s.holds := by simp only [presenceTaken]; (repeat' split) <;> simp
@[simp] theorem presenceTaken_gate (set : InputSet) (s : State) : (presenceTaken set s).gate = s.gate := by simp only [presenceTaken]; (repeat' split) <;> simp
@[simp] theorem presenceTaken_geom (set : InputSet) (s : State) : (presenceTaken set s).geom = s.geom := by simp only [presenceTaken]; (repeat' split) <;> simp
@[simp] theorem presenceTaken_sched (set : InputSet) (s : State) : (presenceTaken set s).sched = s.sched := by simp only [presenceTaken]; (repeat' split) <;> simp
@[simp] theorem presenceTaken_lampA (set : InputSet) (s : State) : (presenceTaken set s).lampA = s.lampA := by simp only [presenceTaken]; (repeat' split) <;> simp
@[simp] theorem presenceTaken_lampB (set : InputSet) (s : State) : (presenceTaken set s).lampB = s.lampB := by simp only [presenceTaken]; (repeat' split) <;> simp
@[simp] theorem presenceTaken_store (set : InputSet) (s : State) : (presenceTaken set s).store = s.store := by simp only [presenceTaken]; (repeat' split) <;> simp
@[simp] theorem presenceTaken_engine (set : InputSet) (s : State) : (presenceTaken set s).engine = s.engine := by simp only [presenceTaken]; (repeat' split) <;> simp

/-! ### lockMeter -/
@[simp] theorem lockMeter_fixed (s : State) : (lockMeter s).fixed = s.fixed := by simp [lockMeter]
@[simp] theorem lockMeter_reports (s : State) : (lockMeter s).reports = s.reports := by simp [lockMeter]
@[simp] theorem lockMeter_lampRecords (s : State) : (lockMeter s).lampRecords = s.lampRecords := by simp [lockMeter]
@[simp] theorem lockMeter_medium (s : State) : (lockMeter s).medium = s.medium := by simp [lockMeter]
@[simp] theorem lockMeter_holds (s : State) : (lockMeter s).holds = s.holds := by simp [lockMeter]
@[simp] theorem lockMeter_gate (s : State) : (lockMeter s).gate = s.gate := by simp [lockMeter]
@[simp] theorem lockMeter_store (s : State) : (lockMeter s).store = s.store := by simp [lockMeter]

/-! ### meterLoss -/
@[simp] theorem meterLoss_fixed (m : Meter) (s : State) : (meterLoss m s).fixed = s.fixed := by simp only [meterLoss]; (repeat' split) <;> simp
@[simp] theorem meterLoss_reports (m : Meter) (s : State) : (meterLoss m s).reports = s.reports := by simp only [meterLoss]; (repeat' split) <;> simp
@[simp] theorem meterLoss_table (m : Meter) (s : State) : (meterLoss m s).table = s.table := by simp only [meterLoss]; (repeat' split) <;> simp
@[simp] theorem meterLoss_lampRecords (m : Meter) (s : State) : (meterLoss m s).lampRecords = s.lampRecords := by simp only [meterLoss]; (repeat' split) <;> simp
@[simp] theorem meterLoss_room (m : Meter) (s : State) : (meterLoss m s).room = s.room := by simp only [meterLoss]; (repeat' split) <;> simp
@[simp] theorem meterLoss_medium (m : Meter) (s : State) : (meterLoss m s).medium = s.medium := by simp only [meterLoss]; (repeat' split) <;> simp
@[simp] theorem meterLoss_holds (m : Meter) (s : State) : (meterLoss m s).holds = s.holds := by simp only [meterLoss]; (repeat' split) <;> simp
@[simp] theorem meterLoss_gate (m : Meter) (s : State) : (meterLoss m s).gate = s.gate := by simp only [meterLoss]; (repeat' split) <;> simp
@[simp] theorem meterLoss_geom (m : Meter) (s : State) : (meterLoss m s).geom = s.geom := by simp only [meterLoss]; (repeat' split) <;> simp
@[simp] theorem meterLoss_sched (m : Meter) (s : State) : (meterLoss m s).sched = s.sched := by simp only [meterLoss]; (repeat' split) <;> simp
@[simp] theorem meterLoss_lampA (m : Meter) (s : State) : (meterLoss m s).lampA = s.lampA := by simp only [meterLoss]; (repeat' split) <;> simp
@[simp] theorem meterLoss_lampB (m : Meter) (s : State) : (meterLoss m s).lampB = s.lampB := by simp only [meterLoss]; (repeat' split) <;> simp
@[simp] theorem meterLoss_store (m : Meter) (s : State) : (meterLoss m s).store = s.store := by simp only [meterLoss]; (repeat' split) <;> simp
@[simp] theorem meterLoss_engine (m : Meter) (s : State) : (meterLoss m s).engine = s.engine := by simp only [meterLoss]; (repeat' split) <;> simp

/-! ### stableTest -/
@[simp] theorem stableTest_fixed (s : State) : (stableTest s).fixed = s.fixed := by simp only [stableTest]; (repeat' split) <;> simp
@[simp] theorem stableTest_reports (s : State) : (stableTest s).reports = s.reports := by simp only [stableTest]; (repeat' split) <;> simp
@[simp] theorem stableTest_lampRecords (s : State) : (stableTest s).lampRecords = s.lampRecords := by simp only [stableTest]; (repeat' split) <;> simp
@[simp] theorem stableTest_medium (s : State) : (stableTest s).medium = s.medium := by simp only [stableTest]; (repeat' split) <;> simp
@[simp] theorem stableTest_holds (s : State) : (stableTest s).holds = s.holds := by simp only [stableTest]; (repeat' split) <;> simp
@[simp] theorem stableTest_gate (s : State) : (stableTest s).gate = s.gate := by simp only [stableTest]; (repeat' split) <;> simp
@[simp] theorem stableTest_store (s : State) : (stableTest s).store = s.store := by simp only [stableTest]; (repeat' split) <;> simp

/-! ### frameEdgeTaken -/
@[simp] theorem frameEdgeTaken_fixed (t : Nat) (s : State) : (frameEdgeTaken t s).fixed = s.fixed := by simp only [frameEdgeTaken]; (repeat' split) <;> simp
@[simp] theorem frameEdgeTaken_reports (t : Nat) (s : State) : (frameEdgeTaken t s).reports = s.reports := by simp only [frameEdgeTaken]; (repeat' split) <;> simp
@[simp] theorem frameEdgeTaken_lampRecords (t : Nat) (s : State) : (frameEdgeTaken t s).lampRecords = s.lampRecords := by simp only [frameEdgeTaken]; (repeat' split) <;> simp
@[simp] theorem frameEdgeTaken_medium (t : Nat) (s : State) : (frameEdgeTaken t s).medium = s.medium := by simp only [frameEdgeTaken]; (repeat' split) <;> simp
@[simp] theorem frameEdgeTaken_holds (t : Nat) (s : State) : (frameEdgeTaken t s).holds = s.holds := by simp only [frameEdgeTaken]; (repeat' split) <;> simp
@[simp] theorem frameEdgeTaken_gate (t : Nat) (s : State) : (frameEdgeTaken t s).gate = s.gate := by simp only [frameEdgeTaken]; (repeat' split) <;> simp
@[simp] theorem frameEdgeTaken_store (t : Nat) (s : State) : (frameEdgeTaken t s).store = s.store := by simp only [frameEdgeTaken]; (repeat' split) <;> simp

/-! ### lineEdgeTaken -/
@[simp] theorem lineEdgeTaken_fixed (s : State) : (lineEdgeTaken s).fixed = s.fixed := by simp only [lineEdgeTaken]; (repeat' split) <;> simp
@[simp] theorem lineEdgeTaken_reports (s : State) : (lineEdgeTaken s).reports = s.reports := by simp only [lineEdgeTaken]; (repeat' split) <;> simp
@[simp] theorem lineEdgeTaken_table (s : State) : (lineEdgeTaken s).table = s.table := by simp only [lineEdgeTaken]; (repeat' split) <;> simp
@[simp] theorem lineEdgeTaken_lampRecords (s : State) : (lineEdgeTaken s).lampRecords = s.lampRecords := by simp only [lineEdgeTaken]; (repeat' split) <;> simp
@[simp] theorem lineEdgeTaken_room (s : State) : (lineEdgeTaken s).room = s.room := by simp only [lineEdgeTaken]; (repeat' split) <;> simp
@[simp] theorem lineEdgeTaken_medium (s : State) : (lineEdgeTaken s).medium = s.medium := by simp only [lineEdgeTaken]; (repeat' split) <;> simp
@[simp] theorem lineEdgeTaken_holds (s : State) : (lineEdgeTaken s).holds = s.holds := by simp only [lineEdgeTaken]; (repeat' split) <;> simp
@[simp] theorem lineEdgeTaken_gate (s : State) : (lineEdgeTaken s).gate = s.gate := by simp only [lineEdgeTaken]; (repeat' split) <;> simp
@[simp] theorem lineEdgeTaken_geom (s : State) : (lineEdgeTaken s).geom = s.geom := by simp only [lineEdgeTaken]; (repeat' split) <;> simp
@[simp] theorem lineEdgeTaken_sched (s : State) : (lineEdgeTaken s).sched = s.sched := by simp only [lineEdgeTaken]; (repeat' split) <;> simp
@[simp] theorem lineEdgeTaken_lampA (s : State) : (lineEdgeTaken s).lampA = s.lampA := by simp only [lineEdgeTaken]; (repeat' split) <;> simp
@[simp] theorem lineEdgeTaken_lampB (s : State) : (lineEdgeTaken s).lampB = s.lampB := by simp only [lineEdgeTaken]; (repeat' split) <;> simp
@[simp] theorem lineEdgeTaken_store (s : State) : (lineEdgeTaken s).store = s.store := by simp only [lineEdgeTaken]; (repeat' split) <;> simp
@[simp] theorem lineEdgeTaken_engine (s : State) : (lineEdgeTaken s).engine = s.engine := by simp only [lineEdgeTaken]; (repeat' split) <;> simp
@[simp] theorem lineEdgeTaken_notices (s : State) : (lineEdgeTaken s).notices = s.notices := by simp only [lineEdgeTaken]; (repeat' split) <;> simp

/-! ### lossTimesOut -/
@[simp] theorem lossTimesOut_fixed (s : State) : (lossTimesOut s).fixed = s.fixed := by simp [lossTimesOut]
@[simp] theorem lossTimesOut_reports (s : State) : (lossTimesOut s).reports = s.reports := by simp [lossTimesOut]
@[simp] theorem lossTimesOut_table (s : State) : (lossTimesOut s).table = s.table := by simp [lossTimesOut]
@[simp] theorem lossTimesOut_lampRecords (s : State) : (lossTimesOut s).lampRecords = s.lampRecords := by simp [lossTimesOut]
@[simp] theorem lossTimesOut_room (s : State) : (lossTimesOut s).room = s.room := by simp [lossTimesOut]
@[simp] theorem lossTimesOut_medium (s : State) : (lossTimesOut s).medium = s.medium := by simp [lossTimesOut]
@[simp] theorem lossTimesOut_holds (s : State) : (lossTimesOut s).holds = s.holds := by simp [lossTimesOut]
@[simp] theorem lossTimesOut_gate (s : State) : (lossTimesOut s).gate = s.gate := by simp [lossTimesOut]
@[simp] theorem lossTimesOut_geom (s : State) : (lossTimesOut s).geom = s.geom := by simp [lossTimesOut]
@[simp] theorem lossTimesOut_sched (s : State) : (lossTimesOut s).sched = s.sched := by simp [lossTimesOut]
@[simp] theorem lossTimesOut_lampA (s : State) : (lossTimesOut s).lampA = s.lampA := by simp [lossTimesOut]
@[simp] theorem lossTimesOut_lampB (s : State) : (lossTimesOut s).lampB = s.lampB := by simp [lossTimesOut]
@[simp] theorem lossTimesOut_store (s : State) : (lossTimesOut s).store = s.store := by simp [lossTimesOut]
@[simp] theorem lossTimesOut_engine (s : State) : (lossTimesOut s).engine = s.engine := by simp [lossTimesOut]

end Sys2Proof.Machine
end

