-- ==== Sys2Proof/Laws/ScheduleUnit.lean ====
section
/-! SUPPORT. What the schedule unit's operations leave alone. -/

namespace Sys2Proof.Machine

/-- A gate put back with the same shutter state, and a mute of its own, leaves the shutter state. -/
@[simp] theorem State.setGate_shutter (s : State) (m : Bool) :
    (s.setGate { s.gate with mute := m }).gate.shutterOpen = s.gate.shutterOpen := rfl

/-! ### sessionOff -/
@[simp] theorem sessionOff_fixed (s : State) : (sessionOff s).fixed = s.fixed := by simp [sessionOff]
@[simp] theorem sessionOff_reports (s : State) : (sessionOff s).reports = s.reports := by simp [sessionOff]
@[simp] theorem sessionOff_table (s : State) : (sessionOff s).table = s.table := by simp [sessionOff]
@[simp] theorem sessionOff_lampRecords (s : State) : (sessionOff s).lampRecords = s.lampRecords := by simp [sessionOff]
@[simp] theorem sessionOff_sources (s : State) : (sessionOff s).sources = s.sources := by simp [sessionOff]
@[simp] theorem sessionOff_medium (s : State) : (sessionOff s).medium = s.medium := by simp [sessionOff]
@[simp] theorem sessionOff_holds (s : State) : (sessionOff s).holds = s.holds := by simp [sessionOff]
@[simp] theorem sessionOff_lampA (s : State) : (sessionOff s).lampA = s.lampA := by simp [sessionOff]
@[simp] theorem sessionOff_lampB (s : State) : (sessionOff s).lampB = s.lampB := by simp [sessionOff]
@[simp] theorem sessionOff_store (s : State) : (sessionOff s).store = s.store := by simp [sessionOff]
@[simp] theorem sessionOff_engine (s : State) : (sessionOff s).engine = s.engine := by simp [sessionOff]
@[simp] theorem sessionOff_notices (s : State) : (sessionOff s).notices = s.notices := by simp [sessionOff]

/-! ### endSession -/
@[simp] theorem endSession_fixed (s : State) : (endSession s).fixed = s.fixed := by simp [endSession]
@[simp] theorem endSession_reports (s : State) : (endSession s).reports = s.reports := by simp [endSession]
@[simp] theorem endSession_table (s : State) : (endSession s).table = s.table := by simp [endSession]
@[simp] theorem endSession_lampRecords (s : State) : (endSession s).lampRecords = s.lampRecords := by simp [endSession]
@[simp] theorem endSession_sources (s : State) : (endSession s).sources = s.sources := by simp [endSession]
@[simp] theorem endSession_medium (s : State) : (endSession s).medium = s.medium := by simp [endSession]
@[simp] theorem endSession_holds (s : State) : (endSession s).holds = s.holds := by simp [endSession]

/-! ### unattendedEnds -/
@[simp] theorem unattendedEnds_fixed (s : State) : (unattendedEnds s).fixed = s.fixed := by simp [unattendedEnds]
@[simp] theorem unattendedEnds_reports (s : State) : (unattendedEnds s).reports = s.reports := by simp [unattendedEnds]
@[simp] theorem unattendedEnds_table (s : State) : (unattendedEnds s).table = s.table := by simp [unattendedEnds]
@[simp] theorem unattendedEnds_lampRecords (s : State) : (unattendedEnds s).lampRecords = s.lampRecords := by simp [unattendedEnds]
@[simp] theorem unattendedEnds_sources (s : State) : (unattendedEnds s).sources = s.sources := by simp [unattendedEnds]
@[simp] theorem unattendedEnds_medium (s : State) : (unattendedEnds s).medium = s.medium := by simp [unattendedEnds]
@[simp] theorem unattendedEnds_holds (s : State) : (unattendedEnds s).holds = s.holds := by simp [unattendedEnds]

/-! ### sessionSecond -/
@[simp] theorem sessionSecond_fixed (s : State) : (sessionSecond s).fixed = s.fixed := by simp only [sessionSecond]; (repeat' split) <;> simp
@[simp] theorem sessionSecond_reports (s : State) : (sessionSecond s).reports = s.reports := by simp only [sessionSecond]; (repeat' split) <;> simp
@[simp] theorem sessionSecond_table (s : State) : (sessionSecond s).table = s.table := by simp only [sessionSecond]; (repeat' split) <;> simp
@[simp] theorem sessionSecond_lampRecords (s : State) : (sessionSecond s).lampRecords = s.lampRecords := by simp only [sessionSecond]; (repeat' split) <;> simp
@[simp] theorem sessionSecond_sources (s : State) : (sessionSecond s).sources = s.sources := by simp only [sessionSecond]; (repeat' split) <;> simp
@[simp] theorem sessionSecond_medium (s : State) : (sessionSecond s).medium = s.medium := by simp only [sessionSecond]; (repeat' split) <;> simp
@[simp] theorem sessionSecond_holds (s : State) : (sessionSecond s).holds = s.holds := by simp only [sessionSecond]; (repeat' split) <;> simp

/-! ### openingSelection -/
@[simp] theorem openingSelection_fixed (x : Given) (s : State) : (openingSelection x s).fixed = s.fixed := by simp only [openingSelection]; (repeat' split) <;> simp
@[simp] theorem openingSelection_reports (x : Given) (s : State) : (openingSelection x s).reports = s.reports := by simp only [openingSelection]; (repeat' split) <;> simp
@[simp] theorem openingSelection_table (x : Given) (s : State) : (openingSelection x s).table = s.table := by simp only [openingSelection]; (repeat' split) <;> simp
@[simp] theorem openingSelection_lampRecords (x : Given) (s : State) : (openingSelection x s).lampRecords = s.lampRecords := by simp only [openingSelection]; (repeat' split) <;> simp
@[simp] theorem openingSelection_room (x : Given) (s : State) : (openingSelection x s).room = s.room := by simp only [openingSelection]; (repeat' split) <;> simp
@[simp] theorem openingSelection_medium (x : Given) (s : State) : (openingSelection x s).medium = s.medium := by simp only [openingSelection]; (repeat' split) <;> simp
@[simp] theorem openingSelection_holds (x : Given) (s : State) : (openingSelection x s).holds = s.holds := by simp only [openingSelection]; (repeat' split) <;> simp
@[simp] theorem openingSelection_gate (x : Given) (s : State) : (openingSelection x s).gate = s.gate := by simp only [openingSelection]; (repeat' split) <;> simp
@[simp] theorem openingSelection_geom (x : Given) (s : State) : (openingSelection x s).geom = s.geom := by simp only [openingSelection]; (repeat' split) <;> simp
@[simp] theorem openingSelection_sched (x : Given) (s : State) : (openingSelection x s).sched = s.sched := by simp only [openingSelection]; (repeat' split) <;> simp
@[simp] theorem openingSelection_lampA (x : Given) (s : State) : (openingSelection x s).lampA = s.lampA := by simp only [openingSelection]; (repeat' split) <;> simp
@[simp] theorem openingSelection_lampB (x : Given) (s : State) : (openingSelection x s).lampB = s.lampB := by simp only [openingSelection]; (repeat' split) <;> simp
@[simp] theorem openingSelection_store (x : Given) (s : State) : (openingSelection x s).store = s.store := by simp only [openingSelection]; (repeat' split) <;> simp
@[simp] theorem openingSelection_engine (x : Given) (s : State) : (openingSelection x s).engine = s.engine := by simp only [openingSelection]; (repeat' split) <;> simp

/-! ### absorbSession -/
@[simp] theorem absorbSession_fixed (n : Nat) (s : State) : (absorbSession n s).fixed = s.fixed := by simp only [absorbSession]; (repeat' split) <;> simp
@[simp] theorem absorbSession_reports (n : Nat) (s : State) : (absorbSession n s).reports = s.reports := by simp only [absorbSession]; (repeat' split) <;> simp
@[simp] theorem absorbSession_table (n : Nat) (s : State) : (absorbSession n s).table = s.table := by simp only [absorbSession]; (repeat' split) <;> simp
@[simp] theorem absorbSession_lampRecords (n : Nat) (s : State) : (absorbSession n s).lampRecords = s.lampRecords := by simp only [absorbSession]; (repeat' split) <;> simp
@[simp] theorem absorbSession_sources (n : Nat) (s : State) : (absorbSession n s).sources = s.sources := by simp only [absorbSession]; (repeat' split) <;> simp
@[simp] theorem absorbSession_medium (n : Nat) (s : State) : (absorbSession n s).medium = s.medium := by simp only [absorbSession]; (repeat' split) <;> simp
@[simp] theorem absorbSession_holds (n : Nat) (s : State) : (absorbSession n s).holds = s.holds := by simp only [absorbSession]; (repeat' split) <;> simp
@[simp] theorem absorbSession_lampA (n : Nat) (s : State) : (absorbSession n s).lampA = s.lampA := by simp only [absorbSession]; (repeat' split) <;> simp
@[simp] theorem absorbSession_lampB (n : Nat) (s : State) : (absorbSession n s).lampB = s.lampB := by simp only [absorbSession]; (repeat' split) <;> simp
@[simp] theorem absorbSession_store (n : Nat) (s : State) : (absorbSession n s).store = s.store := by simp only [absorbSession]; (repeat' split) <;> simp
@[simp] theorem absorbSession_engine (n : Nat) (s : State) : (absorbSession n s).engine = s.engine := by simp only [absorbSession]; (repeat' split) <;> simp

/-! ### leadWarm -/
@[simp] theorem leadWarm_fixed (b : Booking) (s : State) : (leadWarm b s).fixed = s.fixed := by simp [leadWarm]
@[simp] theorem leadWarm_reports (b : Booking) (s : State) : (leadWarm b s).reports = s.reports := by simp [leadWarm]
@[simp] theorem leadWarm_lampRecords (b : Booking) (s : State) : (leadWarm b s).lampRecords = s.lampRecords := by simp [leadWarm]
@[simp] theorem leadWarm_sources (b : Booking) (s : State) : (leadWarm b s).sources = s.sources := by simp [leadWarm]
@[simp] theorem leadWarm_medium (b : Booking) (s : State) : (leadWarm b s).medium = s.medium := by simp [leadWarm]
@[simp] theorem leadWarm_holds (b : Booking) (s : State) : (leadWarm b s).holds = s.holds := by simp [leadWarm]

/-! ### leadArrival -/
@[simp] theorem leadArrival_fixed (x : Option PresetNo) (b : Booking) (s : State) : (leadArrival x b s).fixed = s.fixed := by simp [leadArrival]
@[simp] theorem leadArrival_reports (x : Option PresetNo) (b : Booking) (s : State) : (leadArrival x b s).reports = s.reports := by simp [leadArrival]
@[simp] theorem leadArrival_lampRecords (x : Option PresetNo) (b : Booking) (s : State) : (leadArrival x b s).lampRecords = s.lampRecords := by simp [leadArrival]
@[simp] theorem leadArrival_medium (x : Option PresetNo) (b : Booking) (s : State) : (leadArrival x b s).medium = s.medium := by simp [leadArrival]
@[simp] theorem leadArrival_holds (x : Option PresetNo) (b : Booking) (s : State) : (leadArrival x b s).holds = s.holds := by simp [leadArrival]

/-! ### startArrival -/
@[simp] theorem startArrival_fixed (b : Booking) (s : State) : (startArrival b s).fixed = s.fixed := by simp only [startArrival]; (repeat' split) <;> simp
@[simp] theorem startArrival_reports (b : Booking) (s : State) : (startArrival b s).reports = s.reports := by simp only [startArrival]; (repeat' split) <;> simp
@[simp] theorem startArrival_lampRecords (b : Booking) (s : State) : (startArrival b s).lampRecords = s.lampRecords := by simp only [startArrival]; (repeat' split) <;> simp
@[simp] theorem startArrival_sources (b : Booking) (s : State) : (startArrival b s).sources = s.sources := by simp only [startArrival]; (repeat' split) <;> simp
@[simp] theorem startArrival_medium (b : Booking) (s : State) : (startArrival b s).medium = s.medium := by simp only [startArrival]; (repeat' split) <;> simp
@[simp] theorem startArrival_gate (b : Booking) (s : State) : (startArrival b s).gate = s.gate := by simp only [startArrival]; (repeat' split) <;> simp
@[simp] theorem startArrival_geom (b : Booking) (s : State) : (startArrival b s).geom = s.geom := by simp only [startArrival]; (repeat' split) <;> simp

/-! ### liftExam -/
@[simp] theorem liftExam_fixed (b : Booking) (s : State) : (liftExam b s).fixed = s.fixed := by simp only [liftExam]; (repeat' split) <;> simp
@[simp] theorem liftExam_reports (b : Booking) (s : State) : (liftExam b s).reports = s.reports := by simp only [liftExam]; (repeat' split) <;> simp
@[simp] theorem liftExam_table (b : Booking) (s : State) : (liftExam b s).table = s.table := by simp only [liftExam]; (repeat' split) <;> simp
@[simp] theorem liftExam_lampRecords (b : Booking) (s : State) : (liftExam b s).lampRecords = s.lampRecords := by simp only [liftExam]; (repeat' split) <;> simp
@[simp] theorem liftExam_sources (b : Booking) (s : State) : (liftExam b s).sources = s.sources := by simp only [liftExam]; (repeat' split) <;> simp
@[simp] theorem liftExam_room (b : Booking) (s : State) : (liftExam b s).room = s.room := by simp only [liftExam]; (repeat' split) <;> simp
@[simp] theorem liftExam_medium (b : Booking) (s : State) : (liftExam b s).medium = s.medium := by simp only [liftExam]; (repeat' split) <;> simp
@[simp] theorem liftExam_gate (b : Booking) (s : State) : (liftExam b s).gate = s.gate := by simp only [liftExam]; (repeat' split) <;> simp
@[simp] theorem liftExam_geom (b : Booking) (s : State) : (liftExam b s).geom = s.geom := by simp only [liftExam]; (repeat' split) <;> simp
@[simp] theorem liftExam_sched (b : Booking) (s : State) : (liftExam b s).sched = s.sched := by simp only [liftExam]; (repeat' split) <;> simp
@[simp] theorem liftExam_store (b : Booking) (s : State) : (liftExam b s).store = s.store := by simp only [liftExam]; (repeat' split) <;> simp

/-! ### endBooking -/
@[simp] theorem endBooking_fixed (b : Booking) (s : State) : (endBooking b s).fixed = s.fixed := by simp [endBooking]
@[simp] theorem endBooking_reports (b : Booking) (s : State) : (endBooking b s).reports = s.reports := by simp [endBooking]
@[simp] theorem endBooking_lampRecords (b : Booking) (s : State) : (endBooking b s).lampRecords = s.lampRecords := by simp [endBooking]
@[simp] theorem endBooking_sources (b : Booking) (s : State) : (endBooking b s).sources = s.sources := by simp [endBooking]
@[simp] theorem endBooking_medium (b : Booking) (s : State) : (endBooking b s).medium = s.medium := by simp [endBooking]

/-! ### endArrival -/
@[simp] theorem endArrival_fixed (b : Booking) (s : State) : (endArrival b s).fixed = s.fixed := by simp [endArrival]
@[simp] theorem endArrival_reports (b : Booking) (s : State) : (endArrival b s).reports = s.reports := by simp [endArrival]
@[simp] theorem endArrival_lampRecords (b : Booking) (s : State) : (endArrival b s).lampRecords = s.lampRecords := by simp [endArrival]
@[simp] theorem endArrival_sources (b : Booking) (s : State) : (endArrival b s).sources = s.sources := by simp [endArrival]
@[simp] theorem endArrival_medium (b : Booking) (s : State) : (endArrival b s).medium = s.medium := by simp [endArrival]

/-! ### noShowRelease -/
@[simp] theorem noShowRelease_fixed (b : Booking) (s : State) : (noShowRelease b s).fixed = s.fixed := by simp [noShowRelease]
@[simp] theorem noShowRelease_reports (b : Booking) (s : State) : (noShowRelease b s).reports = s.reports := by simp [noShowRelease]
@[simp] theorem noShowRelease_lampRecords (b : Booking) (s : State) : (noShowRelease b s).lampRecords = s.lampRecords := by simp [noShowRelease]
@[simp] theorem noShowRelease_sources (b : Booking) (s : State) : (noShowRelease b s).sources = s.sources := by simp [noShowRelease]
@[simp] theorem noShowRelease_medium (b : Booking) (s : State) : (noShowRelease b s).medium = s.medium := by simp [noShowRelease]

/-! ### retireMissed -/
@[simp] theorem retireMissed_fixed (s : State) (b : Booking) : (retireMissed s b).fixed = s.fixed := by simp [retireMissed]
@[simp] theorem retireMissed_reports (s : State) (b : Booking) : (retireMissed s b).reports = s.reports := by simp [retireMissed]
@[simp] theorem retireMissed_lampRecords (s : State) (b : Booking) : (retireMissed s b).lampRecords = s.lampRecords := by simp [retireMissed]
@[simp] theorem retireMissed_sources (s : State) (b : Booking) : (retireMissed s b).sources = s.sources := by simp [retireMissed]
@[simp] theorem retireMissed_room (s : State) (b : Booking) : (retireMissed s b).room = s.room := by simp [retireMissed]
@[simp] theorem retireMissed_medium (s : State) (b : Booking) : (retireMissed s b).medium = s.medium := by simp [retireMissed]
@[simp] theorem retireMissed_holds (s : State) (b : Booking) : (retireMissed s b).holds = s.holds := by simp [retireMissed]
@[simp] theorem retireMissed_gate (s : State) (b : Booking) : (retireMissed s b).gate = s.gate := by simp [retireMissed]
@[simp] theorem retireMissed_geom (s : State) (b : Booking) : (retireMissed s b).geom = s.geom := by simp [retireMissed]

/-! ### endPhase -/
@[simp] theorem endPhase_fixed (s : State) : (endPhase s).fixed = s.fixed := by simp only [endPhase]; (repeat' split) <;> simp
@[simp] theorem endPhase_reports (s : State) : (endPhase s).reports = s.reports := by simp only [endPhase]; (repeat' split) <;> simp
@[simp] theorem endPhase_lampRecords (s : State) : (endPhase s).lampRecords = s.lampRecords := by simp only [endPhase]; (repeat' split) <;> simp
@[simp] theorem endPhase_sources (s : State) : (endPhase s).sources = s.sources := by simp only [endPhase]; (repeat' split) <;> simp
@[simp] theorem endPhase_medium (s : State) : (endPhase s).medium = s.medium := by simp only [endPhase]; (repeat' split) <;> simp

/-! ### missedPhase -/
@[simp] theorem missedPhase_fixed (s : State) : (missedPhase s).fixed = s.fixed :=
  foldl_view State.fixed retireMissed (fun s b => by simp) _ s
@[simp] theorem missedPhase_reports (s : State) : (missedPhase s).reports = s.reports :=
  foldl_view State.reports retireMissed (fun s b => by simp) _ s
@[simp] theorem missedPhase_lampRecords (s : State) : (missedPhase s).lampRecords = s.lampRecords :=
  foldl_view State.lampRecords retireMissed (fun s b => by simp) _ s
@[simp] theorem missedPhase_sources (s : State) : (missedPhase s).sources = s.sources :=
  foldl_view State.sources retireMissed (fun s b => by simp) _ s
@[simp] theorem missedPhase_room (s : State) : (missedPhase s).room = s.room :=
  foldl_view State.room retireMissed (fun s b => by simp) _ s
@[simp] theorem missedPhase_medium (s : State) : (missedPhase s).medium = s.medium :=
  foldl_view State.medium retireMissed (fun s b => by simp) _ s
@[simp] theorem missedPhase_holds (s : State) : (missedPhase s).holds = s.holds :=
  foldl_view State.holds retireMissed (fun s b => by simp) _ s
@[simp] theorem missedPhase_gate (s : State) : (missedPhase s).gate = s.gate :=
  foldl_view State.gate retireMissed (fun s b => by simp) _ s
@[simp] theorem missedPhase_geom (s : State) : (missedPhase s).geom = s.geom :=
  foldl_view State.geom retireMissed (fun s b => by simp) _ s

/-! ### startPhase -/
@[simp] theorem startPhase_fixed (s : State) : (startPhase s).fixed = s.fixed := by simp only [startPhase]; (repeat' split) <;> simp
@[simp] theorem startPhase_reports (s : State) : (startPhase s).reports = s.reports := by simp only [startPhase]; (repeat' split) <;> simp
@[simp] theorem startPhase_lampRecords (s : State) : (startPhase s).lampRecords = s.lampRecords := by simp only [startPhase]; (repeat' split) <;> simp
@[simp] theorem startPhase_sources (s : State) : (startPhase s).sources = s.sources := by simp only [startPhase]; (repeat' split) <;> simp
@[simp] theorem startPhase_medium (s : State) : (startPhase s).medium = s.medium := by simp only [startPhase]; (repeat' split) <;> simp
@[simp] theorem startPhase_gate (s : State) : (startPhase s).gate = s.gate := by simp only [startPhase]; (repeat' split) <;> simp
@[simp] theorem startPhase_geom (s : State) : (startPhase s).geom = s.geom := by simp only [startPhase]; (repeat' split) <;> simp

/-! ### leadAndStart -/
@[simp] theorem leadAndStart_fixed (x : Option PresetNo) (s : State) : (leadAndStart x s).fixed = s.fixed := by simp only [leadAndStart]; (repeat' split) <;> simp
@[simp] theorem leadAndStart_reports (x : Option PresetNo) (s : State) : (leadAndStart x s).reports = s.reports := by simp only [leadAndStart]; (repeat' split) <;> simp
@[simp] theorem leadAndStart_lampRecords (x : Option PresetNo) (s : State) : (leadAndStart x s).lampRecords = s.lampRecords := by simp only [leadAndStart]; (repeat' split) <;> simp
@[simp] theorem leadAndStart_medium (x : Option PresetNo) (s : State) : (leadAndStart x s).medium = s.medium := by simp only [leadAndStart]; (repeat' split) <;> simp

/-! ### noShowPhase -/
@[simp] theorem noShowPhase_fixed (s : State) : (noShowPhase s).fixed = s.fixed := by simp only [noShowPhase]; (repeat' split) <;> simp
@[simp] theorem noShowPhase_reports (s : State) : (noShowPhase s).reports = s.reports := by simp only [noShowPhase]; (repeat' split) <;> simp
@[simp] theorem noShowPhase_lampRecords (s : State) : (noShowPhase s).lampRecords = s.lampRecords := by simp only [noShowPhase]; (repeat' split) <;> simp
@[simp] theorem noShowPhase_medium (s : State) : (noShowPhase s).medium = s.medium := by simp only [noShowPhase]; (repeat' split) <;> simp

/-! ### scheduleCheckFrom -/
@[simp] theorem scheduleCheckFrom_fixed (x : Option PresetNo) (s : State) : (scheduleCheckFrom x s).fixed = s.fixed := by simp only [scheduleCheckFrom]; (repeat' split) <;> simp
@[simp] theorem scheduleCheckFrom_reports (x : Option PresetNo) (s : State) : (scheduleCheckFrom x s).reports = s.reports := by simp only [scheduleCheckFrom]; (repeat' split) <;> simp
@[simp] theorem scheduleCheckFrom_lampRecords (x : Option PresetNo) (s : State) : (scheduleCheckFrom x s).lampRecords = s.lampRecords := by simp only [scheduleCheckFrom]; (repeat' split) <;> simp
@[simp] theorem scheduleCheckFrom_medium (x : Option PresetNo) (s : State) : (scheduleCheckFrom x s).medium = s.medium := by simp only [scheduleCheckFrom]; (repeat' split) <;> simp

/-! ### scheduleCheck -/
@[simp] theorem scheduleCheck_fixed (s : State) : (scheduleCheck s).fixed = s.fixed := by simp [scheduleCheck]
@[simp] theorem scheduleCheck_reports (s : State) : (scheduleCheck s).reports = s.reports := by simp [scheduleCheck]
@[simp] theorem scheduleCheck_lampRecords (s : State) : (scheduleCheck s).lampRecords = s.lampRecords := by simp [scheduleCheck]
@[simp] theorem scheduleCheck_medium (s : State) : (scheduleCheck s).medium = s.medium := by simp [scheduleCheck]

/-! ### reexamine -/
@[simp] theorem reexamine_fixed (s : State) : (reexamine s).fixed = s.fixed := by simp only [reexamine]; (repeat' split) <;> simp
@[simp] theorem reexamine_reports (s : State) : (reexamine s).reports = s.reports := by simp only [reexamine]; (repeat' split) <;> simp
@[simp] theorem reexamine_lampRecords (s : State) : (reexamine s).lampRecords = s.lampRecords := by simp only [reexamine]; (repeat' split) <;> simp
@[simp] theorem reexamine_medium (s : State) : (reexamine s).medium = s.medium := by simp only [reexamine]; (repeat' split) <;> simp

/-! ### endByRequest -/
@[simp] theorem endByRequest_fixed (b : Booking) (s : State) : (endByRequest b s).fixed = s.fixed := by simp only [endByRequest]; (repeat' split) <;> simp
@[simp] theorem endByRequest_reports (b : Booking) (s : State) : (endByRequest b s).reports = s.reports := by simp only [endByRequest]; (repeat' split) <;> simp
@[simp] theorem endByRequest_lampRecords (b : Booking) (s : State) : (endByRequest b s).lampRecords = s.lampRecords := by simp only [endByRequest]; (repeat' split) <;> simp
@[simp] theorem endByRequest_medium (b : Booking) (s : State) : (endByRequest b s).medium = s.medium := by simp only [endByRequest]; (repeat' split) <;> simp

/-! ### minuteHanded -/
@[simp] theorem minuteHanded_fixed (s : State) : (minuteHanded s).fixed = s.fixed := by simp [minuteHanded]
@[simp] theorem minuteHanded_reports (s : State) : (minuteHanded s).reports = s.reports := by simp [minuteHanded]
@[simp] theorem minuteHanded_lampRecords (s : State) : (minuteHanded s).lampRecords = s.lampRecords := by simp [minuteHanded]

/-! ### secondHanded -/
@[simp] theorem secondHanded_fixed (s : State) : (secondHanded s).fixed = s.fixed := by simp [secondHanded]
@[simp] theorem secondHanded_reports (s : State) : (secondHanded s).reports = s.reports := by simp [secondHanded]

end Sys2Proof.Machine
end

