-- ==== Sys2Proof/Laws/Gate.lean ====
section
/-! SUPPORT. The output gate: what its condition says (R158), and that the end of an event leaves the shutter agreeing with
it (R159). -/

namespace Sys2Proof.Machine

/-- The gate's condition is R158's seven conditions. -/
theorem gateCondition_iff (s : State) : gateCondition s = true ↔ ShutterConditions s := by
  simp only [gateCondition, ShutterConditions, LampIsLit, WarpFits, NoShutterHold, LectureOrSession, State.lectureRunning,
    State.shutterHeld, Bool.and_eq_true, Bool.or_eq_true, beq_iff_eq, Bool.not_eq_true', List.any_eq_true, List.any_eq_false,
    bne_iff_ne, and_assoc]
  have h1 : (s.geom.appliedFor.isSome = true ∧ s.geom.appliedFor = s.switch.current)
      ↔ ∃ i, s.geom.appliedFor = some i ∧ s.switch.current = some i := by
    cases s.geom.appliedFor <;> cases s.switch.current <;> simp [eq_comm]
  have h2 : (∀ x ∈ s.holds.toList, ¬ (x.any (fun h => h.scopes.shutter)) = true)
      ↔ ∀ h, some h ∈ s.holds.toList → h.scopes.shutter = false := by
    constructor
    · intro H h hm; simpa using H (some h) hm
    · rintro H (_ | h) hm
      · simp
      · simpa using H h hm
  rw [← h1, ← h2]
  simp only [and_assoc]

/-- The end of an event changes none of the conditions. -/
theorem finish_gateCondition (s : State) : gateCondition (finish s) = gateCondition s := by
  have h := finish_fault s
  have : ((finish s).engine.state != .fault) = (s.engine.state != .fault) := by
    rw [Bool.eq_iff_iff]; simp [h]
  simp only [gateCondition, State.lectureRunning, State.shutterHeld, finish_lampA, finish_lampB, finish_switch, finish_geom,
    finish_holds, finish_mute, finish_bookings, finish_sched, this]

/-- At the end of an event the shutter state is the value of the condition (R159). -/
theorem finish_shutter (s : State) : (finish s).gate.shutterOpen = gateCondition s := by
  simp [finish, evalGate_shutter]

/-- After every event that ends, the shutter agrees with the conditions. -/
theorem finish_gateAgrees (s : State) : GateAgrees (finish s) := by
  rw [GateAgrees, finish_shutter, ← finish_gateCondition, gateCondition_iff]

end Sys2Proof.Machine
end

