-- ==== Sys2Proof/Laws/Moves.lean ====
section
/-! SUPPORT. `Moves s t`: what every part of an event does but for the lamp reports, the seconds of a lamp, the lamp service and
the channel's own events. A lamp keeps its record and its attempts, a COLD lamp may be struck below its spent limit, a burning
lamp may be doused; the dirty set grows; the channel keeps its flight; and the corners stay in the raster. One lemma for each
operation says that it moves so. -/

namespace Sys2Proof.Machine

/-- How a lamp may move within one part of an event. -/
structure LampMoves (l l' : Lamp) : Prop where
  record : l'.record = l.record
  attempts : l'.attempts = l.attempts
  warned : l'.warned = l.warned
  derated : l'.derated = l.derated
  move :
    (l'.state = l.state ∧ l'.cooldown = l.cooldown ∧ l'.window = l.window ∧ l'.continuous = l.continuous
        ∧ l'.unstored = l.unstored)
    ∨ (l.state = .cold ∧ l'.state = .striking ∧ l.record.wear < l.record.spentLimit ∧ l'.window = none
        ∧ l'.cooldown = l.cooldown ∧ l'.continuous = l.continuous ∧ l'.unstored = l.unstored)
    ∨ ((l.state = .cold ∨ l.state = .striking ∨ l.state = .lit) ∧ l'.state = .cooling
        ∧ (l'.cooldown = 60 ∨ l'.cooldown = 120) ∧ l'.window = none ∧ l'.continuous = 0
        ∧ (l'.unstored = l.unstored ∨ l'.unstored = 0))

theorem LampMoves.refl (l : Lamp) : LampMoves l l := ⟨rfl, rfl, rfl, rfl, .inl ⟨rfl, rfl, rfl, rfl, rfl⟩⟩

theorem LampMoves.trans {l m n : Lamp} (h : LampMoves l m) (k : LampMoves m n) : LampMoves l n := by
  refine ⟨k.record.trans h.record, k.attempts.trans h.attempts, k.warned.trans h.warned, k.derated.trans h.derated, ?_⟩
  have hr := h.record
  rcases h.move with ⟨h1, h2, h3, h4, h5⟩ | ⟨h1, h2, h3, h4, h5, h6, h7⟩ | ⟨h1, h2, h3, h4, h5, h6⟩
  · rcases k.move with ⟨k1, k2, k3, k4, k5⟩ | ⟨k1, k2, k3, k4, k5, k6, k7⟩ | ⟨k1, k2, k3, k4, k5, k6⟩
    · exact .inl ⟨k1.trans h1, k2.trans h2, k3.trans h3, k4.trans h4, k5.trans h5⟩
    · exact .inr (.inl ⟨h1 ▸ k1, k2, hr ▸ k3, k4, k5.trans h2, k6.trans h4, k7.trans h5⟩)
    · exact .inr (.inr ⟨h1 ▸ k1, k2, k3, k4, k5, h5 ▸ k6⟩)
  · rcases k.move with ⟨k1, k2, k3, k4, k5⟩ | ⟨k1, k2, k3, k4, k5, k6, k7⟩ | ⟨k1, k2, k3, k4, k5, k6⟩
    · exact .inr (.inl ⟨h1, k1.trans h2, h3, k3.trans h4, k2.trans h5, k4.trans h6, k5.trans h7⟩)
    · rw [h2] at k1; cases k1
    · exact .inr (.inr ⟨.inl h1, k2, k3, k4, k5, h7 ▸ k6⟩)
  · rcases k.move with ⟨k1, k2, k3, k4, k5⟩ | ⟨k1, k2, k3, k4, k5, k6, k7⟩ | ⟨k1, k2, k3, k4, k5, k6⟩
    · refine .inr (.inr ⟨h1, k1.trans h2, ?_, k3.trans h4, k4.trans h5, ?_⟩)
      · rw [k2]; exact h3
      · rw [k5]; exact h6
    · rw [h2] at k1; cases k1
    · rw [h2] at k1; rcases k1 with k1 | k1 | k1 <;> cases k1

/-- How the engine channel may move within one part of an event: only its slots, and in FAULT not even those. -/
structure EngineMoves (e e' : Engine) : Prop where
  state : e'.state = e.state
  inFlight : e'.inFlight = e.inFlight
  ackTimer : e'.ackTimer = e.ackTimer
  latch : e'.latch = e.latch
  fault : e.state = .fault → e' = e

theorem EngineMoves.refl (e : Engine) : EngineMoves e e := ⟨rfl, rfl, rfl, rfl, fun _ => rfl⟩

theorem EngineMoves.trans {e f g : Engine} (h : EngineMoves e f) (k : EngineMoves f g) : EngineMoves e g :=
  ⟨k.state.trans h.state, k.inFlight.trans h.inFlight, k.ackTimer.trans h.ackTimer, k.latch.trans h.latch,
    fun hf => (k.fault (h.state.trans hf)).trans (h.fault hf)⟩

/-- What a part of an event does to the lamps, the dirty set, the channel and the corners. -/
structure Moves (s t : State) : Prop where
  lamps : ∀ p, LampMoves (s.lamp p) (t.lamp p)
  dirty : ∀ n ∈ s.store.dirty, n ∈ t.store.dirty
  engine : EngineMoves s.engine t.engine
  corners : CornersInRaster s → CornersInRaster t

theorem Moves.refl (s : State) : Moves s s := ⟨fun _ => .refl _, fun _ h => h, .refl _, id⟩

theorem Moves.trans {s t u : State} (h : Moves s t) (k : Moves t u) : Moves s u :=
  ⟨fun p => (h.lamps p).trans (k.lamps p), fun n hn => k.dirty n (h.dirty n hn), h.engine.trans k.engine,
    fun hc => k.corners (h.corners hc)⟩

/-- An operation that leaves the lamps, the store, the channel and the geometry alone moves nothing. -/
theorem Moves.of_same {s t : State} (hA : t.lampA = s.lampA) (hB : t.lampB = s.lampB) (hd : t.store = s.store)
    (he : t.engine = s.engine) (hg : t.geom = s.geom) : Moves s t := by
  refine ⟨fun p => ?_, fun n hn => hd ▸ hn, he ▸ .refl _, ?_⟩
  · cases p
    · exact (show t.lamp .a = s.lamp .a from hA) ▸ .refl _
    · exact (show t.lamp .b = s.lamp .b from hB) ▸ .refl _
  · unfold CornersInRaster; rw [he, hg]; exact id

/-- An operation that changes one lamp only. -/
theorem Moves.of_lamp {s : State} {p : Pos} {l : Lamp} (h : LampMoves (s.lamp p) l) : Moves s (s.setLamp p l) := by
  refine ⟨fun q => ?_, fun n hn => ?_, ?_, ?_⟩
  · cases p <;> cases q <;> first | exact h | exact .refl _
  · cases p <;> exact hn
  · cases p <;> exact .refl _
  · cases p <;> exact id

theorem moves_setSched (s : State) (x) : Moves s (s.setSched x) := .of_same rfl rfl rfl rfl rfl
theorem moves_setTable (s : State) (x) : Moves s (s.setTable x) := .of_same rfl rfl rfl rfl rfl
theorem moves_setHolds (s : State) (x) : Moves s (s.setHolds x) := .of_same rfl rfl rfl rfl rfl
theorem moves_setFire (s : State) (x) : Moves s (s.setFire x) := .of_same rfl rfl rfl rfl rfl
theorem moves_setThermal (s : State) (x) : Moves s (s.setThermal x) := .of_same rfl rfl rfl rfl rfl
theorem moves_setSwitch (s : State) (x) : Moves s (s.setSwitch x) := .of_same rfl rfl rfl rfl rfl
theorem moves_setMeter (s : State) (x) : Moves s (s.setMeter x) := .of_same rfl rfl rfl rfl rfl
theorem moves_setGate (s : State) (x) : Moves s (s.setGate x) := .of_same rfl rfl rfl rfl rfl
theorem moves_raiseNotice (c : NoticeClass) (k : Nat) (a : BitVec 32) (s : State) : Moves s (raiseNotice c k a s) :=
  .of_same rfl rfl rfl rfl rfl

/-- A setting of the geometry that wants, applies and overrides within the raster. -/
theorem moves_setGeom {s : State} {g : Geometry} (hw : g.wanted = s.geom.wanted)
    (ha : g.applied = s.geom.applied ∨ g.applied = none) : Moves s (s.setGeom g) := by
  refine ⟨fun p => by cases p <;> exact .refl _, fun n hn => hn, .refl _, ?_⟩
  rintro ⟨h1, h2, h3, h4⟩
  refine ⟨?_, ?_, h3, h4⟩
  · simpa [hw] using h1
  · rcases ha with ha | ha <;> simp only [State.setGeom_geom, ha]
    · exact h2
    · intro c hc; cases hc

theorem mem_markDirty (n : Nat) (s : State) : n ∈ (markDirty n s).store.dirty := by
  unfold markDirty; split
  · next h => simpa using h
  · simp

theorem moves_markDirty (n : Nat) (s : State) : Moves s (markDirty n s) := by
  refine ⟨fun p => by simp only [markDirty_lamp]; exact .refl _, fun m hm => ?_, by simp only [markDirty_engine]; exact .refl _, ?_⟩
  · unfold markDirty; split
    · exact hm
    · simp [hm]
  · unfold CornersInRaster; simp

/-- Placing a message whose corners are in the raster. -/
theorem moves_offer {m : OutMsg} {s : State} (h : ∀ w, m = .warp w → w.corners.InRaster) : Moves s (offer m s) := by
  refine ⟨fun p => by simp only [offer_lamp]; exact .refl _, fun n hn => hn, ⟨by simp, by simp, by simp, by simp, ?_⟩, ?_⟩
  · intro hf; rw [offer_fault m s hf]
  · rintro ⟨h1, h2, h3, h4⟩
    refine ⟨by simpa using h1, by simpa using h2, ?_, by simpa using h4⟩
    intro w hw
    simp only [offer, State.setEngine_engine, Engine.place] at hw
    split at hw
    · exact h3 w hw
    · rcases m with _ | ⟨_ | _, _⟩ | w'
      · exact h3 w hw
      · exact h3 w hw
      · exact h3 w hw
      · cases hw; exact h _ rfl

theorem moves_offerLamp (p : Pos) (m : LampMsg) (s : State) : Moves s (offerLamp p m s) := moves_offer (fun _ h => nomatch h)

/-! ## The lamp unit -/

theorem moves_strikeTest (p : Pos) (s : State) : Moves s (strikeTest p s) := by
  unfold strikeTest; split
  · next h =>
    refine (moves_offerLamp p _ s).trans (.of_lamp ?_)
    rw [offerLamp_lamp]
    simp only [mayStrike, Bool.and_eq_true, beq_iff_eq, decide_eq_true_eq] at h
    exact ⟨rfl, rfl, rfl, rfl, .inr (.inl ⟨h.1.1.1.1, rfl, h.1.2, rfl, rfl, rfl, rfl⟩)⟩
  · exact .refl s

theorem moves_strikeTests (s : State) : Moves s (strikeTests s) := (moves_strikeTest .a s).trans (moves_strikeTest .b _)

theorem lampMoves_power {l : Lamp} (w : Power) : LampMoves l { l with power := w } :=
  ⟨rfl, rfl, rfl, rfl, .inl ⟨rfl, rfl, rfl, rfl, rfl⟩⟩

theorem moves_evalPower (p : Pos) (s : State) : Moves s (evalPower p s) := by
  unfold evalPower; dsimp only
  split; · exact .refl s
  split
  · exact (moves_offerLamp p _ s).trans (.of_lamp (lampMoves_power _))
  · split
    · exact (moves_offerLamp p _ s).trans (.of_lamp (lampMoves_power _))
    · exact .refl s
  all_goals exact .refl s

theorem moves_evalPowers (s : State) : Moves s (evalPowers s) := (moves_evalPower .a s).trans (moves_evalPower .b _)

/-- Cooling a STRIKING or LIT lamp, as demand, a hold or the channel's FAULT does. -/
theorem moves_cool {p : Pos} {n : Nat} {s : State} (hn : n = 60 ∨ n = 120)
    (h : (s.lamp p).state = .striking ∨ (s.lamp p).state = .lit) : Moves s (cool p n s) := by
  unfold cool markIfLit
  dsimp only
  split
  · next hl =>
    refine ⟨fun q => ?_, fun m hm => ?_, ?_, ?_⟩
    · cases p <;> cases q <;>
        simp only [markLampDirty, State.setLamp, State.lamp, markDirty_lampA, markDirty_lampB] at hl ⊢ <;>
        first
          | exact ⟨rfl, rfl, rfl, rfl, .inr (.inr ⟨.inr (.inr hl), rfl, hn, rfl, rfl, .inr rfl⟩)⟩
          | exact .refl _
    · have := (moves_markDirty (lampNo p) s).dirty m hm
      cases p <;> exact this
    · cases p <;> simp [markLampDirty, EngineMoves.refl]
    · cases p <;> simp [markLampDirty, CornersInRaster]
  · next hl =>
    exact .of_lamp ⟨rfl, rfl, rfl, rfl, .inr (.inr ⟨by rcases h with h | h <;> simp [h], rfl, hn, rfl, rfl, .inl rfl⟩)⟩

theorem moves_douseUnwanted (p : Pos) (s : State) : Moves s (douseUnwanted p s) := by
  unfold douseUnwanted; split
  · exact (moves_offerLamp p _ s).trans (moves_cool (.inl rfl) (by rw [offerLamp_lamp]; exact .inl ‹_›))
  · exact (moves_offerLamp p _ s).trans (moves_cool (.inr rfl) (by rw [offerLamp_lamp]; exact .inr ‹_›))
  all_goals exact .refl s

theorem moves_setWanted (eff : LampSet) (p : Pos) (s : State) : Moves s (setWanted eff p s) := by
  have h : Moves s (s.setLamp p { s.lamp p with wanted := eff.has p }) :=
    .of_lamp ⟨rfl, rfl, rfl, rfl, .inl ⟨rfl, rfl, rfl, rfl, rfl⟩⟩
  unfold setWanted; dsimp only; split
  · exact h.trans (moves_douseUnwanted p _)
  · exact h

theorem moves_pursue (eff : LampSet) (s : State) : Moves s (pursue eff s) :=
  (moves_setWanted eff .a s).trans ((moves_setWanted eff .b _).trans ((moves_evalPowers _).trans (moves_strikeTests _)))

theorem moves_writeDemand (d : Demand) (s : State) : Moves s (writeDemand d s) := by
  unfold writeDemand; dsimp only; split
  · exact (moves_setSched s _).trans ((moves_pursue _ _).trans (moves_raiseNotice _ _ _ _))
  · exact (moves_setSched s _).trans (moves_pursue _ _)

theorem moves_usabilityChanged (s : State) : Moves s (usabilityChanged s) := by
  unfold usabilityChanged; dsimp only; split
  · split
    · exact .refl s
    · split
      · exact (moves_pursue _ s).trans (moves_raiseNotice _ _ _ _)
      · exact moves_pursue _ s
  · exact .refl s

theorem moves_gapExit (p : Pos) (s : State) : Moves s (gapExit p s) := by
  unfold gapExit; dsimp only; split
  · split <;> exact moves_writeDemand _ s
  · exact .refl s

theorem moves_gapExits (a b : Bool) (s : State) : Moves s (gapExits a b s) := by
  unfold gapExits; dsimp only
  cases a <;> cases b
  · exact .refl s
  · exact moves_gapExit .b s
  · exact moves_gapExit .a s
  · exact (moves_gapExit .a s).trans (moves_gapExit .b _)

theorem burning_iff (l : Lamp) : l.burning = true ↔ l.state = .striking ∨ l.state = .lit := by simp [Lamp.burning]

theorem moves_holdDouse (p : Pos) (s : State) : Moves s (holdDouse p s) := by
  unfold holdDouse; split
  · next h =>
    exact (moves_offerLamp p _ s).trans (moves_cool (.inr rfl) (by rw [offerLamp_lamp]; exact (burning_iff _).mp h))
  · exact .refl s

theorem moves_faultCool (p : Pos) (s : State) : Moves s (faultCool p s) := by
  unfold faultCool; split
  · next h => exact moves_cool (.inr rfl) ((burning_iff _).mp h)
  · exact .refl s

theorem moves_holdDouseAll (s : State) : Moves s (holdDouseAll s) :=
  (moves_holdDouse .a s).trans ((moves_holdDouse .b _).trans (moves_gapExits _ _ _))

theorem moves_faultCoolAll (s : State) : Moves s (faultCoolAll s) :=
  (moves_faultCool .a s).trans ((moves_faultCool .b _).trans (moves_gapExits _ _ _))

theorem moves_takeThermal (t : Thermal) (s : State) : Moves s (takeThermal t s) :=
  (moves_setThermal s t).trans (moves_evalPowers _)

/-! ## The hold table -/

theorem moves_placeHold (i : Fin 16) (h : Hold) (s : State) : Moves s (placeHold i h s) := by
  have h1 : Moves s (holdPlacedNotice i.val h (s.setHolds (s.holds.set i (some h)))) :=
    (moves_setHolds s _).trans (moves_raiseNotice _ _ _ _)
  unfold placeHold; dsimp only; split
  · exact h1.trans (moves_holdDouseAll _)
  · exact h1

theorem moves_liftOnly (i : Fin 16) (h : Hold) (s : State) : Moves s (liftOnly i h s) :=
  (moves_setHolds s _).trans (moves_raiseNotice _ _ _ _)

theorem moves_afterLift (h : Hold) (s : State) : Moves s (afterLift h s) := by
  unfold afterLift; split
  · exact moves_strikeTests s
  · exact .refl s

theorem moves_liftHold (i : Fin 16) (h : Hold) (s : State) : Moves s (liftHold i h s) :=
  (moves_liftOnly i h s).trans (moves_afterLift h _)

theorem moves_reportOnly (i : Fin 16) (h : Hold) (r : Bool) (s : State) : Moves s (reportOnly i h r s) := by
  unfold reportOnly; split
  · exact moves_placeHold _ _ _
  · exact moves_liftOnly _ _ _
  all_goals exact .refl s

theorem moves_reportHold (i : Fin 16) (h : Hold) (r : Bool) (s : State) : Moves s (reportHold i h r s) := by
  unfold reportHold; split
  · exact (moves_reportOnly i h r s).trans (moves_strikeTests _)
  · exact moves_reportOnly i h r s

theorem moves_doorReport (o : Bool) (s : State) : Moves s (doorReport o s) := moves_reportHold _ _ _ _

theorem moves_thermalReport (t : Thermal) (s : State) : Moves s (thermalReport t s) :=
  (moves_takeThermal t s).trans (moves_reportHold _ _ _ _)

theorem moves_fireReport (a : Bool) (s : State) : Moves s (fireReport a s) :=
  (moves_setFire s _).trans (moves_reportHold _ _ _ _)

theorem moves_foldl {α : Type} {f : State → α → State} (h : ∀ s x, Moves s (f s x)) (l : List α) (s : State) :
    Moves s (l.foldl f s) := by
  induction l generalizing s with
  | nil => exact .refl s
  | cons x l ih => exact (h s x).trans (ih _)

theorem moves_expireSlot (m : Nat) (s : State) (i : Fin 16) : Moves s (expireSlot m s i) := by
  unfold expireSlot; split
  · split
    · exact (moves_setHolds s _).trans (moves_raiseNotice _ _ _ _)
    · exact .refl s
  · exact .refl s

theorem moves_expireHolds (m : Nat) (s : State) : Moves s (expireHolds m s) := by
  have h := moves_foldl (moves_expireSlot m) requestedSlots s
  unfold expireHolds; dsimp only; split
  · exact h.trans (moves_strikeTests _)
  · exact h

theorem moves_arrivalLifts (h : Hold) (s : State) : Moves s (arrivalLifts h s) := by
  unfold arrivalLifts; split
  · exact moves_expireHolds _ s
  · exact .refl s

/-! ## Geometry -/

theorem clampX_le (v : Int) : clampX v ≤ 1919 := by unfold clampX clampInt; (repeat' split) <;> omega
theorem clampY_le (v : Int) : clampY v ≤ 1199 := by unfold clampY clampInt; (repeat' split) <;> omega

/-- Every computed corner is in the raster (R150). -/
theorem computeCorners_inRaster (a : Aspect) (p : Preset) : (computeCorners a p).InRaster :=
  ⟨⟨clampX_le _, clampY_le _⟩, ⟨clampX_le _, clampY_le _⟩, ⟨clampX_le _, clampY_le _⟩, ⟨clampX_le _, clampY_le _⟩⟩

theorem moves_compute (i : Input) (s : State) : Moves s (compute i s) := by
  refine .trans (t := s.setGeom { s.geom with
    wanted := some ⟨computeCorners s.profiles[i].aspect s.geom.presets[effectivePreset s i], i⟩ }) ?_ (moves_offer ?_)
  · refine ⟨fun p => by cases p <;> exact .refl _, fun n hn => hn, .refl _, ?_⟩
    rintro ⟨h1, h2, h3, h4⟩
    refine ⟨?_, h2, h3, h4⟩
    intro w hw; cases hw; exact computeCorners_inRaster _ _
  · intro w hw; cases hw; exact computeCorners_inRaster _ _

theorem moves_computeTarget (s : State) : Moves s (computeTarget s) := by
  unfold computeTarget; split
  · exact moves_compute _ s
  · exact .refl s

theorem moves_computeIfChanged (before : Option PresetNo) (s : State) : Moves s (computeIfChanged before s) := by
  unfold computeIfChanged; split
  · exact .refl s
  · exact moves_computeTarget s

theorem moves_endOverride (s : State) : Moves s (endOverride s) := moves_setGeom rfl (.inl rfl)
theorem moves_geometryFault (s : State) : Moves s (geometryFault s) := moves_setGeom rfl (.inr rfl)

/-! ## Sources -/

theorem moves_takeSelection (sel : Selection) (s : State) : Moves s (takeSelection sel s) :=
  (moves_setSwitch s _).trans (moves_setMeter _ _)

theorem moves_supersede (s : State) : Moves s (supersede s) := by
  unfold supersede; split
  · exact moves_raiseNotice _ _ _ _
  · exact .refl s

theorem moves_placePending (sel : Selection) (s : State) : Moves s (placePending sel s) :=
  (moves_supersede s).trans (moves_setSwitch _ _)

theorem moves_dealSelection (sel : Selection) (s : State) : Moves s (dealSelection sel s) := by
  unfold dealSelection; split
  · split
    · exact .refl s
    · exact moves_takeSelection _ _
  · exact moves_takeSelection _ _
  · exact moves_takeSelection _ _
  · exact moves_placePending _ _
  · exact moves_placePending _ _

theorem moves_autoSelection (i : Input) (k : SelKind) (s : State) : Moves s (autoSelection i k s) := by
  unfold autoSelection; dsimp only; split
  · exact moves_raiseNotice _ _ _ _
  · exact moves_dealSelection _ _

theorem moves_examinePending {exit : State → State} (h : ∀ s, Moves s (exit s)) (s : State) :
    Moves s (examinePending exit s) := by
  unfold examinePending; split
  · exact h s
  · dsimp only; split
    · exact (moves_setSwitch s _).trans ((moves_raiseNotice _ _ _ _).trans (h _))
    · exact (moves_setSwitch s _).trans (moves_takeSelection _ _)

theorem moves_scheduleSeesShown (s : State) : Moves s (scheduleSeesShown s) := by
  unfold scheduleSeesShown; dsimp only; split
  · exact (moves_setTable s _).trans (moves_setSched _ _)
  · exact moves_setTable s _

theorem moves_geometrySeesShown (i : Input) (s : State) : Moves s (geometrySeesShown i s) := by
  unfold geometrySeesShown; split
  · exact .refl s
  · exact moves_compute _ _

theorem moves_enterShown (s : State) : Moves s (enterShown s) := by
  unfold enterShown; dsimp only; split
  · exact (moves_setSwitch s _).trans ((moves_raiseNotice _ _ _ _).trans ((moves_geometrySeesShown _ _).trans
      (moves_scheduleSeesShown _)))
  · exact (moves_setSwitch s _).trans (moves_scheduleSeesShown _)

theorem moves_enterNoSignal (s : State) : Moves s (enterNoSignal s) :=
  (moves_setSwitch s _).trans (moves_raiseNotice _ _ _ _)

theorem moves_stableReport (s : State) : Moves s (stableReport s) := by
  unfold stableReport; split
  · exact moves_examinePending moves_enterShown s
  · exact moves_enterShown s
  all_goals exact .refl s

theorem moves_lostReport (s : State) : Moves s (lostReport s) := by
  unfold lostReport; split
  · exact moves_enterNoSignal s
  · exact .refl s

theorem moves_enterSettling (s : State) : Moves s (enterSettling s) := (moves_setSwitch s _).trans (moves_setMeter _ _)

theorem moves_takeAckTaken (i : Input) (s : State) : Moves s (takeAckTaken i s) := by
  unfold takeAckTaken; split
  · exact (moves_setSwitch s _).trans (moves_examinePending moves_enterSettling _)
  · exact moves_raiseNotice _ _ _ _

theorem moves_takeTimesOut (s : State) : Moves s (takeTimesOut s) :=
  (moves_raiseNotice _ _ _ s).trans ((moves_setSwitch _ _).trans (moves_setMeter _ _))

theorem moves_settleTimesOut (s : State) : Moves s (settleTimesOut s) := moves_examinePending moves_enterNoSignal s

theorem moves_graceRanOut (s : State) : Moves s (graceRanOut s) := by
  unfold graceRanOut; dsimp only; split
  · exact (moves_setSwitch s _).trans (moves_raiseNotice _ _ _ _)
  · split
    · exact (moves_setSwitch s _).trans (moves_raiseNotice _ _ _ _)
    · exact (moves_setSwitch s _).trans ((moves_dealSelection _ _).trans (moves_raiseNotice _ _ _ _))

theorem moves_sourceSecond (s : State) : Moves s (sourceSecond s) := by
  unfold sourceSecond; split
  · split
    · exact .refl s
    · split
      · exact moves_graceRanOut s
      · exact moves_setSwitch s _
  · exact .refl s

theorem moves_presenceTaken (set : InputSet) (s : State) : Moves s (presenceTaken set s) := by
  unfold presenceTaken; dsimp only; split
  · exact (moves_setSwitch s _).trans (moves_autoSelection _ _ _)
  · exact moves_setSwitch s _

theorem moves_meterLoss (m : Meter) (s : State) : Moves s (meterLoss m s) := by
  unfold meterLoss; dsimp only; split
  · exact (moves_setMeter s _).trans (moves_lostReport _)
  · exact moves_setMeter s _

theorem moves_stableTest (s : State) : Moves s (stableTest s) := by
  unfold stableTest; split
  · split
    · exact (moves_setMeter s _).trans (moves_stableReport _)
    · exact .refl s
  · exact .refl s

theorem moves_frameEdgeTaken (time : Nat) (s : State) : Moves s (frameEdgeTaken time s) := by
  unfold frameEdgeTaken; dsimp only; split
  · exact .refl s
  all_goals
    split
    · exact moves_setMeter s _
    · split
      · exact (moves_setMeter s _).trans (moves_stableTest _)
      · exact moves_meterLoss _ s

theorem moves_lossTimesOut (s : State) : Moves s (lossTimesOut s) := moves_meterLoss _ s

/-! ## The booking table and the schedule -/

theorem lampMoves_recommit (p : Pos) (old new : List Booking) (l : Lamp) : LampMoves l (recommit p old new l) :=
  ⟨rfl, rfl, rfl, rfl, .inl ⟨rfl, rfl, rfl, rfl, rfl⟩⟩

theorem moves_changeTable (new : List Booking) (s : State) : Moves s (changeTable new s) :=
  (moves_setTable s new).trans ((Moves.of_lamp (p := .a) (lampMoves_recommit .a s.bookings new _)).trans
    (Moves.of_lamp (p := .b) (lampMoves_recommit .b s.bookings new _)))

theorem moves_overcommittedTest (l : LampSet) (s : State) : Moves s (overcommittedTest l s) := by
  unfold overcommittedTest; dsimp only; split
  · exact .refl s
  · exact moves_raiseNotice _ _ _ _

theorem moves_testRisen (b s : State) : Moves s (testRisen b s) := moves_overcommittedTest _ _

theorem moves_dropBooking (b : Booking) (s : State) : Moves s (dropBooking b s) :=
  (moves_changeTable _ s).trans (moves_markDirty _ _)

theorem moves_departBooking (b : Booking) (s : State) : Moves s (departBooking b s) :=
  (moves_changeTable _ s).trans ((moves_markDirty _ _).trans (moves_testRisen _ _))

theorem moves_endGapIfDue (s : State) : Moves s (endGapIfDue s) := by
  unfold endGapIfDue; split
  · split
    · split
      · exact .refl s
      · exact moves_writeDemand _ s
    · exact moves_writeDemand _ s
  · exact .refl s

theorem moves_sessionOff (s : State) : Moves s (sessionOff s) :=
  (moves_setSched s _).trans ((moves_endOverride _).trans (moves_setGate _ _))

theorem moves_endSession (s : State) : Moves s (endSession s) :=
  (moves_sessionOff s).trans ((moves_writeDemand _ _).trans (moves_computeIfChanged _ _))

theorem moves_unattendedEnds (s : State) : Moves s (unattendedEnds s) :=
  (moves_endSession s).trans (moves_raiseNotice _ _ _ _)

theorem moves_sessionSecond (s : State) : Moves s (sessionSecond s) := by
  unfold sessionSecond; split
  · split
    · exact moves_unattendedEnds s
    · exact moves_setSched s _
  · exact .refl s

theorem moves_openingSelection (g : Given) (s : State) : Moves s (openingSelection g s) := by
  unfold openingSelection; split
  · exact moves_autoSelection _ _ _
  · exact .refl s

theorem moves_absorbSession (tag : Nat) (s : State) : Moves s (absorbSession tag s) := by
  unfold absorbSession; split
  · exact (moves_sessionOff s).trans (moves_raiseNotice _ _ _ _)
  · exact .refl s

theorem moves_leadWarm (b : Booking) (s : State) : Moves s (leadWarm b s) :=
  (moves_changeTable _ s).trans ((moves_setSched _ _).trans ((moves_absorbSession _ _).trans (moves_writeDemand _ _)))

theorem moves_leadArrival (before : Option PresetNo) (b : Booking) (s : State) : Moves s (leadArrival before b s) :=
  (moves_leadWarm b s).trans ((moves_computeIfChanged _ _).trans (moves_openingSelection _ _))

theorem moves_startArrival (b : Booking) (s : State) : Moves s (startArrival b s) := by
  have h := fun t => (moves_changeTable t s).trans (moves_setSched _
    { (changeTable t s).sched with startedAt := some (changeTable t s).clock.minute })
  unfold startArrival; dsimp only; split
  · exact (h _).trans (moves_placeHold _ _ _)
  · exact h _

theorem moves_liftExam (b : Booking) (s : State) : Moves s (liftExam b s) := by
  unfold liftExam; split
  · split
    · exact moves_liftHold _ _ _
    · exact .refl s
  · exact .refl s

theorem moves_endBooking (b : Booking) (s : State) : Moves s (endBooking b s) :=
  (moves_liftExam b s).trans ((moves_setGate _ _).trans ((moves_endOverride _).trans ((moves_writeDemand _ _).trans
    ((moves_dropBooking _ _).trans (moves_setSched _ _)))))

theorem moves_endArrival (b : Booking) (s : State) : Moves s (endArrival b s) :=
  (moves_endBooking b s).trans (moves_raiseNotice _ _ _ _)

theorem moves_noShowRelease (b : Booking) (s : State) : Moves s (noShowRelease b s) :=
  (moves_endBooking b s).trans (moves_raiseNotice _ _ _ _)

theorem moves_retireMissed (s : State) (b : Booking) : Moves s (retireMissed s b) :=
  (moves_departBooking b s).trans ((moves_endGapIfDue _).trans (moves_raiseNotice _ _ _ _))

theorem moves_endPhase (s : State) : Moves s (endPhase s) := by
  unfold endPhase; split
  · split
    · exact moves_endArrival _ _
    · exact .refl s
  · exact .refl s

theorem moves_missedPhase (s : State) : Moves s (missedPhase s) := moves_foldl moves_retireMissed _ s

theorem moves_startPhase (s : State) : Moves s (startPhase s) := by
  unfold startPhase; split
  · exact moves_startArrival _ _
  · exact .refl s

theorem moves_leadAndStart (before : Option PresetNo) (s : State) : Moves s (leadAndStart before s) := by
  unfold leadAndStart; split
  · exact (moves_leadArrival _ _ s).trans (moves_startPhase _)
  · exact (moves_computeIfChanged _ s).trans (moves_startPhase _)

theorem moves_noShowPhase (s : State) : Moves s (noShowPhase s) := by
  unfold noShowPhase; split
  · exact (moves_noShowRelease _ s).trans (moves_leadAndStart _ _)
  · exact .refl s

theorem moves_scheduleCheckFrom (before : Option PresetNo) (s : State) : Moves s (scheduleCheckFrom before s) := by
  unfold scheduleCheckFrom; split
  · exact (moves_endPhase s).trans ((moves_missedPhase _).trans ((moves_leadAndStart _ _).trans (moves_noShowPhase _)))
  · exact .refl s

theorem moves_scheduleCheck (s : State) : Moves s (scheduleCheck s) := moves_scheduleCheckFrom _ s

theorem moves_reexamine (s : State) : Moves s (reexamine s) := by
  unfold reexamine; split
  · split
    · exact moves_scheduleCheck s
    · exact .refl s
  · exact .refl s

theorem moves_endByRequest (b : Booking) (s : State) : Moves s (endByRequest b s) := by
  unfold endByRequest; dsimp only; split
  · exact (moves_endArrival b s).trans (moves_scheduleCheckFrom _ _)
  · exact (moves_endArrival b s).trans (moves_computeIfChanged _ _)

/-! ## The end of an event -/

/-- The content of a record does not depend on the store. -/
theorem recordContent_setStore (n : Nat) (x : Store) (s : State) : recordContent n (s.setStore x) = recordContent n s := rfl

/-- What is dirty at the end of an event was marked, if the writer is where it was before the event (R199). -/
theorem markedDirty_startWrite {n : Nat} {s u : State} (h : n ∈ u.store.dirty) (hw : u.store.writing = s.store.writing) :
    MarkedDirty n s (startWrite u) := by
  unfold startWrite; split
  · next m hn _ =>
    by_cases hm : m = n
    · subst hm; exact .inr ⟨by rw [← hw]; exact hn, rfl⟩
    · exact .inl ((List.mem_erase_of_ne (Ne.symm hm)).mpr h)
  · exact .inl h

theorem markedDirty_finish {n : Nat} {s u : State} (h : n ∈ u.store.dirty) (hw : u.store.writing = s.store.writing) :
    MarkedDirty n s (finish u) :=
  markedDirty_startWrite (by simpa using h) (by simpa using hw)

theorem markedDirty_replied {n : Nat} {s t : State} (h : MarkedDirty n s t) (k : ReqName) (o : ReqOutcome) (ps : List Byte) :
    MarkedDirty n s (t.replied k o ps) := h

end Sys2Proof.Machine
end

