-- ==== Sys2Proof/Laws/Words.lean ====
section
/-! SUPPORT. The words of the statements against the operations of the model: a held action, a position that may be struck, an
active booking, the reply that a request leaves. -/

namespace Sys2Proof.Machine

/-- A held action, in words and as the model tests it (R98). -/
theorem held_iff (s : State) (o : Origin) (sc : Scope) (target : Option Input) :
    s.held o sc target = true ↔ Held o sc target s := by
  unfold State.held Held
  rw [List.any_eq_true]
  constructor
  · rintro ⟨_ | h, hm, hh⟩
    · simp at hh
    · refine ⟨h, hm, ?_⟩
      simp only [Option.any_some, Hold.holdsAction, Bool.and_eq_true, Bool.or_eq_true, bne_iff_ne] at hh
      obtain ⟨⟨h1, h2⟩, h3⟩ := hh
      refine ⟨h1, h2, ?_⟩
      rintro hs set ha i rfl
      simpa [hs, ha] using h3
  · rintro ⟨h, hm, h1, h2, h3⟩
    refine ⟨some h, hm, ?_⟩
    simp only [Option.any_some, Hold.holdsAction, Bool.and_eq_true, Bool.or_eq_true, bne_iff_ne]
    refine ⟨⟨h1, h2⟩, ?_⟩
    by_cases hs : sc = .source
    · right
      cases ha : h.allowed with
      | none => rfl
      | some set =>
        cases target with
        | none => rfl
        | some i => simpa using h3 hs set ha i rfl
    · exact .inl hs

/-- An action that is not held. -/
theorem held_false {s : State} {o : Origin} {sc : Scope} {target : Option Input} (h : ¬ Held o sc target s) :
    s.held o sc target = false := by
  rw [← held_iff] at h; simpa using h

/-- No hold with STRIKE is in the table. -/
theorem strikeHeld_false (s : State) :
    s.strikeHeld = false ↔ ∀ h, some h ∈ s.holds.toList → h.scopes.strike = false := by
  unfold State.strikeHeld
  rw [List.any_eq_false]
  constructor
  · intro H h hm; simpa using H (some h) hm
  · rintro H (_ | h) hm
    · simp
    · simpa using H h hm

/-- A position that may be struck, in words and as the model tests it (R60). -/
theorem mayStrike_iff (p : Pos) (s : State) : mayStrike p s = true ↔ MayStrike p s := by
  unfold mayStrike MayStrike
  rw [← strikeHeld_false]
  simp only [Bool.and_eq_true, beq_iff_eq, Bool.not_eq_true', decide_eq_true_eq, bne_iff_ne]
  constructor
  · rintro ⟨⟨⟨⟨h1, h2⟩, h3⟩, h4⟩, h5⟩; exact ⟨h2, h1, h3, h4, h5⟩
  · rintro ⟨h2, h1, h3, h4, h5⟩; exact ⟨⟨⟨⟨h1, h2⟩, h3⟩, h4⟩, h5⟩

/-- No booking is active. -/
theorem activeBooking_none {s : State} (h : ∀ b ∈ s.bookings, b.state = .pending) : s.activeBooking = none := by
  unfold State.activeBooking
  rw [List.find?_eq_none]
  intro b hb
  simp [h b hb]

/-- Some booking is active. -/
theorem activeBooking_isSome {s : State} (h : ∃ b ∈ s.bookings, b.state ≠ .pending) : s.activeBooking.isSome = true := by
  obtain ⟨b, hb, hs⟩ := h
  unfold State.activeBooking
  rw [List.find?_isSome]
  exact ⟨b, hb, by simpa using hs⟩

/-- A lecture in hand, in words and as the model tests it (R134, R158). -/
theorem lecture_iff (s : State) : (s.lectureRunning || s.sched.session) = true ↔ LectureOrSession s := by
  simp [LectureOrSession, State.lectureRunning]

/-- What the reply of an answer leaves. -/
theorem reply_eq (n : ReqName) (a : Answer) : reply n a = a.state.replied n a.outcome a.params := by
  simp [reply, State.replied, State.setLink, replyBody]

/-- After an answer the decoder holds the reply. -/
theorem replied_replied (s : State) (n : ReqName) (o : ReqOutcome) (params : List Byte) :
    Replied (s.replied n o params) n o params := rfl

/-- A request row while the part is RUNNING. -/
theorem takeRequest_running {n : ReqName} {request : State → Answer} {s : State} (h : s.phase = .running) :
    takeRequest n request s = (request s).state.replied n (request s).outcome (request s).params := by
  rw [takeRequest, whenRunning, if_pos h, reply_eq]

/-- A class other than PANEL meets the requirement of CONTROL (R97). -/
theorem atLeast_control {c : Class} (h : c ≠ .panel) : atLeast c .control = true := by
  cases c <;> first | rfl | exact absurd rfl h

/-- Past the class check. -/
theorem needClass_control {c : Class} {act : State → Answer} {s : State} (h : c ≠ .panel) :
    needClass c .control act s = act s := by
  rw [needClass, if_pos (atLeast_control h)]

/-- Past the class check and the hold check. -/
theorem needScope_open {c : Class} {sc : Scope} {target : Option Input} {act : State → Answer} {s : State} (h : c ≠ .panel)
    (hh : ¬ Held (classOrigin c) sc target s) : needScope c sc target act s = act s := by
  rw [needScope, needClass_control h, held_false hh]; rfl

/-- A stored record's content follows from the configuration, the profiles, the presets, the lamp records and the bookings. -/
theorem recordContent_congr {s t : State} (hf : t.fixed = s.fixed) (hl : t.lampRecords = s.lampRecords)
    (hb : t.bookings = s.bookings) (n : Nat) : recordContent n t = recordContent n s := by
  have h1 : t.config = s.config := congrArg ViewFixed.config hf
  have h2 : t.profiles = s.profiles := congrArg ViewFixed.profiles hf
  have h3 : t.geom.presets = s.geom.presets := congrArg ViewFixed.presets hf
  have h4 : t.lampA.record = s.lampA.record := congrArg ViewLampRecords.a hl
  have h5 : t.lampB.record = s.lampB.record := congrArg ViewLampRecords.b hl
  simp only [recordContent, h1, h2, h3, h4, h5, hb]

end Sys2Proof.Machine
end

