-- ==== Sys2Proof/Laws/LampContracts.lean ====
section
/-! SUPPORT. What each operation of the lamp unit does, once, in the words of `Sys2Proof.Safety`: the lemmas that a proof about a command
cites instead of unfolding the operation. -/

namespace Sys2Proof.Machine

/-! ## Records marked, messages offered, the table changed -/

theorem markDirty_eq (n : Nat) (s : State) : markDirty n s = s.marked n := by
  unfold markDirty State.marked dirtyWith
  by_cases h : n ∈ s.store.dirty
  · rw [if_pos (by simpa using h), if_pos h]
  · rw [if_neg (by simpa using h), if_neg h]; rfl

theorem markLampDirty_eq (p : Pos) (s : State) :
    markLampDirty p s = (s.marked (lampNo p)).setLamp p { s.lamp p with unstored := 0 } := by
  rw [markLampDirty, markDirty_eq]

theorem offerLamp_eq (p : Pos) (m : LampMsg) (s : State) : offerLamp p m s = s.lampOffered p m := by
  unfold offerLamp offer Engine.place State.lampOffered
  split
  · rfl
  · cases p <;> rfl

theorem changeTable_eq (bs : List Booking) (s : State) : changeTable bs s = s.withTable bs := rfl

@[simp] theorem State.lampOffered_lamp (s : State) (p q : Pos) (m : LampMsg) : (s.lampOffered p m).lamp q = s.lamp q := by
  rw [← offerLamp_eq]; simp [offerLamp]

@[simp] theorem State.marked_lamp (s : State) (n : Nat) (p : Pos) : (s.marked n).lamp p = s.lamp p := rfl

/-- Two updates of one position leave the second. -/
@[simp] theorem State.setLamp_setLamp (s : State) (p : Pos) (l m : Lamp) : (s.setLamp p l).setLamp p m = s.setLamp p m := by
  cases p <;> rfl

theorem State.setLamp_marked (s : State) (p : Pos) (l : Lamp) (n : Nat) :
    (s.setLamp p l).marked n = (s.marked n).setLamp p l := by cases p <;> rfl

theorem State.setLamp_lampOffered (s : State) (p q : Pos) (l : Lamp) (m : LampMsg) :
    (s.setLamp p l).lampOffered q m = (s.lampOffered q m).setLamp p l := by
  by_cases h : s.engine.state = .fault <;> cases p <;> cases q <;> simp [State.lampOffered, State.setLamp, h]

theorem State.lampOffered_marked (s : State) (p : Pos) (m : LampMsg) (n : Nat) :
    (s.lampOffered p m).marked n = (s.marked n).lampOffered p m := by
  by_cases h : s.engine.state = .fault <;> cases p <;> simp [State.lampOffered, State.marked, h]

/-- Marking a record a second time changes nothing (R199). -/
theorem State.marked_marked (s : State) (n : Nat) : (s.marked n).marked n = s.marked n := by
  unfold State.marked dirtyWith
  by_cases h : n ∈ s.store.dirty <;> simp [h]

/-! ## The lamp unit -/

theorem strikeTest_spec (p : Pos) (s : State) : StrikeTested p s (strikeTest p s) := by
  unfold StrikeTested strikeTest
  constructor
  · intro h
    rw [if_pos ((mayStrike_iff p s).mpr h)]
    simp only [offerLamp_eq, State.lampOffered_lamp]
  · intro h
    rw [if_neg (fun h' => h ((mayStrike_iff p s).mp h'))]

theorem evalPower_spec (p : Pos) (s : State) : PowerEvaluated p s (evalPower p s) := by
  unfold PowerEvaluated evalPower
  refine ⟨?_, ?_, ?_⟩
  · intro hw hp hl
    simp [hw, hp, hl, offerLamp_eq]
  · intro hw hp hl hs
    simp [hw, hp, hl, hs, offerLamp_eq]
  · intro h
    rcases h with h | h | ⟨hl, hs⟩
    · simp [h]
    · simp [h]
    · dsimp only
      split
      · rfl
      · cases hst : (s.lamp p).state <;> simp_all

theorem cool_striking (p : Pos) (n : Nat) (s : State) (h : (s.lamp p).state ≠ .lit) :
    cool p n s = s.setLamp p { s.lamp p with state := .cooling, cooldown := n, window := none, continuous := 0 } := by
  unfold cool markIfLit; rw [if_neg h]

theorem cool_lit (p : Pos) (n : Nat) (s : State) (h : (s.lamp p).state = .lit) :
    cool p n s = (s.marked (lampNo p)).setLamp p
      { s.lamp p with state := .cooling, cooldown := n, window := none, continuous := 0, unstored := 0 } := by
  unfold cool markIfLit; rw [if_pos h, markLampDirty_eq]; simp

theorem setWanted_spec (eff : LampSet) (p : Pos) (s : State) : WantedSet eff p s (setWanted eff p s) := by
  unfold WantedSet setWanted
  refine ⟨?_, ?_, ?_⟩
  · intro hw he hl
    have hl' : (s.lamp p).state = .striking := hl
    simp only [hw, he, Bool.not_false, Bool.and_self, if_true, douseUnwanted, State.setLamp_lamp_same, hl', offerLamp_eq,
      State.setLamp_lampOffered]
    rw [cool_striking _ _ _ (by simp [hl'])]
    simp [Config.shortCooldown]
  · intro hw he hl
    have hl' : (s.lamp p).state = .lit := hl
    simp only [hw, he, Bool.not_false, Bool.and_self, if_true, douseUnwanted, State.setLamp_lamp_same, hl', offerLamp_eq,
      State.setLamp_lampOffered]
    rw [cool_lit _ _ _ (by simp [hl'])]
    simp [Config.longCooldown, State.setLamp_marked]
  · intro h
    have key : ((s.lamp p).wanted && !eff.has p) = false ∨ ((s.lamp p).state ≠ .striking ∧ (s.lamp p).state ≠ .lit) := by
      rcases h with h | h | h
      · exact .inl (by simp [h])
      · exact .inl (by simp [h])
      · exact .inr h
    rcases key with h | ⟨h1, h2⟩
    · simp [h]
    · dsimp only
      split
      · simp only [douseUnwanted, State.setLamp_lamp_same]
        cases hst : (s.lamp p).state <;> simp_all
      · rfl

theorem pursue_spec (eff : LampSet) (s : State) : Pursued eff s (pursue eff s) :=
  ⟨_, _, _, _, _, setWanted_spec eff .a s, setWanted_spec eff .b _, evalPower_spec .a _, evalPower_spec .b _,
    strikeTest_spec .a _, strikeTest_spec .b _⟩

theorem singleEffective_spec (s : State) (p : Pos) :
    ((s.lamp p).usable = true → singleEffective s p = .only p)
      ∧ ((s.lamp p).usable = false → (s.lamp (otherPos p)).usable = true → singleEffective s p = .only (otherPos p))
      ∧ ((s.lamp p).usable = false → (s.lamp (otherPos p)).usable = false → singleEffective s p = ⟨false, false⟩) := by
  unfold singleEffective
  refine ⟨fun h => by simp [h], fun h1 h2 => by simp [h1, h2], fun h1 h2 => by simp [h1, h2, LampSet.empty]⟩

theorem effectiveOf_spec (s : State) (d : Demand) : EffectiveSet d s (effectiveOf s d) := by
  unfold EffectiveSet effectiveOf
  refine ⟨fun h => by rw [h]; rfl, fun h => by rw [h], fun h => ?_⟩
  have hb : d.basis = .booking ∨ d.basis = .session := h
  refine ⟨?_, ?_, ?_⟩
  · intro ha
    rcases hb with hb | hb <;> rw [hb, ha] <;> cases d.plan <;> rfl
  · intro hp
    rcases hb with hb | hb <;> rw [hb, hp] <;> rcases hd : d.asked with ⟨x, y⟩ <;> cases x <;> cases y <;>
      simp [LampSet.empty, LampSet.inter]
  · intro p hp ha
    have h1 := singleEffective_spec s p
    rcases hb with hb | hb <;> rw [hb, ha] <;> rcases hp with hp | hp <;> rw [hp] <;> cases p <;>
      simpa [LampSet.only] using h1

/-- The recomputed set of a plan for one lamp: the usable position it is on, or the set computed afresh (R58). -/
theorem recomputedEffective_single (s : State) (hp : s.sched.demand.plan = .eco ∨ s.sched.demand.plan = .full)
    (ha : s.sched.demand.asked ≠ ⟨false, false⟩) :
    recomputedEffective s = if s.effective.a && s.lampA.usable then .only .a
      else if s.effective.b && s.lampB.usable then .only .b else effectiveOf s s.sched.demand := by
  unfold recomputedEffective
  generalize s.sched.demand = d at hp ha ⊢
  obtain ⟨basis, plan, ⟨x, y⟩, power, gap⟩ := d
  dsimp only at hp ha ⊢
  rcases hp with rfl | rfl <;> cases x <;> cases y <;> first | rfl | exact absurd rfl ha

theorem recomputedEffective_spec (s : State) (hb : s.sched.demand.basis = .booking ∨ s.sched.demand.basis = .session) :
    EffectiveAgain s (recomputedEffective s) := by
  refine ⟨?_, ?_, ?_⟩
  · intro ha; unfold recomputedEffective; dsimp only; rw [ha]; cases s.sched.demand.plan <;> rfl
  · intro hp
    unfold recomputedEffective
    dsimp only; rw [hp]; rcases hd : s.sched.demand.asked with ⟨x, y⟩
    cases x <;> cases y <;> simp [LampSet.empty, LampSet.inter]
  · intro p hp ha
    rw [recomputedEffective_single s hp (by rw [ha]; cases p <;> decide)]
    constructor
    · intro q hq hu
      rw [hq]; cases q
      · rw [if_pos]; exact hu
      · rw [if_neg (by simp [LampSet.only]), if_pos]; exact hu
    · intro hq hne
      have h2 := ((effectiveOf_spec s s.sched.demand).2.2 hb).2.2 p hp ha
      rw [if_neg, if_neg]
      · exact h2
      · have hb' := hq .b
        rcases he : s.effective with ⟨x, y⟩
        rw [he] at hb' hne
        cases x <;> cases y <;> simp_all [LampSet.only, State.lamp]
      · have ha' := hq .a
        rcases he : s.effective with ⟨x, y⟩
        rw [he] at ha' hne
        cases x <;> cases y <;> simp_all [LampSet.only, State.lamp]

theorem writeDemand_spec (d : Demand) (s : State) : DemandWritten d s (writeDemand d s) := by
  refine ⟨_, _, ?_, pursue_spec (effectiveOf { s with sched := { s.sched with demand := d } } d) _, ?_⟩
  · exact effectiveOf_spec { s with sched := { s.sched with demand := d } } d
  · unfold writeDemand Demand.substitutes
    simp only [State.setSched, Bool.and_eq_true, bne_iff_ne, ne_eq, Bool.or_eq_true, beq_iff_eq, LampSet.empty, noticeArg1,
      and_assoc]
    exact ite_congr rfl (fun _ => rfl) (fun _ => rfl)

theorem usabilityChanged_spec (s : State) : UsabilityRecomputed s (usabilityChanged s) := by
  unfold UsabilityRecomputed usabilityChanged Demand.substitutes
  constructor
  · intro h; rcases h with h | h <;> simp [h]
  · intro h
    refine ⟨_, recomputedEffective_spec s h, ?_, ?_⟩
    · intro he; rcases h with h | h <;> simp [h, he]
    · intro he
      refine ⟨_, pursue_spec _ s, ?_⟩
      rcases h with h | h <;> simp [h, he] <;> exact ite_congr rfl (fun _ => rfl) (fun _ => rfl)

theorem gapExit_spec (p : Pos) (s : State) : KeptLampExit p s (gapExit p s) := by
  unfold KeptLampExit gapExit
  refine ⟨?_, ?_, ?_⟩
  · intro hb hp ho
    have : s.sched.demand.asked.without p = .only (otherPos p) := by
      rcases hd : s.sched.demand.asked with ⟨x, y⟩
      cases p <;> simp_all [LampSet.has, LampSet.without, LampSet.only, otherPos]
    have hne : (LampSet.only (otherPos p)) ≠ .empty := by cases p <;> decide
    simp only [hb, hp, decide_true, Bool.and_self, if_true, this, hne, if_false]
    exact writeDemand_spec _ s
  · intro hb hp ho
    have : s.sched.demand.asked.without p = .empty := by
      rcases hd : s.sched.demand.asked with ⟨x, y⟩
      cases p <;> simp_all [LampSet.has, LampSet.without, LampSet.empty, otherPos]
    simp only [hb, hp, decide_true, Bool.and_self, if_true, this]
    exact writeDemand_spec _ s
  · intro h
    rcases h with h | h <;> simp [h]

/-! ## Failures, drops and reports -/

theorem enterFailed_spec (p : Pos) (code : Nat) (s : State) (h : 3 ≤ (s.lamp p).attempts) :
    AttemptCounted p code s (enterFailed p s) :=
  ⟨fun h' => absurd h (by omega), fun _ => ⟨_, gapExit_spec p _, usabilityChanged_spec _⟩⟩

theorem windowRunsOut_spec (p : Pos) (s : State) (h : (s.lamp p).state = .striking) : WindowRanOut p s (windowRunsOut p s) := by
  unfold WindowRanOut windowRunsOut
  simp only [offerLamp_eq, markLampDirty_eq, State.setLamp_marked, State.setLamp_setLamp, State.setLamp_lampOffered,
    State.setLamp_lamp_same, addWear, Config.failedStrikeCharge, Config.topWear, Config.failedAttempts]
  split
  · rw [cool_striking _ _ _ (by simp [h])]
    simp only [State.setLamp_setLamp, State.setLamp_lamp_same]
    refine ⟨fun _ => ?_, fun h' => absurd h' (by simp only [State.setLamp_lamp_same]; omega)⟩
    simp only [State.setLamp_setLamp, State.setLamp_lamp_same]
    exact gapExit_spec p _
  · exact enterFailed_spec p 2 _ (by simp only [State.setLamp_lamp_same]; omega)

theorem enterLit_spec (p : Pos) (s : State) :
    PowerEvaluated p (raiseNotice .lamp 1 (noticeArg (posByte p) 0 0 0)
      ((s.marked (lampNo p)).setLamp p { s.lamp p with
        state := .lit, window := none, continuous := 0, unstored := 0,
        record := { (s.lamp p).record with wear := min 4294967295 ((s.lamp p).record.wear + 2880),
                                           strikes := min 65535 ((s.lamp p).record.strikes + 1) } })) (enterLit p s) := by
  unfold enterLit
  simp only [markLampDirty_eq, State.setLamp_marked, State.setLamp_setLamp, State.setLamp_lamp_same, addWear,
    Config.strikeCharge, Config.topWear]
  exact evalPower_spec p _

theorem dropLamp_spec (p : Pos) (s : State) (h : (s.lamp p).state = .lit) :
    AttemptCounted p 4 ((s.marked (lampNo p)).setLamp p { s.lamp p with
      attempts := (s.lamp p).attempts + 1, continuous := 0, unstored := 0 }) (dropLamp p s) := by
  unfold dropLamp
  simp only [markLampDirty_eq, State.setLamp_marked, State.setLamp_setLamp, State.setLamp_lamp_same, Config.failedAttempts]
  split
  · rw [cool_lit _ _ _ (by simp [h])]
    simp only [State.setLamp_setLamp, State.setLamp_lamp_same, State.setLamp_marked, State.marked_marked]
    refine ⟨fun _ => ?_, fun h' => absurd h' (by simp only [State.setLamp_lamp_same]; omega)⟩
    simp only [State.setLamp_setLamp, State.setLamp_lamp_same]
    exact gapExit_spec p _
  · exact enterFailed_spec p 4 _ (by simp only [State.setLamp_lamp_same]; omega)

theorem dousePends_iff (e : Engine) (p : Pos) :
    e.dousePends p = true ↔ e.lampSlot p = some .douse ∨ e.inFlight = some (.lamp p .douse) := by
  simp [Engine.dousePends]

theorem lampReport_spec (p : Pos) (lit : Bool) (s : State) : LampReported p lit s (lampReport p lit s) := by
  refine ⟨?_, ?_, ?_, ?_⟩
  · rintro rfl h
    have : lampReport p true s = enterLit p s := by unfold lampReport; rw [h]
    rw [this]; exact enterLit_spec p s
  · rintro rfl h
    have : lampReport p false s = dropLamp p s := by unfold lampReport; rw [h]
    rw [this]; exact dropLamp_spec p s h
  · rintro rfl h1 h2 h3
    have : lampReport p true s = strayLit p s := by
      unfold lampReport; cases hs : (s.lamp p).state <;> simp_all
    rw [this, strayLit, if_neg, offerLamp_eq]; · rfl
    simpa [dousePends_iff] using h3
  · rintro (⟨rfl, h⟩ | ⟨rfl, h⟩ | ⟨rfl, h, hd⟩)
    · unfold lampReport; rw [h]
    · unfold lampReport; cases hs : (s.lamp p).state <;> simp_all
    · unfold lampReport; rw [h]; simp [strayLit, h, dousePends_iff, hd]

theorem cooldownEnds_spec (p : Pos) (s : State) : CooldownEnded p s (cooldownEnds p s) := by
  unfold CooldownEnded cooldownEnds LampRecord.isSpent LampRecord.spentLimit
  refine ⟨fun h => ?_, fun h => ?_⟩
  · rw [if_pos (by simpa using h)]; exact usabilityChanged_spec _
  · rw [if_neg (by simpa using h)]; exact strikeTest_spec p _

theorem takeThermal_spec (x : Thermal) (s : State) : ThermalTaken x s (takeThermal x s) :=
  ⟨_, evalPower_spec .a _, evalPower_spec .b _⟩

/-! ## Seconds -/

theorem litSecond_spec (p : Pos) (s : State) : LitSecond p s (litSecond p s) := by
  unfold LitSecond litSecond countUnstored unstoredWraps accrue
  refine ⟨fun h => by rw [if_neg h], fun h hu => ?_, fun h hu => ?_⟩
  · rw [if_pos h, if_neg (by simp; omega)]
    simp only [State.setLamp_setLamp, State.setLamp_lamp_same]; cases (s.lamp p).power <;> rfl
  · rw [if_pos h, if_pos (by simp; omega)]
    simp only [markLampDirty_eq, State.setLamp_marked, State.setLamp_setLamp, State.setLamp_lamp_same]
    cases (s.lamp p).power <;> rfl

theorem limitTest_spec (p : Pos) (s : State) : LimitTested p s (limitTest p s) := by
  unfold LimitTested limitTest
  refine ⟨fun h => by simp [h], fun h => ?_⟩
  rw [if_pos h]
  refine ⟨warnTest p s, ?_, ?_, ?_, ?_⟩
  · rintro ⟨h1, h2⟩; rw [warnTest, if_pos (by simp [h1]; exact h2)]; rfl
  · intro h'; rw [warnTest, if_neg (fun hc => h' (by simp at hc; exact hc))]
  · rintro ⟨h1, h2⟩
    have e : ((warnTest p s).lamp p).derated = (s.lamp p).derated ∧ ((warnTest p s).lamp p).record = (s.lamp p).record := by
      unfold warnTest; dsimp only; split
      · exact ⟨by simp, by simp⟩
      · exact ⟨rfl, rfl⟩
    rw [derateTest, if_pos (by simp [e.1, e.2, h1]; exact h2)]
    exact evalPower_spec p _
  · intro h'
    have e : ((warnTest p s).lamp p).derated = (s.lamp p).derated ∧ ((warnTest p s).lamp p).record = (s.lamp p).record := by
      unfold warnTest; dsimp only; split
      · exact ⟨by simp, by simp⟩
      · exact ⟨rfl, rfl⟩
    rw [derateTest, if_neg (fun hc => h' (by simp [e.1, e.2] at hc; exact hc))]

theorem machineSecond_spec (p : Pos) (s : State) : MachineSecond p s (machineSecond p s) := by
  unfold MachineSecond machineSecond
  dsimp only
  refine ⟨fun h => ?_, fun h => ?_, fun h => ?_, fun h1 h2 h3 => ?_⟩
  · have hw := windowRunsOut_spec p s h
    rw [h]
    refine ⟨fun hn => by rw [hn], fun n => ⟨fun hn => by rw [hn]; simp, fun hn hle => ?_⟩⟩
    rw [hn]; dsimp only; rw [if_pos hle]; exact hw
  · rw [h]
    refine ⟨fun n hn => by rw [hn]; simp, fun hc => ?_⟩
    dsimp only; rw [if_pos hc]; exact cooldownEnds_spec p s
  · rw [h]
    unfold countContinuous continuousReaches600 Config.provedLitSeconds
    dsimp only
    rw [h]
    refine ⟨fun hc => ?_, fun hc => ?_, fun hc => ?_⟩
    · rw [if_neg (by omega), if_neg (by omega)]
    · rw [if_neg (by omega), if_pos (by omega)]
    · rw [if_pos (by omega)]
  · cases hs : (s.lamp p).state <;> simp_all

end Sys2Proof.Machine
end

