-- ==== Sys2Proof/Laws/HoldContracts.lean ====
section
/-! SUPPORT. What the dousing of every burning lamp, the reports of the system holds and the expiry of the requested holds do, once,
in the words of `Sys2Proof.Safety`. -/

namespace Sys2Proof.Machine

/-! ## Every burning lamp cools -/

/-- A lamp that is neither STRIKING nor LIT. -/
theorem burning_false (l : Lamp) : l.burning = false ↔ l.state ≠ .striking ∧ l.state ≠ .lit := by
  simp [Lamp.burning]

/-- Where no lamp burns and none may be struck, pursuing a set changes the wanted flags only (R57). -/
theorem pursue_dark (eff : LampSet) (s : State) (ha : s.lampA.burning = false) (hb : s.lampB.burning = false)
    (hn : ∀ t, t.holds = s.holds → t.engine.state = s.engine.state → ∀ p, mayStrike p t = false) :
    pursue eff s = { s with lampA := { s.lampA with wanted := eff.a }, lampB := { s.lampB with wanted := eff.b } } := by
  rw [burning_false] at ha hb
  have e1 : setWanted eff .b (setWanted eff .a s)
      = { s with lampA := { s.lampA with wanted := eff.a }, lampB := { s.lampB with wanted := eff.b } } := by
    have h1 : setWanted eff .a s = { s with lampA := { s.lampA with wanted := eff.a } } :=
      (setWanted_spec eff .a s).2.2 (.inr (.inr ha))
    rw [h1]
    exact (setWanted_spec eff .b _).2.2 (.inr (.inr hb))
  unfold pursue
  rw [e1]
  generalize hu : ({ s with lampA := { s.lampA with wanted := eff.a }, lampB := { s.lampB with wanted := eff.b } } : State) = u
  have hA : u.lampA.state ≠ .lit ∧ (u.lampA.state = .striking → u.engine.strikeWaits .a = false) := by
    subst hu; exact ⟨ha.2, fun h => absurd h ha.1⟩
  have hB : u.lampB.state ≠ .lit ∧ (u.lampB.state = .striking → u.engine.strikeWaits .b = false) := by
    subst hu; exact ⟨hb.2, fun h => absurd h hb.1⟩
  have ea : evalPower .a u = u := (evalPower_spec .a u).2.2 (.inr (.inr hA))
  have eb : evalPower .b u = u := (evalPower_spec .b u).2.2 (.inr (.inr hB))
  have hm : ∀ p, mayStrike p u = false := hn u (by subst hu; rfl) (by subst hu; rfl)
  have ta : strikeTest .a u = u := by unfold strikeTest; rw [hm]; rfl
  have tb : strikeTest .b u = u := by unfold strikeTest; rw [hm]; rfl
  rw [evalPowers, ea, eb, strikeTests, ta, tb]

/-- The exit of a kept lamp where no lamp burns and none may be struck (R43, R73). -/
theorem gapExit_dark (p : Pos) (s : State) (ha : s.lampA.burning = false) (hb : s.lampB.burning = false)
    (hn : ∀ t, t.holds = s.holds → t.engine.state = s.engine.state → ∀ p, mayStrike p t = false) :
    gapExit p s = if s.sched.demand.basis = .gap ∧ s.sched.demand.asked.has p = true then
        let d : Demand := if s.sched.demand.asked.has (otherPos p) = true
          then { s.sched.demand with asked := .only (otherPos p) } else .idle
        { s with sched := { s.sched with demand := d }, lampA := { s.lampA with wanted := d.asked.a },
                 lampB := { s.lampB with wanted := d.asked.b } }
      else s := by
  have hw : ∀ d : Demand, d.basis = .gap ∨ d = .idle → writeDemand d s =
      { s with sched := { s.sched with demand := d }, lampA := { s.lampA with wanted := d.asked.a },
               lampB := { s.lampB with wanted := d.asked.b } } := by
    intro d hd
    have hsub : d.substitutes = false := by rcases hd with h | rfl <;> simp [Demand.substitutes, Demand.idle, *]
    have heff : effectiveOf (s.setSched { s.sched with demand := d }) d = d.asked := by
      rcases hd with h | rfl
      · simp [effectiveOf, h]
      · rfl
    unfold writeDemand
    dsimp only
    rw [hsub, heff, pursue_dark d.asked (s.setSched { s.sched with demand := d }) ha hb (fun t h1 h2 => hn t h1 h2)]
    rfl
  unfold gapExit
  by_cases h1 : s.sched.demand.basis = .gap
  · rcases hd : s.sched.demand with ⟨basis, plan, ⟨x, y⟩, power, gap⟩
    rw [hd] at h1; dsimp only at h1; subst h1
    cases p <;> cases x <;> cases y <;>
      simp [LampSet.has, LampSet.without, LampSet.empty, LampSet.only, otherPos, hw, Demand.idle]
  · simp [h1]

/-- The exits of the positions that burned, where no lamp burns any more and none may be struck (R43, R73). -/
theorem gapExits_dark (a b : Bool) (s : State) (ha : s.lampA.burning = false) (hb : s.lampB.burning = false)
    (hn : ∀ t, t.holds = s.holds → t.engine.state = s.engine.state → ∀ p, mayStrike p t = false) :
    ∃ d, GapAfterExits ⟨a, b⟩ s.sched.demand d ∧ gapExits a b s = if d = s.sched.demand then s else
      { s with sched := { s.sched with demand := d }, lampA := { s.lampA with wanted := d.asked.a },
               lampB := { s.lampB with wanted := d.asked.b } } := by
  have ga := gapExit_dark .a s ha hb hn
  have gb := gapExit_dark .b s ha hb hn
  by_cases h1 : s.sched.demand.basis = .gap
  · have gab := gapExit_dark .b (gapExit .a s)
    rcases hd : s.sched.demand with ⟨basis, plan, ⟨x, y⟩, power, gap⟩
    rw [hd] at ga gb h1; dsimp only at h1 ga gb; subst h1
    unfold gapExits GapAfterExits
    cases a <;> cases b
    · exact ⟨_, ⟨fun _ => rfl, fun _ h => (h (by simp [LampSet.inter])).elim⟩, by simp⟩
    · cases x <;> cases y <;> simp [LampSet.has, LampSet.only, LampSet.inter, otherPos, Demand.idle] at gb ⊢ <;> simp [gb]
    · cases x <;> cases y <;> simp [LampSet.has, LampSet.only, LampSet.inter, otherPos, Demand.idle] at ga ⊢ <;> simp [ga]
    · have k := gab (by rw [ga]; split <;> exact ha) (by rw [ga]; split <;> exact hb)
        (fun t h1 h2 => hn t (by rw [h1, ga]; split <;> rfl) (by rw [h2, ga]; split <;> rfl))
      cases x <;> cases y <;> simp [LampSet.has, LampSet.only, LampSet.inter, otherPos, Demand.idle] at ga ⊢ <;>
        rw [ga] at k ⊢ <;> simp [LampSet.has, LampSet.only, otherPos, Demand.idle, hd] at k ⊢ <;> simp [k]
  · refine ⟨_, ⟨fun _ => rfl, fun h => absurd h h1⟩, ?_⟩
    have ga' : gapExit .a s = s := by rw [ga, if_neg (fun h => h1 h.1)]
    have gb' : gapExit .b s = s := by rw [gb, if_neg (fun h => h1 h.1)]
    rw [if_pos rfl]
    unfold gapExits
    cases a <;> cases b <;> simp [ga', gb']

/-- The lamp after every burning lamp cooled for 120 s (R70, R71). -/
def Lamp.doused (l : Lamp) : Lamp :=
  match l.state with
  | .striking => { l with state := .cooling, cooldown := 120, window := none, continuous := 0 }
  | .lit => { l with state := .cooling, cooldown := 120, window := none, continuous := 0, unstored := 0 }
  | .empty | .cold | .cooling | .failed | .spent => l

theorem Lamp.doused_burning (l : Lamp) : l.doused.burning = false := by
  unfold Lamp.doused; cases h : l.state <;> simp [Lamp.burning, h]

/-- A DOUSE in each slot of a position that burns. -/
def Engine.doused (e : Engine) (a b : Bool) : Engine :=
  if e.state = .fault then e
  else { e with lampASlot := if a then some .douse else e.lampASlot, lampBSlot := if b then some .douse else e.lampBSlot }

/-- The records marked as the burning lamps cool. -/
def dousedDirty (s : State) : List Nat :=
  let d := if s.lampA.state = .lit then dirtyWith 17 s.store.dirty else s.store.dirty
  if s.lampB.state = .lit then dirtyWith 18 d else d

theorem holdDouse_both (s : State) : holdDouse .b (holdDouse .a s) =
    { s with lampA := s.lampA.doused, lampB := s.lampB.doused, engine := s.engine.doused s.lampA.burning s.lampB.burning,
             store := { s.store with dirty := dousedDirty s } } := by
  have key : ∀ (p : Pos) (u : State), holdDouse p u = (if (u.lamp p).burning then
      ((if (u.lamp p).state = .lit then (u.lampOffered p .douse).marked (lampNo p) else u.lampOffered p .douse).setLamp p
        (u.lamp p).doused) else u) := by
    intro p u
    unfold holdDouse
    by_cases hb : (u.lamp p).burning
    · rw [if_pos hb, if_pos hb, offerLamp_eq]
      rcases (burning_iff _).mp hb with h | h
      · rw [cool_striking _ _ _ (by simp [h])]; simp [Lamp.doused, h, Config.longCooldown]
      · rw [cool_lit _ _ _ (by simp [h])]; simp [Lamp.doused, h, Config.longCooldown]
    · rw [if_neg hb, if_neg hb]
  rw [key .a, key .b]
  rcases s with ⟨phase, clock, config, store, notices, holds, fire, bookings, sched, lampA, lampB, thermal, profiles, switch,
    meter, geom, gate, engine, link, panel, freeCount, pending⟩
  by_cases hf : engine.state = .fault <;> cases hA : lampA.state <;> cases hB : lampB.state <;>
    simp [State.lamp, Lamp.burning, Lamp.doused, Engine.doused, dousedDirty, State.lampOffered, State.marked, State.setLamp,
      lampNo, hf, hA, hB]

theorem faultCool_both (s : State) : faultCool .b (faultCool .a s) =
    { s with lampA := s.lampA.doused, lampB := s.lampB.doused, store := { s.store with dirty := dousedDirty s } } := by
  have key : ∀ (p : Pos) (u : State), faultCool p u = (if (u.lamp p).burning then
      ((if (u.lamp p).state = .lit then u.marked (lampNo p) else u).setLamp p (u.lamp p).doused) else u) := by
    intro p u
    unfold faultCool
    by_cases hb : (u.lamp p).burning
    · rw [if_pos hb, if_pos hb]
      rcases (burning_iff _).mp hb with h | h
      · rw [cool_striking _ _ _ (by simp [h])]; simp [Lamp.doused, h, Config.longCooldown]
      · rw [cool_lit _ _ _ (by simp [h])]; simp [Lamp.doused, h, Config.longCooldown]
    · rw [if_neg hb, if_neg hb]
  rw [key .a, key .b]
  rcases s with ⟨phase, clock, config, store, notices, holds, fire, bookings, sched, lampA, lampB, thermal, profiles, switch,
    meter, geom, gate, engine, link, panel, freeCount, pending⟩
  cases hA : lampA.state <;> cases hB : lampB.state <;>
    simp [State.lamp, Lamp.burning, Lamp.doused, dousedDirty, State.marked, State.setLamp, lampNo, hA, hB]

theorem mem_dirtyWith (n m : Nat) (d : List Nat) : m ∈ dirtyWith n d ↔ m = n ∨ m ∈ d := by
  unfold dirtyWith
  split
  · exact ⟨.inr, fun h => h.elim (fun h => h ▸ ‹_›) id⟩
  · simp [or_comm]

/-- The burning lamps have cooled, the slots hold what `e` gives them, and the kept lamps among them leave a GAP demand. -/
theorem burningCooled_of {slot : Pos → Option LampMsg} {s t : State} {e : Engine} {d : Demand}
    (hd : GapAfterExits ⟨s.lampA.burning, s.lampB.burning⟩ s.sched.demand d)
    (he : { e with lampASlot := s.engine.lampASlot, lampBSlot := s.engine.lampBSlot } = s.engine)
    (hs : ∀ p, ((s.lamp p).burning = true → e.lampSlot p = slot p)
      ∧ ((s.lamp p).burning = false → e.lampSlot p = s.engine.lampSlot p))
    (ht : t = { s with
      sched := { s.sched with demand := d }, engine := e, store := { s.store with dirty := dousedDirty s }
      lampA := { s.lampA.doused with wanted := if d = s.sched.demand then s.lampA.wanted else d.asked.a }
      lampB := { s.lampB.doused with wanted := if d = s.sched.demand then s.lampB.wanted else d.asked.b } }) :
    BurningCooled slot s t := by
  subst ht
  refine ⟨d, hd, rfl, he, rfl, ?_, ?_⟩
  · intro n
    show n ∈ dousedDirty s ↔ _
    have hp : (∃ p, n = lampNo p ∧ (s.lamp p).state = .lit) ↔
        (n = 17 ∧ s.lampA.state = .lit) ∨ (n = 18 ∧ s.lampB.state = .lit) :=
      ⟨fun ⟨p, h⟩ => by cases p; exact .inl h; exact .inr h, fun h => h.elim (fun h => ⟨.a, h⟩) (fun h => ⟨.b, h⟩)⟩
    rw [hp]
    unfold dousedDirty
    by_cases hA : s.lampA.state = .lit <;> by_cases hB : s.lampB.state = .lit <;>
      simp [hA, hB, mem_dirtyWith, or_comm, or_assoc]
  · intro p
    have h1 := (hs p).1
    have h2 := (hs p).2
    simp only [burning_iff, burning_false] at h1 h2
    cases p <;>
      exact ⟨fun h => ⟨by simp only [State.lamp] at h ⊢; simp [Lamp.doused, h, LampSet.has], h1 (.inl h)⟩,
        fun h => ⟨by simp only [State.lamp] at h ⊢; simp [Lamp.doused, h, LampSet.has], h1 (.inr h)⟩,
        fun ha hb => ⟨by
          simp only [State.lamp] at ha hb ⊢
          unfold Lamp.doused
          split <;> simp_all [LampSet.has], h2 ⟨ha, hb⟩⟩⟩

/-- A position may not be struck while a hold with STRIKE is in the table. -/
theorem mayStrike_held {s : State} (h : s.strikeHeld = true) (p : Pos) : mayStrike p s = false := by simp [mayStrike, h]

/-- A position may not be struck in FAULT. -/
theorem mayStrike_fault {s : State} (h : s.engine.state = .fault) (p : Pos) : mayStrike p s = false := by simp [mayStrike, h]

theorem State.strikeHeld_congr {s t : State} (h : t.holds = s.holds) : t.strikeHeld = s.strikeHeld := by
  simp [State.strikeHeld, h]

theorem Engine.doused_state (e : Engine) (a b : Bool) : (e.doused a b).state = e.state := by unfold Engine.doused; split <;> rfl

/-- The dousing of every burning lamp while a hold with STRIKE stands (R43, R70, R73). -/
theorem holdDouseAll_spec (s : State) (h : s.strikeHeld = true) :
    BurningCooled (fun p => if s.engine.state = .fault then s.engine.lampSlot p else some .douse) s (holdDouseAll s) := by
  unfold holdDouseAll
  rw [holdDouse_both]
  obtain ⟨d, hd, ht⟩ := gapExits_dark s.lampA.burning s.lampB.burning { s with
      lampA := s.lampA.doused, lampB := s.lampB.doused, engine := s.engine.doused s.lampA.burning s.lampB.burning,
      store := { s.store with dirty := dousedDirty s } } s.lampA.doused_burning s.lampB.doused_burning
    (fun t h1 _ p => mayStrike_held (by rw [State.strikeHeld_congr h1]; exact h) p)
  rw [ht]
  refine burningCooled_of (e := s.engine.doused s.lampA.burning s.lampB.burning) hd ?_ ?_ ?_
  · unfold Engine.doused; split <;> rfl
  · intro p
    by_cases hf : s.engine.state = .fault
    · simp [Engine.doused, hf]
    · cases p <;> cases ha : s.lampA.burning <;> cases hb : s.lampB.burning <;>
        simp [Engine.doused, hf, Engine.lampSlot, State.lamp, ha, hb]
  · by_cases hds : d = s.sched.demand
    · subst hds; simp only [if_true]
      rcases s.lampA with ⟨⟩; rcases s.lampB with ⟨⟩; unfold Lamp.doused; (repeat' split) <;> rfl
    · rw [if_neg hds, if_neg hds, if_neg hds]

/-- Every burning lamp's going out with the channel's FAULT (R43, R71, R73). -/
theorem faultCoolAll_spec (s : State) (h : s.engine.state = .fault) :
    BurningCooled (fun p => s.engine.lampSlot p) s (faultCoolAll s) := by
  unfold faultCoolAll
  rw [faultCool_both]
  obtain ⟨d, hd, ht⟩ := gapExits_dark s.lampA.burning s.lampB.burning { s with
      lampA := s.lampA.doused, lampB := s.lampB.doused, store := { s.store with dirty := dousedDirty s } }
    s.lampA.doused_burning s.lampB.doused_burning (fun t _ h2 p => mayStrike_fault (h2.trans h) p)
  rw [ht]
  refine burningCooled_of (e := s.engine) hd rfl (fun p => ⟨fun _ => rfl, fun _ => rfl⟩) ?_
  by_cases hds : d = s.sched.demand
  · subst hds; simp only [if_true]
    rcases s.lampA with ⟨⟩; rcases s.lampB with ⟨⟩; unfold Lamp.doused; (repeat' split) <;> rfl
  · rw [if_neg hds, if_neg hds, if_neg hds]

/-! ## Reports of the system holds -/

/-- A hold with STRIKE that has been put in a slot stands in the table. -/
theorem strikeHeld_set {s : State} {slot : Fin 16} {h : Hold} (hs : h.scopes.strike = true) :
    ({ s with holds := s.holds.set slot (some h) } : State).strikeHeld = true := by
  unfold State.strikeHeld
  rw [List.any_eq_true]
  exact ⟨some h, by rw [Vector.mem_toList_iff]; exact Vector.mem_set slot.isLt, hs⟩

theorem reportOnly_spec (slot : Fin 16) (h : Hold) (report : Bool) (s : State) (hd : h.kind.douses = true)
    (hs : h.scopes.strike = true) : ReportActed slot h report s (reportOnly slot h report s) := by
  refine ⟨fun h1 h2 => ?_, fun old h1 h2 => ?_, fun h1 => ?_⟩
  · subst h2
    unfold reportOnly
    rw [h1]
    dsimp only
    unfold placeHold
    rw [if_pos hd]
    exact holdDouseAll_spec _ (strikeHeld_set (s := s) hs)
  · subst h2; unfold reportOnly; rw [h1]; rfl
  · unfold reportOnly
    cases hh : s.holds[slot] <;> cases report <;> simp_all

theorem reportLifts_iff (slot : Fin 16) (report : Bool) (s : State) :
    reportLifts slot report s = true ↔ Lifts slot report s := by
  unfold reportLifts Lifts
  cases s.holds[slot] <;> cases report <;> simp

theorem reportHold_spec (slot : Fin 16) (h : Hold) (report : Bool) (s : State) (hd : h.kind.douses = true)
    (hs : h.scopes.strike = true) : ReportTaken slot h report s (reportHold slot h report s) := by
  refine ⟨_, reportOnly_spec slot h report s hd hs, fun hl => ?_, fun hl => ?_⟩
  · rw [reportHold, if_pos ((reportLifts_iff slot report s).mpr hl)]
  · rw [reportHold, if_neg (fun h' => hl ((reportLifts_iff slot report s).mp h'))]

/-! ## Expiry -/

theorem expired_iff (minute : Nat) (h : Hold) : h.expired minute = true ↔ ExpiresAt minute h := by
  unfold Hold.expired ExpiresAt
  cases h.expiry <;> simp

/-- The hold of a slot expires at the minute. -/
def slotExpires (minute : Nat) (s : State) (i : Fin 16) : Bool := s.holds[i].any (·.expired minute)

/-- The notices after the hold of a slot expired. -/
def expiredNotices (s : State) (i : Fin 16) : Vector Notice 9 :=
  match s.holds[i] with
  | some h => (holdExpiredNotice i.val h s).notices
  | none => s.notices

/-- The expiries of some slots, in order: each expiring hold leaves its slot, and the last names the notice (R113, R115). -/
theorem expireSlots_spec (minute : Nat) (l : List (Fin 16)) (s : State) (hl : l.Nodup) :
    let u := l.foldl (expireSlot minute) s
    { u with holds := s.holds, notices := s.notices } = s
      ∧ (∀ i, u.holds[i] = if i ∈ l ∧ slotExpires minute s i = true then none else s.holds[i])
      ∧ u.notices = ((l.filter (slotExpires minute s)).getLast?.map (expiredNotices s)).getD s.notices := by
  obtain ⟨r, rfl⟩ : ∃ r : List (Fin 16), l = r.reverse := ⟨l.reverse, by simp⟩
  induction r with
  | nil => exact ⟨rfl, fun i => by simp, rfl⟩
  | cons i r ih =>
    rw [List.reverse_cons] at hl ⊢
    generalize r.reverse = l at hl ih ⊢
    rw [List.nodup_append] at hl
    obtain ⟨h1, h2, h3⟩ := ih hl.1
    have hi : i ∉ l := fun h => hl.2.2 i h i (List.mem_singleton_self i) rfl
    have hsi : (l.foldl (expireSlot minute) s).holds[i] = s.holds[i] := by rw [h2 i, if_neg (fun h => hi h.1)]
    rw [List.foldl_append, List.foldl_cons, List.foldl_nil]
    generalize hu : l.foldl (expireSlot minute) s = u at h1 h2 h3 hsi
    dsimp only
    unfold expireSlot
    cases hh : s.holds[i] with
    | none =>
      rw [hsi, hh]
      have he : slotExpires minute s i = false := by simp [slotExpires, hh]
      refine ⟨h1, fun j => ?_, ?_⟩
      · dsimp only; rw [h2 j]
        by_cases hj : j = i
        · subst hj; simp [hi, he]
        · simp [hj]
      · dsimp only; rw [h3, List.filter_append]; simp [he]
    | some h =>
      rw [hsi, hh]
      dsimp only
      by_cases hx : h.expired minute = true
      · have he : slotExpires minute s i = true := by simp [slotExpires, hh, hx]
        rw [if_pos hx]
        refine ⟨h1, fun j => ?_, ?_⟩
        · show (u.holds.set i none)[j] = _
          by_cases hj : j = i
          · subst hj; simp [he]
          · have : (u.holds.set i none)[j] = u.holds[j] := by
              simp only [Fin.getElem_fin]; exact Vector.getElem_set_ne _ _ (fun h => hj (Fin.ext h.symm))
            rw [this, h2 j]; simp [hj]
        · rw [List.filter_append]
          have hn : u.notices.set (NoticeClass.hold).index
              { pending := true, code := 3, arg := holdNoticeArg i.val h } = expiredNotices s i := by
            rw [h3]
            simp only [expiredNotices, hh, raiseNotice]
            cases (l.filter (slotExpires minute s)).getLast? with
            | none => rfl
            | some k =>
              simp only [Option.map_some, Option.getD_some, expiredNotices]
              cases s.holds[k] with
              | none => rfl
              | some m => simp [raiseNotice]
          have hg : (l.filter (slotExpires minute s) ++ [i].filter (slotExpires minute s)).getLast? = some i := by simp [he]
          rw [hg]
          exact hn
      · have he : slotExpires minute s i = false := by simp [slotExpires, hh, hx]
        rw [if_neg hx]
        refine ⟨h1, fun j => ?_, ?_⟩
        · rw [h2 j]
          by_cases hj : j = i
          · subst hj; simp [hi, he]
          · simp [hj]
        · rw [h3, List.filter_append]; simp [he]

/-- The slots of the requested holds are the slots from 4, in order. -/
theorem requestedSlots_split : ∀ i : Fin 16, 4 ≤ i.val →
    requestedSlots = requestedSlots.take (i.val - 4) ++ i :: requestedSlots.drop (i.val - 3)
      ∧ ∀ j ∈ requestedSlots.drop (i.val - 3), i < j := by decide

theorem mem_requestedSlots : ∀ i : Fin 16, i ∈ requestedSlots ↔ 4 ≤ i.val := by decide

theorem slotExpires_iff (minute : Nat) (s : State) (i : Fin 16) :
    slotExpires minute s i = true ↔ ∃ h, s.holds[i] = some h ∧ ExpiresAt minute h := by
  unfold slotExpires
  cases s.holds[i] <;> simp [expired_iff]

theorem expireHolds_spec (minute : Nat) (s : State) : HoldsExpired minute s (expireHolds minute s) := by
  obtain ⟨h1, h2, h3⟩ := expireSlots_spec minute requestedSlots s (by decide)
  refine ⟨requestedSlots.foldl (expireSlot minute) s, h1, ?_, ?_, ?_, ?_, ?_, ?_⟩
  · intro i hi
    rw [h2 i, if_neg (fun h => absurd ((mem_requestedSlots i).mp h.1) (by omega))]
  · intro i hi
    rw [h2 i]
    refine ⟨fun h hh hx => if_pos ⟨(mem_requestedSlots i).mpr hi, (slotExpires_iff _ _ _).mpr ⟨h, hh, hx⟩⟩, fun hn => ?_⟩
    rw [if_neg]
    rintro ⟨_, h⟩
    obtain ⟨k, hk, hx⟩ := (slotExpires_iff _ _ _).mp h
    exact hn k hk hx
  · intro hn
    have : requestedSlots.filter (slotExpires minute s) = [] := by
      rw [List.filter_eq_nil_iff]
      intro i hi h
      obtain ⟨k, hk, hx⟩ := (slotExpires_iff _ _ _).mp h
      exact hn i k ((mem_requestedSlots i).mp hi) hk hx
    rw [h3, this]; rfl
  · intro i h hi hh hx hj
    have hf : (requestedSlots.drop (i.val - 3)).filter (slotExpires minute s) = [] := by
      rw [List.filter_eq_nil_iff]
      intro j hjm h'
      obtain ⟨k, hk, hx⟩ := (slotExpires_iff _ _ _).mp h'
      exact hj j ((requestedSlots_split i hi).2 j hjm) k hk hx
    have he : slotExpires minute s i = true := (slotExpires_iff _ _ _).mpr ⟨h, hh, hx⟩
    rw [h3, (requestedSlots_split i hi).1, List.filter_append, List.filter_cons, if_pos he, hf]
    simp [expiredNotices, hh]
  · rintro ⟨i, h, hi, hh, hx, hs⟩
    have : expiryFreesStrike minute s = true := by
      unfold expiryFreesStrike
      rw [List.any_eq_true]
      exact ⟨i, (mem_requestedSlots i).mpr hi, by rw [hh]; simp [expired_iff, hx, hs]⟩
    rw [expireHolds, if_pos this]
  · intro hn
    have : ¬ expiryFreesStrike minute s = true := by
      unfold expiryFreesStrike
      rw [List.any_eq_true]
      rintro ⟨i, hi, h⟩
      cases hh : s.holds[i] with
      | none => simp [hh] at h
      | some k =>
        rw [hh] at h
        simp only [Option.any_some, Bool.and_eq_true, expired_iff] at h
        rw [hn i k ((mem_requestedSlots i).mp hi) hh h.1] at h
        exact absurd h.2 (by simp)
    rw [expireHolds, if_neg this]

/-! ## A HOLD and the minute arrival it meets (R117) -/

theorem checkedMinute_spec (m : Meeting) (k : Clock) : CheckedAt m k (checkedMinute m k) := by
  unfold CheckedAt checkedMinute Config.topMinute
  cases m <;> simp <;> (repeat' split) <;> simp_all <;> omega

theorem checkedAt_eq {m : Meeting} {k : Clock} {minute : Nat} (h : CheckedAt m k minute) : minute = checkedMinute m k := by
  obtain ⟨h1, h2, h3⟩ := h
  unfold checkedMinute Config.topMinute
  cases m
  · exact h3 (.inl rfl)
  · dsimp only; split
    · rename_i c; exact h1 rfl c.1 c.2
    · rename_i c; exact h3 (.inr (.inl ⟨rfl, by omega⟩))
  · dsimp only; split
    · rename_i c; exact h2 rfl c
    · rename_i c; exact h3 (.inr (.inr ⟨rfl, c⟩))

theorem arrivalLifts_spec (h : Hold) (s : State) :
    (h.expiry ≠ some s.clock.minute → arrivalLifts h s = s)
    ∧ (h.expiry = some s.clock.minute → HoldsExpired s.clock.minute s (arrivalLifts h s)) :=
  ⟨fun c => if_neg c, fun c => by rw [arrivalLifts, if_pos c]; exact expireHolds_spec _ s⟩

@[simp] theorem arrivalLifts_fixed (h : Hold) (s : State) : (arrivalLifts h s).fixed = s.fixed := by
  unfold arrivalLifts; split <;> simp
@[simp] theorem arrivalLifts_reports (h : Hold) (s : State) : (arrivalLifts h s).reports = s.reports := by
  unfold arrivalLifts; split <;> simp
@[simp] theorem arrivalLifts_table (h : Hold) (s : State) : (arrivalLifts h s).table = s.table := by
  unfold arrivalLifts; split <;> simp
@[simp] theorem arrivalLifts_lampRecords (h : Hold) (s : State) : (arrivalLifts h s).lampRecords = s.lampRecords := by
  unfold arrivalLifts; split <;> simp
@[simp] theorem arrivalLifts_sources (h : Hold) (s : State) : (arrivalLifts h s).sources = s.sources := by
  unfold arrivalLifts; split <;> simp
@[simp] theorem arrivalLifts_room (h : Hold) (s : State) : (arrivalLifts h s).room = s.room := by
  unfold arrivalLifts; split <;> simp
@[simp] theorem arrivalLifts_medium (h : Hold) (s : State) : (arrivalLifts h s).medium = s.medium := by
  unfold arrivalLifts; split <;> simp
@[simp] theorem arrivalLifts_gate (h : Hold) (s : State) : (arrivalLifts h s).gate = s.gate := by
  unfold arrivalLifts; split <;> simp
@[simp] theorem arrivalLifts_geom (h : Hold) (s : State) : (arrivalLifts h s).geom = s.geom := by
  unfold arrivalLifts; split <;> simp
@[simp] theorem arrivalLifts_sched (h : Hold) (s : State) : (arrivalLifts h s).sched = s.sched := by
  unfold arrivalLifts; split <;> simp
@[simp] theorem arrivalLifts_store (h : Hold) (s : State) : (arrivalLifts h s).store = s.store := by
  unfold arrivalLifts; split <;> simp

end Sys2Proof.Machine
end

