-- ==== Sys2Proof/WellFormed.lean ====
section
/-! DEFINITION. Which commands are well formed: the operands whose shape the types leave open have the lengths of R193, a
damaged stored record fails its check byte, and a record number names one of the 67 records. -/

namespace Sys2Proof

/-- A label is 8 bytes (R193). -/
def ProfileRaw.wf (p : ProfileRaw) : Bool := p.label.length == 8

/-- The record carries one level for each of the nine classes (R193, R194). -/
def ConfigRaw.wf (r : ConfigRaw) : Bool := r.levels.length == 9

/-- A damaged record's check byte does not agree with its content (R199). -/
def Damage.wf (d : Damage) : Bool := d.error != 0

/-- See `Damage.wf`. -/
def ReadBack.wf : ReadBack → Bool
  | .matched => true
  | .kept => true
  | .damaged d => d.wf

/-- A stored record's number is 0 to 66 (R199). -/
def recordNumber (n : Nat) : Bool := n < 67

/-- A write that failed in the flush names a record and did not match (R201). -/
def flushFailure (x : Nat × ReadBack) : Bool := recordNumber x.1 && x.2.wf && x.2 != .matched

/-- The well-formed commands. -/
def Instr.wf : Instr → Bool
  | .book _ _ => true
  | .rebk _ _ => true
  | .unbk _ _ => true
  | .find _ _ => true
  | .next _ _ => true
  | .endn _ _ => true
  | .time _ _ _ => true
  | .clck _ => true
  | .sesn _ => true
  | .sesf _ => true
  | .lamp _ => true
  | .fitl _ _ _ _ => true
  | .reml _ _ => true
  | .clrf _ _ => true
  | .hold _ _ => true
  | .lift _ _ => true
  | .hlds _ => true
  | .srce _ _ => true
  | .prof _ _ p => p.wf
  | .prfr _ _ => true
  | .sigs _ => true
  | .prst _ _ _ => true
  | .prsr _ _ => true
  | .appl _ _ => true
  | .crnr _ => true
  | .mute _ => true
  | .unmt _ => true
  | .summ _ => true
  | .nlvl _ _ _ => true
  | .conf _ r => r.wf
  | .cnfr _ => true
  | .rstr _ => true
  | .restartFlushEnd failed => failed.all flushFailure
  | .keyStrobe _ => true
  | .powerOn => true
  | .powerOff => true
  | .muteKey => true
  | .sourceKey => true
  | .presetKey => true
  | .unknownKey => true
  | .secondArrival => true
  | .minuteArrival => true
  | .unstoredLitSecondsWrap _ => true
  | .continuousLit600 _ => true
  | .strikeWindowRunsOut _ => true
  | .cooldownEnd _ => true
  | .unattendedEnd => true
  | .graceRunsOut => true
  | .takeTimeout => true
  | .settleTimeout => true
  | .lossTimerRunsOut => true
  | .frameEdge _ => true
  | .lineEdge => true
  | .acknowledgeTimeout => true
  | .engineAcknowledge => true
  | .engineInboundStrobe _ => true
  | .lampSense => true
  | .thermal => true
  | .door => true
  | .statusReport => true
  | .matrixInboundStrobe _ => true
  | .takeAck => true
  | .presence => true
  | .fireLineChange _ => true
  | .frameBegin => true
  | .requestFrameEnd _ => true
  | .fetchFrame => true
  | .malformedFrame => true
  | .overrunFrame => true
  | .replyStaging => true
  | .writeEnd r => r.wf
  | .retryWaitEnd n => recordNumber n
  | .powerReset d => d.wf
  | .startUpEnd => true
  | .byteCompletion _ => true

end Sys2Proof
end

