-- ==== Sys2Proof/Laws/PerInstr.lean ====
section
/-! SUPPORT. A statement made for each command as syntax: a command that a request frame hands over is well formed. -/

namespace Sys2Proof.Laws.HandedOver

open Sys2Proof.Machine

/-- A command that a request frame hands over is well formed (R183, R193). -/
def Statement (i : Instr) : Prop := ∀ n c m ps, rowOf n c m ps = i → i.wf = true

/-- Whatever a frame hands over has the lengths of R193. -/
theorem rowOf_wf (n : ReqName) (c : Class) (m : Meeting) (ps : List Byte) : (rowOf n c m ps).wf = true := by cases n <;> rfl

/-- The statement for any command. -/
theorem holds (i : Instr) : Statement i := fun n c m ps h => h ▸ rowOf_wf n c m ps

theorem book c g : Statement (.book c g) := holds _
theorem rebk c g : Statement (.rebk c g) := holds _
theorem unbk c tag : Statement (.unbk c tag) := holds _
theorem find c tag : Statement (.find c tag) := holds _
theorem next c minute : Statement (.next c minute) := holds _
theorem endn c tag : Statement (.endn c tag) := holds _
theorem time c minute second : Statement (.time c minute second) := holds _
theorem clck c : Statement (.clck c) := holds _
theorem sesn c : Statement (.sesn c) := holds _
theorem sesf c : Statement (.sesf c) := holds _
theorem lamp c : Statement (.lamp c) := holds _
theorem fitl c position serial rated : Statement (.fitl c position serial rated) := holds _
theorem reml c position : Statement (.reml c position) := holds _
theorem clrf c position : Statement (.clrf c position) := holds _
theorem hold c h : Statement (.hold c h) := holds _
theorem lift c tag : Statement (.lift c tag) := holds _
theorem hlds c : Statement (.hlds c) := holds _
theorem srce c input : Statement (.srce c input) := holds _
theorem prof c input p : Statement (.prof c input p) := holds _
theorem prfr c input : Statement (.prfr c input) := holds _
theorem sigs c : Statement (.sigs c) := holds _
theorem prst c number p : Statement (.prst c number p) := holds _
theorem prsr c number : Statement (.prsr c number) := holds _
theorem appl c number : Statement (.appl c number) := holds _
theorem crnr c : Statement (.crnr c) := holds _
theorem mute c : Statement (.mute c) := holds _
theorem unmt c : Statement (.unmt c) := holds _
theorem summ c : Statement (.summ c) := holds _
theorem nlvl c position level : Statement (.nlvl c position level) := holds _
theorem conf c r : Statement (.conf c r) := holds _
theorem cnfr c : Statement (.cnfr c) := holds _
theorem rstr c : Statement (.rstr c) := holds _
theorem restartFlushEnd failed : Statement (.restartFlushEnd failed) := holds _
theorem keyStrobe code : Statement (.keyStrobe code) := holds _
theorem powerOn : Statement .powerOn := holds _
theorem powerOff : Statement .powerOff := holds _
theorem muteKey : Statement .muteKey := holds _
theorem sourceKey : Statement .sourceKey := holds _
theorem presetKey : Statement .presetKey := holds _
theorem unknownKey : Statement .unknownKey := holds _
theorem secondArrival : Statement .secondArrival := holds _
theorem minuteArrival : Statement .minuteArrival := holds _
theorem unstoredLitSecondsWrap p : Statement (.unstoredLitSecondsWrap p) := holds _
theorem continuousLit600 p : Statement (.continuousLit600 p) := holds _
theorem strikeWindowRunsOut p : Statement (.strikeWindowRunsOut p) := holds _
theorem cooldownEnd p : Statement (.cooldownEnd p) := holds _
theorem unattendedEnd : Statement .unattendedEnd := holds _
theorem graceRunsOut : Statement .graceRunsOut := holds _
theorem takeTimeout : Statement .takeTimeout := holds _
theorem settleTimeout : Statement .settleTimeout := holds _
theorem lossTimerRunsOut : Statement .lossTimerRunsOut := holds _
theorem frameEdge time : Statement (.frameEdge time) := holds _
theorem lineEdge : Statement .lineEdge := holds _
theorem acknowledgeTimeout : Statement .acknowledgeTimeout := holds _
theorem engineAcknowledge : Statement .engineAcknowledge := holds _
theorem engineInboundStrobe m : Statement (.engineInboundStrobe m) := holds _
theorem lampSense : Statement .lampSense := holds _
theorem thermal : Statement .thermal := holds _
theorem door : Statement .door := holds _
theorem statusReport : Statement .statusReport := holds _
theorem matrixInboundStrobe m : Statement (.matrixInboundStrobe m) := holds _
theorem takeAck : Statement .takeAck := holds _
theorem presence : Statement .presence := holds _
theorem fireLineChange active : Statement (.fireLineChange active) := holds _
theorem frameBegin : Statement .frameBegin := holds _
theorem requestFrameEnd e : Statement (.requestFrameEnd e) := holds _
theorem fetchFrame : Statement .fetchFrame := holds _
theorem malformedFrame : Statement .malformedFrame := holds _
theorem overrunFrame : Statement .overrunFrame := holds _
theorem replyStaging : Statement .replyStaging := holds _
theorem writeEnd r : Statement (.writeEnd r) := holds _
theorem retryWaitEnd record : Statement (.retryWaitEnd record) := holds _
theorem powerReset cutOff : Statement (.powerReset cutOff) := holds _
theorem startUpEnd : Statement .startUpEnd := holds _
theorem byteCompletion b : Statement (.byteCompletion b) := holds _

end Sys2Proof.Laws.HandedOver
end

