-- ==== Sys2Proof/Laws/ReportContracts.lean ====
section
/-! SUPPORT. What the effective preset is and what the LAMP, SIGS and CRNR reports carry, once, in the words of
`Sys2Proof.Safety`. -/

namespace Sys2Proof.Machine

/-! ## The effective preset -/

theorem activeBooking_some_iff (s : State) (b : Booking) : s.activeBooking = some b ↔ ActiveBooking b s := by
  unfold State.activeBooking ActiveBooking
  rw [List.find?_eq_some_iff_append]
  constructor
  · rintro ⟨hb, earlier, later, h, hx⟩
    exact ⟨earlier, later, h, by simpa using hb, fun x hm => by simpa using hx x hm⟩
  · rintro ⟨earlier, later, h, hb, hx⟩
    exact ⟨by simpa using hb, earlier, later, h, fun x hm => by simp [hx x hm]⟩

theorem bookingPreset_some_iff (s : State) (p : PresetNo) :
    s.bookingPreset = some p ↔ ∃ b, ActiveBooking b s ∧ b.given.preset = some p := by
  unfold State.bookingPreset
  rw [Option.bind_eq_some_iff]
  exact exists_congr fun b => and_congr_left' (activeBooking_some_iff s b)

theorem bookingPreset_none_iff (s : State) :
    s.bookingPreset = none ↔ ∀ b, ActiveBooking b s → b.given.preset = none := by
  unfold State.bookingPreset
  rw [Option.bind_eq_none_iff]
  exact forall_congr' fun b => imp_congr (activeBooking_some_iff s b) Iff.rfl

theorem presetFrom_effectivePreset (s : State) (i : Input) : PresetFrom s i (effectivePreset s i) (presetSource s) := by
  unfold PresetFrom effectivePreset presetSource
  rw [← bookingPreset_none_iff]
  simp only [← bookingPreset_some_iff]
  cases s.geom.override <;> cases s.bookingPreset <;> simp

/-! ## The reports -/

theorem reportCodes : ReportCodes :=
  ⟨fun _ => rfl, fun _ => rfl, rfl, rfl, rfl, rfl, rfl, rfl, rfl, rfl, rfl, rfl, fun _ => rfl, rfl, fun _ => rfl, rfl,
    fun _ => rfl, rfl, fun _ => rfl⟩

/-- A byte that is a sum of the eight weights has the bits of the summands. -/
theorem flag_bits (a b c d e f g h : Bool) :
    let x : Byte := (if a then 1 else 0) + (if b then 2 else 0) + (if c then 4 else 0) + (if d then 8 else 0)
      + (if e then 16 else 0) + (if f then 32 else 0) + (if g then 64 else 0) + (if h then 128 else 0)
    x.getLsbD 0 = a ∧ x.getLsbD 1 = b ∧ x.getLsbD 2 = c ∧ x.getLsbD 3 = d ∧ x.getLsbD 4 = e ∧ x.getLsbD 5 = f
      ∧ x.getLsbD 6 = g ∧ x.getLsbD 7 = h := by
  revert a b c d e f g h; decide

theorem wantedPower_eco_iff (s : State) (p : Pos) :
    s.wantedPower p = .eco ↔ s.sched.demand.power = .eco ∨ (s.lamp p).derated = true ∨ s.thermal = .warn := by
  unfold State.wantedPower
  simp only [Bool.or_eq_true, decide_eq_true_eq, or_assoc]
  split
  · exact ⟨fun _ => ‹_›, fun _ => rfl⟩
  · exact ⟨fun h => Power.noConfusion h, fun h => absurd h ‹_›⟩

theorem lampFlags_spec (s : State) (p : Pos) : LampFlags s p (lampFlags s p) := by
  have h := flag_bits (s.lamp p).record.fitted (s.lamp p).record.estimated (s.lamp p).wanted
    (decide ((s.lamp p).wanted = true ∧ s.wantedPower p = .eco)) (s.lamp p).derated (decide (s.thermal = .warn))
    (s.lamp p).window.isSome (decide ((s.lamp p).power = .eco))
  simp only [decide_eq_true_eq] at h
  obtain ⟨h0, h1, h2, h3, h4, h5, h6, h7⟩ := h
  refine ⟨h0, h1, h2, ?_, h4, ?_, h6, ?_⟩
  · rw [show (lampFlags s p).getLsbD 3 = _ from h3, decide_eq_true_eq]
    refine and_congr_right fun _ => ?_
    exact wantedPower_eco_iff s p
  · rw [show (lampFlags s p).getLsbD 5 = _ from h5, decide_eq_true_eq]
  · rw [show (lampFlags s p).getLsbD 7 = _ from h7, decide_eq_true_eq]

theorem lampBlock_spec (s : State) (p : Pos) : LampBlock s p (lampBlock s p) := by
  refine ⟨lampFlags s p, lampFlags_spec s p, ?_⟩
  unfold lampBlock LampRecord.equivalentHours LampRecord.hoursToSpent LampRecord.lifeUsed
  cases h : (s.lamp p).record.fitted
  · simp [h, be32, be16, byte, List.replicate]
  · by_cases k : (s.lamp p).record.wear < (s.lamp p).record.rated * 31680 <;>
      simp [h, k, LampRecord.warnLimit, LampRecord.derateLimit, LampRecord.spentLimit]

theorem lampReportBytes_spec (s : State) : LampReport s (lampReportBytes s) :=
  ⟨lampBlock s .a, lampBlock s .b, lampBlock_spec s .a, lampBlock_spec s .b, rfl⟩

theorem signalReportBytes_spec (s : State) : SignalReport s (signalReportBytes s) := by
  refine ⟨pendingBytes s.switch.pendingSel, lastFrameBytes s.freeCount s.meter.last, rfl, ?_, ?_, ?_, ?_⟩
  · intro h; rw [h]; rfl
  · intro x h; rw [h]; rfl
  · intro h; rw [h]; exact ⟨_, _, rfl⟩
  · intro f h; rw [h]; rfl

theorem cornerReportBytes_spec (s : State) : CornerReport s (cornerReportBytes s) := by
  have len : ∀ k (c : Option Corners), (optCornerBytes s.freeCount k c).length = 16 := fun k c => by cases c <;> rfl
  refine ⟨effectiveBytes s, optCornerBytes s.freeCount 0 (s.geom.wanted.map (·.corners)),
    optCornerBytes s.freeCount 8 s.geom.applied, rfl, ?_, ?_, ?_, len _ _, ?_, len _ _⟩
  · intro h; unfold effectiveBytes; rw [h]
  · intro i h; exact ⟨_, _, presetFrom_effectivePreset s i, by unfold effectiveBytes; rw [h]⟩
  · intro w h; rw [h]; rfl
  · intro c h; rw [h]; rfl

end Sys2Proof.Machine
end

