-- ==== Sys2Proof/Laws/SourceContracts.lean ====
section
/-! SUPPORT. What a geometry computation, a selection and the reports to the switch machine do, once, in the words of
`Sys2Proof.Safety`. -/

namespace Sys2Proof.Machine

/-! ## Geometry -/

theorem fit_eq (a : Aspect) : ((fit a).w, (fit a).h, (fit a).left, (fit a).top) = fitOf a := by cases a <;> rfl

theorem keystoneAmount_eq (n : Nat) (k : Int) : keystoneAmount n k = drawnIn n k := by
  unfold keystoneAmount drawnIn roundDiv; congr 1; omega

theorem clampX_eq (v : Int) : (clampX v : Int) = max 0 (min 1919 v) := by
  unfold clampX clampInt; (repeat' split) <;> omega

theorem clampY_eq (v : Int) : (clampY v : Int) = max 0 (min 1199 v) := by
  unfold clampY clampInt; (repeat' split) <;> omega

theorem computeCorners_spec (a : Aspect) (p : Preset) : FourStages a p (computeCorners a p) := by
  have h := fit_eq a
  simp only [Prod.ext_iff] at h
  obtain ⟨h1, h2, h3, h4⟩ := h
  unfold FourStages
  rw [← h1, ← h2, ← h3, ← h4]
  simp only [computeCorners, clampX_eq, clampY_eq, keystoneAmount_eq]
  refine ⟨?_, ?_, ?_, ?_, ?_, ?_, ?_, ?_⟩ <;> (congr 2; split <;> omega)

theorem compute_spec (i : Input) (s : State) : ComputedFor i s (compute i s) := by
  unfold ComputedFor compute offer Engine.place
  by_cases h : s.engine.state = .fault <;> simp [State.setGeom, State.setEngine, h]

theorem computeTarget_spec (s : State) : ComputedNow s (computeTarget s) := by
  unfold ComputedNow computeTarget
  cases geometryTarget s with
  | none => exact ⟨fun i h => (by cases h), fun _ => rfl⟩
  | some j => exact ⟨fun i h => (by cases h; exact compute_spec _ _), fun h => (by cases h)⟩

theorem computeIfChanged_spec (before : Option PresetNo) (s : State) : ComputedIfChanged before s (computeIfChanged before s) :=
  ⟨fun h => by rw [computeIfChanged, if_pos h], fun h => by rw [computeIfChanged, if_neg h]; exact computeTarget_spec s⟩

/-! ## Selections -/

theorem dealSelection_spec (sel : Selection) (s : State) : SelectionDealt sel s (dealSelection sel s) := by
  refine ⟨?_, ?_, ?_⟩
  · rintro ⟨h1, h2⟩; unfold dealSelection; rw [h1]; simp [h2]
  · rintro (⟨h1, h2⟩ | h | h)
    · unfold dealSelection; rw [h1]; simp [h2]; rfl
    · unfold dealSelection; rw [h]; rfl
    · unfold dealSelection; rw [h]; rfl
  · have hp : placePending sel s = { supersededIn s with
        switch := { s.switch with pendingSel := if s.switch.current = some sel.target then none else some sel } } := by
      unfold placePending supersede supersededIn
      cases s.switch.pendingSel <;> rfl
    rintro (h | h) <;> (unfold dealSelection; rw [h]; exact hp)

theorem alreadyShown_iff (i : Input) (s : State) :
    alreadyShown i s = true ↔ s.switch.state = .shown ∧ s.switch.current = some i := by
  simp [alreadyShown]

theorem makeSelection_spec (sel : Selection) (s : State) : Selected sel s (makeSelection sel s) := by
  refine ⟨fun h => ?_, fun h => ⟨_, dealSelection_spec sel s, ?_⟩⟩
  · rw [makeSelection, if_pos ((alreadyShown_iff _ _).mpr h)]
  · rw [makeSelection, if_neg (fun h' => h ((alreadyShown_iff _ _).mp h'))]

theorem autoSelection_held {i : Input} {k : SelKind} {s : State} (h : Held .automatic .source (some i) s) :
    autoSelection i k s = raiseNotice .source 5 (noticeArg (inputByte i) k.byte 0 0) s := by
  unfold autoSelection State.selectionHeld
  dsimp only
  rw [if_pos ((held_iff s _ _ _).mpr h)]; rfl

theorem autoSelection_open {i : Input} {k : SelKind} {s : State} (h : ¬ Held .automatic .source (some i) s) :
    autoSelection i k s = dealSelection { target := i, origin := .automatic, kind := k } s := by
  unfold autoSelection State.selectionHeld
  dsimp only
  rw [if_neg (fun h' => h ((held_iff s _ _ _).mp h'))]

/-! ## The switch machine -/

theorem enterShown_spec (s : State) : ShownEntered s (enterShown s) := by
  intro i hi
  refine ⟨geometrySeesShown i (shownNotice i s.switch.reachedBy
    (s.setSwitch { s.switch with state := .shown, grace := none, settleTimer := false })), _, rfl, ?_, ?_, ?_⟩
  · intro h; unfold geometrySeesShown; rw [if_pos]; · rfl
    exact h
  · intro h; unfold geometrySeesShown; rw [if_neg]; · exact compute_spec _ _
    exact h
  · unfold enterShown
    rw [hi]
    dsimp only
    generalize geometrySeesShown i _ = u
    unfold scheduleSeesShown State.setTable State.setSched
    dsimp only
    split <;> rfl

theorem stableReport_spec (s : State) : StableReported s (stableReport s) := by
  refine ⟨?_, ?_, ?_, ?_, ?_⟩
  · intro h; unfold stableReport; rw [h]; exact enterShown_spec s
  · intro h hp; unfold stableReport; rw [h]; dsimp only; unfold examinePending; rw [hp]; exact enterShown_spec s
  · intro sel h hp hh
    have hh' : (s.setSwitch { s.switch with pendingSel := none }).held sel.origin .source (some sel.target) = false :=
      held_false hh
    unfold stableReport; rw [h]; dsimp only; unfold examinePending; rw [hp]; dsimp only
    unfold State.selectionHeld
    rw [show s.held sel.origin .source (some sel.target) = false from held_false hh]
    rfl
  · intro sel h hp hh
    unfold stableReport; rw [h]; dsimp only; unfold examinePending; rw [hp]; dsimp only
    unfold State.selectionHeld
    rw [if_pos ((held_iff s _ _ _).mpr hh)]
    exact enterShown_spec _
  · intro h1 h2; unfold stableReport; cases hs : s.switch.state <;> simp_all

theorem graceRanOut_spec (s : State) (hn : s.switch.state = .noSignal) : GraceRanOut s (graceRanOut s) := by
  constructor
  · intro i f hc hf hp hr
    have hd : fallbackDue s = some f := by unfold fallbackDue; rw [hc]; dsimp only; rw [hf]; simp [hp, hr]
    constructor
    · intro hh
      have hh' : (s.setSwitch { s.switch with grace := none }).held .automatic .source (some f) = false := held_false hh
      unfold graceRanOut
      rw [hd]; dsimp only
      unfold State.selectionHeld; dsimp only
      rw [hh', (dealSelection_spec _ (s.setSwitch { s.switch with grace := none })).2.1 (.inr (.inr hn)), hc]
      rfl
    · intro hh
      have hh' : (s.setSwitch { s.switch with grace := none }).held .automatic .source (some f) = true := (held_iff s _ _ _).mpr hh
      unfold graceRanOut
      rw [hd]; dsimp only
      unfold State.selectionHeld; dsimp only
      rw [hh']; rfl
  · intro h
    have hd : fallbackDue s = none := by
      unfold fallbackDue
      cases hc : s.switch.current with
      | none => rfl
      | some i =>
        dsimp only
        cases hf : s.profiles[i].fallback with
        | none => rfl
        | some f => have := h i f hc hf; dsimp only; rw [if_neg]; rcases this with h | h <;> simp [h]
    unfold graceRanOut
    rw [hd]; rfl

theorem sourceSecond_spec (s : State) : SourceSecond s (sourceSecond s) := by
  unfold SourceSecond sourceSecond
  constructor
  · rintro (h | h)
    · rw [if_neg h]
    · rw [h]; simp
  · intro hn n
    rw [if_pos hn]
    refine ⟨fun hg => ?_, fun hg hle => ?_⟩
    · rw [hg]; simp [State.setSwitch]
    · rw [hg]; dsimp only; rw [if_pos hle]; exact graceRanOut_spec s hn

end Sys2Proof.Machine
end

