-- ==== Sys2Proof/Laws/TableContracts.lean ====
section
/-! SUPPORT. What the booking table and the schedule unit do, once, in the words of `Sys2Proof.Safety`. -/

namespace Sys2Proof.Machine

/-! ## The table -/

theorem optTag_eq (b : Option Booking) : optTag b = tagOf b := by cases b <;> rfl

theorem insertBooking_spec (b : Booking) (bs : List Booking) : PlacedInOrder b bs (insertBooking b bs) := by
  induction bs with
  | nil => exact ⟨[], [], rfl, rfl, fun x h => (by cases h), fun x h => (by cases h)⟩
  | cons x rest ih =>
    unfold insertBooking
    split
    · exact ⟨[], x :: rest, rfl, rfl, fun y h => (by cases h), fun y h => (by cases h; assumption)⟩
    · obtain ⟨pre, post, h1, h2, h3, h4⟩ := ih
      refine ⟨x :: pre, post, by rw [h1]; rfl, by rw [h2]; rfl, fun y hy => ?_, h4⟩
      rcases List.mem_cons.mp hy with rfl | hy
      · omega
      · exact h3 y hy

theorem evaluatesBridged_iff (bridge : Nat) (pred : Option Booking) (g : Given) : evaluatesBridged bridge pred g = true ↔
    ∃ p, pred = some p ∧ g.start - p.given.fin ≤ bridge ∧ p.given.plan ≠ .noLight ∧ g.plan ≠ .noLight := by
  unfold evaluatesBridged
  cases pred <;> simp [and_assoc]

theorem plannedWear_spec (lead : Nat) (bridged : Bool) (pred : Option Booking) (g : Given) (p : Pos) :
    PlannedAs lead bridged pred g p (plannedWear lead bridged pred g p) := by
  have hr : g.plan.rate = (match g.plan with | .noLight => 0 | .eco => 5 | .full => 8 | .dual => 8) := by
    cases g.plan <;> rfl
  unfold PlannedAs plannedWear
  rw [hr]
  refine ⟨fun h => if_pos h, fun h => ⟨fun q hq hb ha => ?_, fun hn => ?_⟩⟩
  · rw [if_neg h, hq, if_pos (by simp [continues, hb, ha])]; rfl
  · rw [if_neg h, if_neg]
    · rfl
    · cases hp : pred with
      | none => simp [continues]
      | some q => rcases hn q hp with hb | ha <;> simp [continues, *]

theorem evaluate_spec (cfg : ConfigRecord) (pred : Option Booking) (x : Booking) :
    EvaluatedAgainst cfg pred x (evaluate cfg pred x) := by
  refine ⟨evaluatesBridged_iff _ _ _, fun h => ?_, fun h => ?_, fun h => ?_, fun h => ?_, rfl⟩
  · simpa [evaluate, h] using plannedWear_spec cfg.lead _ pred x.given .a
  · simp [evaluate, h]
  · simpa [evaluate, h] using plannedWear_spec cfg.lead _ pred x.given .b
  · simp [evaluate, h]

theorem byWear_head (wcA wcB : Nat) : byWear wcA wcB =
    [if wcA ≤ wcB then .a else .b, otherPos (if wcA ≤ wcB then .a else .b)] := by
  unfold byWear; split <;> rfl

/-- The candidate order is a first position and the other one (R92). -/
theorem candidateOrder_spec (bridged : Bool) (pred : Option Booking) (wcA wcB : Nat) :
    ∃ first, ComesFirst bridged pred wcA wcB first ∧ candidateOrder bridged pred wcA wcB = [first, otherPos first] := by
  have plain (h : ∀ q, pred = some q → bridged = true → ∀ p, q.assignment ≠ .only p)
      (hc : candidateOrder bridged pred wcA wcB = byWear wcA wcB) :
      ∃ first, ComesFirst bridged pred wcA wcB first ∧ candidateOrder bridged pred wcA wcB = [first, otherPos first] :=
    ⟨_, ⟨fun q p hq hb ha => absurd ha (h q hq hb p), fun _ => rfl⟩, by rw [hc, byWear_head]⟩
  cases hb : bridged with
  | false => subst hb; exact plain (fun _ _ h => by cases h) rfl
  | true =>
    cases hp : pred with
    | none => subst hb hp; exact plain (fun _ h => by cases h) rfl
    | some q =>
      have single (p : Pos) (h : q.assignment = .only p) (hc : candidateOrder true (some q) wcA wcB = [p, otherPos p]) :
          ∃ first, ComesFirst true (some q) wcA wcB first ∧ candidateOrder true (some q) wcA wcB = [first, otherPos first] := by
        refine ⟨p, ⟨fun q' p' hq _ ha => ?_, fun hn => absurd h (hn q rfl rfl p)⟩, hc⟩
        cases hq
        rw [h] at ha
        cases p <;> cases p' <;> simp_all [LampSet.only]
      by_cases hA : q.assignment = .only .a
      · exact single .a hA (by simp [candidateOrder, hA, otherPos])
      · by_cases hB : q.assignment = .only .b
        · exact single .b hB (by rw [candidateOrder, if_neg hA, if_pos hB]; rfl)
        · subst hb hp
          exact plain (fun q' hq _ p => by cases hq; cases p <;> assumption) (by simp [candidateOrder, hA, hB])

/-- What the life check finds (R9, R19, R89, R90, R92, R93). -/
theorem lifeCheck_spec (s : State) (table : List Booking) (cA cB : Nat) (g : Given) :
    LifeChecked s table cA cB g (lifeCheck s table cA cB g) := by
  obtain ⟨first, hf, ho⟩ := candidateOrder_spec (evaluatesBridged s.config.bridge (predecessorAt g.start table) g)
    (predecessorAt g.start table) (s.lampA.record.wear + cA) (s.lampB.record.wear + cB)
  have pass (c n : Nat) (p : Pos) : LifePasses s c n p ↔ ((s.lamp p).usable && admits (s.lamp p).record c n) = true := by
    rw [Bool.and_eq_true, admits, decide_eq_true_iff]; rfl
  refine ⟨_, _, _, first, evaluatesBridged_iff _ _ _, plannedWear_spec _ _ _ _ _, plannedWear_spec _ _ _ _ _, hf, ?_⟩
  unfold lifeCheck chooseAssignment
  dsimp only
  rw [ho]
  simp only [pass]
  generalize evaluatesBridged s.config.bridge (predecessorAt g.start table) g = bridged
  generalize plannedWear s.config.lead bridged (predecessorAt g.start table) g .a = pA
  generalize plannedWear s.config.lead bridged (predecessorAt g.start table) g .b = pB
  have hA : (s.lamp .a) = s.lampA := rfl
  have hB : (s.lamp .b) = s.lampB := rfl
  rw [hA, hB]
  refine ⟨fun h => by rw [h]; rfl, fun h => ?_, fun h => ?_⟩
  · rw [h]
    refine ⟨fun ha hb => by rw [ha, hb]; rfl, fun hn => ?_⟩
    rw [← Bool.and_eq_true] at hn
    dsimp only
    rw [if_neg hn]; rfl
  · rcases h with h | h <;> rw [h] <;> cases first <;>
      simp only [otherPos, ofPos, hA, hB, List.find?_cons, List.find?_nil] <;>
      (refine ⟨fun h1 => ?_, fun h1 h2 => ?_, fun h1 h2 => ?_⟩ <;> simp [*, LampSet.only])

theorem evaluateTags_length (cfg : ConfigRecord) (tags : List Nat) (pred : Option Booking) (bs : List Booking) :
    (evaluateTags cfg tags pred bs).length = bs.length := by
  induction bs generalizing pred with
  | nil => rfl
  | cons b rest ih => simp [evaluateTags, ih]

/-- The bookings of the tags are evaluated in start order, each against the booking before it (R10). -/
theorem evaluateTags_get (cfg : ConfigRecord) (tags : List Nat) (pred : Option Booking) (bs : List Booking) (k : Nat)
    (x y : Booking) (hx : bs[k]? = some x) (hy : (evaluateTags cfg tags pred bs)[k]? = some y) :
    (x.given.tag ∈ tags →
        EvaluatedAgainst cfg (if k = 0 then pred else (evaluateTags cfg tags pred bs)[k - 1]?) x y)
      ∧ (x.given.tag ∉ tags → y = x) := by
  induction bs generalizing pred k with
  | nil => simp at hx
  | cons b rest ih =>
    unfold evaluateTags at hy ⊢
    cases k with
    | zero =>
      simp only [List.getElem?_cons_zero, Option.some.injEq] at hx hy
      subst hx hy
      exact ⟨fun h => by simpa [h] using evaluate_spec cfg pred b, fun h => by simp [h]⟩
    | succ k =>
      simp only [List.getElem?_cons_succ] at hx hy
      have := ih _ k hx hy
      cases k with
      | zero => simpa using this
      | succ k => simpa using this

theorem evaluateTags_spec (cfg : ConfigRecord) (tags : List Nat) (bs : List Booking) :
    TableEvaluated cfg tags bs (evaluateTags cfg tags none bs) :=
  ⟨evaluateTags_length cfg tags none bs, fun k x y hx hy => evaluateTags_get cfg tags none bs k x y hx hy⟩

theorem overcommitted_iff (l : Lamp) : l.overcommitted = true ↔ Overcommitted l := by
  unfold Lamp.overcommitted Overcommitted LampRecord.spentLimit
  cases l.record.fitted <;> simp

theorem testRisen_spec (before s : State) (h : s.notices = before.notices) : OvercommittedTested before (testRisen before s)
    ∧ { testRisen before s with notices := before.notices } = s := by
  unfold testRisen overcommittedTest OvercommittedTested RisenOver
  simp only [← overcommitted_iff]
  cases hA : s.lampA.overcommitted <;> cases hB : s.lampB.overcommitted <;>
    by_cases cA : before.lampA.committed < s.lampA.committed <;> by_cases cB : before.lampB.committed < s.lampB.committed <;>
    simp [LampSet.inter, LampSet.empty, cA, cB, hA, hB, raiseNotice, noticeArg1, LampSet.byte, ← h]

/-- A change of the table, with its slot marked or not, and the overcommitted test (R7, R13, R15). -/
theorem tableChanged_spec (bs : List Booking) (marked : Option Nat) (s : State) :
    TableChanged bs marked s (testRisen s (match marked with
      | some slot => markDirty (slotNo slot) (changeTable bs s)
      | none => changeTable bs s)) := by
  cases marked with
  | none => exact testRisen_spec s _ rfl
  | some slot =>
    simp only [TableChanged, ← markDirty_eq, ← changeTable_eq]
    exact testRisen_spec s _ (by unfold markDirty; split <;> rfl)

theorem tableWithout_spec (b : Booking) (s : State) :
    TableEvaluated s.config (tagOf (successorAt b.given.start s.bookings))
      (s.bookings.filter (fun y => y.given.tag != b.given.tag)) (tableWithout b s) := by
  unfold tableWithout; rw [optTag_eq]; exact evaluateTags_spec _ _ _

theorem departBooking_spec (b : Booking) (s : State) : TableChanged (tableWithout b s) (some b.slot) s (departBooking b s) :=
  tableChanged_spec (tableWithout b s) (some b.slot) s

theorem endGapIfDue_spec (s : State) : GapEnded s (endGapIfDue s) := by
  unfold GapEnded endGapIfDue
  constructor
  · rintro (h | ⟨b, rest, h, h1, h2, h3⟩)
    · rw [if_neg h]
    · split
      · rw [h]; dsimp only; rw [if_pos ⟨h1, h2, h3⟩]
      · rfl
  · intro h hn
    rw [if_pos h]
    cases hb : s.bookings with
    | nil => exact writeDemand_spec _ s
    | cons b rest =>
      dsimp only
      rw [if_neg (fun hc => hn ⟨b, rest, hb, hc.1, hc.2.1, hc.2.2⟩)]
      exact writeDemand_spec _ s

/-! ## The arrivals of a booking -/

theorem demandFor_eq (b : Booking) : bookingDemand b = demandFor b := by
  unfold bookingDemand demandFor; cases b.given.plan <;> rfl

theorem updateBooking_eq (tag : Nat) (f : Booking → Booking) (bs : List Booking) : updateBooking tag f bs = withBooking tag f bs := rfl

theorem lowestInput_some {set : InputSet} {i : Input} (h1 : hasInput set i = true) (h2 : ∀ j, j < i → hasInput set j = false) :
    lowestInput set = some i := by
  unfold lowestInput
  have key : ∀ i : Input, allInputs = allInputs.take i.val ++ i :: allInputs.drop (i.val + 1)
      ∧ ∀ j ∈ allInputs.take i.val, j < i := by decide
  rw [(key i).1, List.find?_append, List.find?_eq_none.mpr (fun j hj => by simp [h2 j ((key i).2 j hj)])]
  simp [h1]

theorem openingSelection_spec (g : Given) (s : State) : OpeningMade g s (openingSelection g s) := by
  constructor
  · intro ho he
    have : openingInput g = none := by
      unfold openingInput
      rw [ho]
      rcases he with he | he | he <;> cases hx : g.exam <;> simp_all <;> rfl
    unfold openingSelection; rw [this]
  · intro i hi
    have : openingInput g = some i := by
      unfold openingInput
      rcases hi with hi | ⟨ho, he, set, hs, h1, h2⟩
      · rw [hi]
      · rw [ho]; dsimp only; rw [he, hs]; simp [lowestInput_some h1 h2]
    unfold openingSelection; rw [this]
    refine ⟨fun h => autoSelection_held h, fun h => ?_⟩
    dsimp only
    rw [autoSelection_open h]
    exact dealSelection_spec _ s

theorem sessionOff_eq (s : State) : sessionOff s = sessionPutOff s := rfl

theorem leadArrival_spec (before : Option PresetNo) (b : Booking) (s : State) :
    LeadArrived before b s (leadArrival before b s) := by
  refine ⟨leadWarm b s, _, ?_, computeIfChanged_spec before _, openingSelection_spec _ _⟩
  unfold leadWarm
  rw [demandFor_eq]
  exact writeDemand_spec _ _

theorem examNoticeArg (b : Booking) : holdNoticeArg examSlot.val (examHold b) = noticeArg 3 255 0 0 := by
  simp [holdNoticeArg, examHold, HoldKind.byte]; rfl

theorem startArrival_spec (b : Booking) (s : State) : StartArrived b s (startArrival b s) := by
  have hs : (s.switch.state == .shown) = decide (s.switch.state = .shown) := by
    cases s.switch.state <;> rfl
  unfold StartArrived startArrival
  rw [hs]
  refine ⟨fun h => ?_, fun h => ?_⟩
  · rw [if_neg (by simp [h])]; rfl
  · rw [if_pos h, placeHold, holdPlacedNotice, examNoticeArg]; rfl

theorem liftExam_spec (b : Booking) (s : State) : ExamLifted b s (liftExam b s) := by
  unfold ExamLifted liftExam
  constructor
  · intro h hh ht
    rw [hh]; dsimp only; rw [if_pos ht]; rfl
  · intro hn
    cases hh : s.holds[examSlot] with
    | none => rfl
    | some h => dsimp only; rw [if_neg (hn h hh)]

theorem endDemand_spec (b : Booking) (s : State) : DemandAtEnd b s (endDemand b s) := by
  have hk : ∀ n, keptLamps b n s = keptAt b n s := fun _ => rfl
  unfold DemandAtEnd endDemand
  constructor
  · intro n hn hb hne
    rw [hn]; dsimp only
    rw [hk, if_pos (by simpa [hb, LampSet.empty] using hne)]
  · intro h
    cases hn : successorAt b.given.start s.bookings with
    | none => rfl
    | some n =>
      dsimp only
      rw [if_neg]
      rw [hk]
      rcases h n hn with h | h <;> simp [h, LampSet.empty]

/-- The last steps of an end arrival: the booking leaves the table, and nothing is active (R42). -/
theorem endedTable_eq (b : Booking) (u : State) :
    (dropBooking b u).setSched { (dropBooking b u).sched with active := none, startedAt := none } =
      ({ u with sched := { u.sched with active := none, startedAt := none } }.withTable
        (u.bookings.filter (fun y => y.given.tag != b.given.tag))).marked (slotNo b.slot) := by
  unfold dropBooking; rw [markDirty_eq]; rfl

theorem endBooking_spec (b : Booking) (s : State) : BookingRetired b s (endBooking b s) := by
  refine ⟨_, _, _, _, liftExam_spec b s, rfl, endDemand_spec b _, writeDemand_spec _ _, ?_⟩
  exact endedTable_eq b _

theorem retireMissed_spec (b : Booking) (s : State) : BookingMissed b s (retireMissed s b) :=
  ⟨_, _, _, tableWithout_spec b s, departBooking_spec b s, endGapIfDue_spec _, rfl⟩

/-! ## The schedule check -/

theorem activeBooking_eq {s : State} {b : Booking} (h : s.activeBooking = some b) : b ∈ s.bookings ∧ b.state ≠ .pending := by
  unfold State.activeBooking at h
  exact ⟨List.mem_of_find?_eq_some h, by simpa using List.find?_some h⟩

theorem activeBooking_eq_none {s : State} (h : s.activeBooking = none) : ∀ b ∈ s.bookings, b.state = .pending := by
  unfold State.activeBooking at h
  intro b hb
  simpa using List.find?_eq_none.mp h b hb

theorem startPhase_spec (u : State) :
    (∀ b, u.activeBooking = some b → b.state = .warming → b.given.start ≤ u.clock.minute → startPhase u = startArrival b u)
      ∧ ((∀ b, u.activeBooking = some b → b.state ≠ .warming ∨ u.clock.minute < b.given.start) → startPhase u = u) := by
  unfold startPhase startDue
  constructor
  · intro b hb h1 h2
    rw [hb]; dsimp only; rw [if_pos ⟨h1, h2⟩]
  · intro h
    cases hb : u.activeBooking with
    | none => rfl
    | some b =>
      dsimp only
      rw [if_neg]
      rintro ⟨h1, h2⟩
      rcases h b hb with h | h
      · exact h h1
      · omega

theorem leadAndStart_spec (before : Option PresetNo) (s : State) : LeadAndStart before s (leadAndStart before s) := by
  unfold leadAndStart
  cases hd : leadDue s with
  | some b =>
    unfold leadDue at hd
    cases ha : s.activeBooking with
    | some x => rw [ha] at hd; simp at hd
    | none =>
      cases hb : s.bookings with
      | nil => rw [ha, hb] at hd; simp at hd
      | cons x rest =>
        rw [ha, hb] at hd
        dsimp only at hd
        split at hd
        · rename_i hc
          cases hd
          refine ⟨leadArrival before b s, ?_, ?_, startPhase_spec _⟩
          · intro y r h _ _; rw [hb] at h; cases h; rfl
          · rintro (h | h | ⟨y, r, h, hl⟩)
            · exact absurd ha h
            · rw [hb] at h; cases h
            · rw [hb] at h; cases h; exact absurd hc.2 (by unfold leadMinute; omega)
        · cases hd
  | none =>
    refine ⟨computeIfChanged before s, ?_, fun _ => computeIfChanged_spec before s, startPhase_spec _⟩
    intro b rest hb ha hl
    have hp := activeBooking_eq_none ha b (by rw [hb]; exact List.mem_cons_self)
    unfold leadDue at hd
    rw [ha, hb] at hd
    dsimp only at hd
    rw [if_pos ⟨hp, hl⟩] at hd
    cases hd

theorem noShowDue_iff (b : Booking) (s : State) : noShowDue s = some b ↔ NoShow b s := by
  unfold noShowDue NoShow
  cases s.activeBooking with
  | none => simp
  | some x =>
    cases s.sched.startedAt with
    | none => simp
    | some m =>
      dsimp only
      constructor
      · intro h
        split at h
        · rename_i hc; cases h; exact ⟨rfl, hc.1, hc.2.1, hc.2.2.1, m, rfl, hc.2.2.2⟩
        · cases h
      · rintro ⟨h, h1, h2, h3, m', hm, h4⟩
        cases h; cases hm
        rw [if_pos ⟨h1, h2, h3, h4⟩]

theorem scheduleCheckFrom_spec (before : Option PresetNo) (s : State) :
    ScheduleChecked before s (scheduleCheckFrom before s) := by
  unfold scheduleCheckFrom
  refine ⟨fun h => by simp [h], fun h => ?_⟩
  rw [if_pos h]
  refine ⟨endPhase s, leadAndStart before (missedPhase (endPhase s)), ?_, ?_, leadAndStart_spec _ _, ?_, ?_⟩
  · intro b hb hf; unfold endPhase; rw [hb]; dsimp only; rw [if_pos hf]
  · intro hn
    unfold endPhase
    cases hb : s.activeBooking with
    | none => rfl
    | some b => dsimp only; rw [if_neg (by have := hn b hb; omega)]
  · intro b hb
    unfold noShowPhase
    rw [(noShowDue_iff b _).mpr hb]
    exact leadAndStart_spec _ _
  · intro hn
    unfold noShowPhase
    cases hd : noShowDue (leadAndStart before (missedPhase (endPhase s))) with
    | none => rfl
    | some b => exact absurd ((noShowDue_iff b _).mp hd) (hn b)

theorem reexamine_spec (s : State) : Reexamined s (reexamine s) := by
  unfold Reexamined reexamine
  constructor
  · intro ha hb
    rw [ha]
    cases hs : s.bookings with
    | nil => exact absurd hs hb
    | cons b rest =>
      dsimp only
      rw [if_pos (activeBooking_eq_none ha b (by rw [hs]; exact List.mem_cons_self))]
      exact scheduleCheckFrom_spec _ s
  · rintro (h | h)
    · cases ha : s.activeBooking with
      | none => exact absurd ha h
      | some b => rfl
    · rw [h]; cases s.activeBooking <;> rfl

/-! ## The session, seconds and minutes -/

theorem endSession_spec (s : State) : ∃ u, DemandWritten .idle (sessionPutOff s) u
    ∧ ComputedIfChanged (effectiveNow s) u (endSession s) :=
  ⟨_, writeDemand_spec _ _, computeIfChanged_spec _ _⟩

theorem sessionSecond_spec (s : State) : SessionSecond s (sessionSecond s) := by
  unfold SessionSecond sessionSecond unattendedLimit unattendedNext
  refine ⟨fun h => by simp [h], fun h hl => ?_, fun h hl => ?_⟩
  · rw [if_pos h, if_neg (by omega)]; rfl
  · rw [if_pos h, if_pos hl]
    obtain ⟨u, h1, h2⟩ := endSession_spec s
    exact ⟨u, _, h1, h2, rfl⟩

theorem secondHanded_spec (s : State) : SecondHanded s (secondHanded s) :=
  ⟨_, _, _, _, _, _, _, _, litSecond_spec .a s, litSecond_spec .b _, limitTest_spec .a _, limitTest_spec .b _,
    machineSecond_spec .a _, machineSecond_spec .b _, sourceSecond_spec _, sessionSecond_spec _, rfl⟩

theorem minuteHanded_spec (s : State) : MinuteHanded s (minuteHanded s) :=
  ⟨_, _, scheduleCheckFrom_spec _ s, expireHolds_spec _ _, rfl⟩

/-! ## The session -/

/-- What a session asks for, whatever its plan, as `SessionTurnedOn` says it (R48). -/
theorem sessionLamps_spec (s : State) :
    (s.lampA.usable = false → s.lampB.usable = false → sessionLamps s = ⟨false, false⟩)
    ∧ (s.config.plan = .dual → s.lampA.usable = true ∨ s.lampB.usable = true → sessionLamps s = ⟨true, true⟩)
    ∧ (s.config.plan = .full ∨ s.config.plan = .eco →
        (s.lampA.usable = true → s.lampB.usable = true → sessionLamps s =
          if s.lampA.record.wear + s.lampA.committed ≤ s.lampB.record.wear + s.lampB.committed then ⟨true, false⟩
          else ⟨false, true⟩)
        ∧ (s.lampA.usable = true → s.lampB.usable = false → sessionLamps s = ⟨true, false⟩)
        ∧ (s.lampA.usable = false → s.lampB.usable = true → sessionLamps s = ⟨false, true⟩)) := by
  unfold sessionLamps
  cases s.lampA.usable <;> cases s.lampB.usable <;> cases s.config.plan <;> simp [LampSet.empty, LampSet.only]

end Sys2Proof.Machine
end

