-- ==== Sys2Proof/Laws/StartUpContracts.lean ====
section
/-! SUPPORT. What start-up leaves, once, in the words of `Sys2Proof.Safety`: the load of the settings, the rebuild of the booking
table, the records that failed, and the flush of a restart. -/

namespace Sys2Proof.Machine

/-! ## Folds over the state -/

theorem foldl_keeps {α β : Type} (g : State → β) (f : State → α → State) (h : ∀ s a, g (f s a) = g s) (l : List α) (s : State) :
    g (l.foldl f s) = g s := by
  induction l generalizing s with
  | nil => rfl
  | cons a rest ih => rw [List.foldl_cons, ih, h]

/-- A fold that sets one item for each of its elements leaves the item of an element as that element sets it. -/
theorem foldl_sets {α β : Type} [DecidableEq α] (g : State → β) (f : State → α → State) (v : β) (i : α)
    (h1 : ∀ s, g (f s i) = v) (h2 : ∀ s a, a ≠ i → g (f s a) = g s) (l : List α) (hi : i ∈ l) (s : State) :
    g (l.foldl f s) = v := by
  have out : ∀ (l : List α) (s : State), i ∉ l → g (l.foldl f s) = g s := by
    intro l
    induction l with
    | nil => intro s _; rfl
    | cons a rest ih =>
      intro s hn
      rw [List.mem_cons, not_or] at hn
      rw [List.foldl_cons, ih _ hn.2, h2 _ _ (fun h => hn.1 h.symm)]
  induction l generalizing s with
  | nil => cases hi
  | cons a rest ih =>
    rw [List.foldl_cons]
    by_cases hr : i ∈ rest
    · exact ih hr _
    · rcases List.mem_cons.mp hi with rfl | hi
      · rw [out rest _ hr, h1]
      · exact absurd hi hr

/-! ## The records that failed so far -/

/-- The notices after the records of a list failed at the load, in order (R194, R200). -/
def noticesAfter (l : List Nat) : Vector Notice 9 :=
  match l.getLast? with
  | none => noticesReset
  | some n => noticesReset.set 6 { pending := true, code := 1, arg := noticeArg (byte n) 0 0 0 }

/-- The store and the notices while the load runs: the records that failed so far are in the dirty set, in order. -/
def Loading (records : List StoredRecord) (l : List Nat) (s : State) : Prop :=
  s.store = { records := records, dirty := l, waiting := [], writing := none } ∧ s.notices = noticesAfter l

theorem noticesAfter_snoc (l : List Nat) (n : Nat) : (noticesAfter l).set (NoticeClass.index .store)
    { pending := true, code := 1, arg := noticeArg1 (byte n) } = noticesAfter (l ++ [n]) := by
  unfold noticesAfter
  rw [List.getLast?_concat]
  cases l.getLast? with
  | none => rfl
  | some m => exact Vector.set_set ..

theorem loadFault_loading {records : List StoredRecord} {l : List Nat} {n : Nat} {s : State} (h : Loading records l s)
    (hn : ∀ m ∈ l, m < n) : Loading records (l ++ [n]) (loadFault n s) := by
  have hd : n ∉ l := fun hm => Nat.lt_irrefl _ (hn n hm)
  unfold loadFault
  rw [markDirty_eq]
  refine ⟨?_, ?_⟩
  · show { s.store with dirty := dirtyWith n s.store.dirty } = _
    rw [h.1]; simp [dirtyWith, hd]
  · show s.notices.set _ _ = _
    rw [h.2]; exact noticesAfter_snoc l n

theorem faultIf_loading {records : List StoredRecord} {l : List Nat} {n : Nat} {s : State} (b : Bool) (h : Loading records l s)
    (hn : ∀ m ∈ l, m < n) : Loading records (l ++ (if b then [n] else [])) (faultIf b n s) := by
  cases b with
  | false => simpa [faultIf] using h
  | true => exact loadFault_loading h hn

/-- The load of the records of one kind, in the order of their numbers. -/
theorem foldl_loading {α : Type} (no : α → Nat) (failed : α → Bool) (upd : State → α → State)
    (hs : ∀ s a, (upd s a).store = s.store ∧ (upd s a).notices = s.notices) (records : List StoredRecord) (as : List α)
    (hp : as.Pairwise (fun a b => no a < no b)) (l : List Nat) (s : State) (h : Loading records l s)
    (hl : ∀ m ∈ l, ∀ a ∈ as, m < no a) :
    Loading records (l ++ (as.filter failed).map no) (as.foldl (fun s a => faultIf (failed a) (no a) (upd s a)) s) := by
  induction as generalizing l s with
  | nil => simpa using h
  | cons a rest ih =>
    rw [List.pairwise_cons] at hp
    have h' : Loading records l (upd s a) := ⟨(hs s a).1.trans h.1, (hs s a).2.trans h.2⟩
    have h1 := faultIf_loading (failed a) h' (fun m hm => hl m hm a List.mem_cons_self)
    have h2 := ih hp.2 _ _ h1 (fun m hm b hb => by
      rcases List.mem_append.mp hm with hm | hm
      · exact hl m hm b (List.mem_cons_of_mem _ hb)
      · split at hm
        · rw [List.mem_singleton.mp hm]; exact hp.1 b hb
        · cases hm)
    rw [List.foldl_cons]
    cases hf : failed a <;> simpa [hf, List.filter_cons] using h2

/-- What one load leaves but for the item it loads, the notices and the dirty set. -/
theorem faultIf_eq (b : Bool) (n : Nat) (s : State) : { faultIf b n s with store := s.store, notices := s.notices } = s := by
  cases b with
  | false => rfl
  | true => unfold faultIf loadFault; rw [if_pos rfl, markDirty_eq]; rfl

theorem faultIf_config (b : Bool) (n : Nat) (s : State) : (faultIf b n s).config = s.config := (congrArg State.config (faultIf_eq b n s) :)
theorem faultIf_profiles (b : Bool) (n : Nat) (s : State) : (faultIf b n s).profiles = s.profiles :=
  (congrArg State.profiles (faultIf_eq b n s) :)
theorem faultIf_geom (b : Bool) (n : Nat) (s : State) : (faultIf b n s).geom = s.geom := (congrArg State.geom (faultIf_eq b n s) :)
theorem faultIf_lamp (b : Bool) (n : Nat) (s : State) (p : Pos) : (faultIf b n s).lamp p = s.lamp p :=
  (congrArg (fun x => State.lamp x p) (faultIf_eq b n s) :)
theorem faultIf_bookings (b : Bool) (n : Nat) (s : State) : (faultIf b n s).bookings = s.bookings :=
  (congrArg State.bookings (faultIf_eq b n s) :)

/-- The state with everything that the load sets put to one value. -/
def State.unloaded (s : State) : State :=
  { s with
    config := .defaults, profiles := profilesDefault, geom := { s.geom with presets := presetsDefault },
    lampA := .reset .cleared, lampB := .reset .cleared, bookings := [], store := State.reset.store, notices := noticesReset }

theorem faultIf_unloaded (b : Bool) (n : Nat) (s : State) : (faultIf b n s).unloaded = s.unloaded :=
  (congrArg State.unloaded (faultIf_eq b n s) :)

/-! ## The settings (R95, R118, R142, R198, R200) -/

/-- The state when the configuration, the profiles, the presets and the lamp records are loaded. -/
def settingsBooted (clock : Clock) (records : List StoredRecord) (s : State) : State :=
  [Pos.a, Pos.b].foldl (bootLamp records) (allInputs.foldl (bootPreset records)
    (allInputs.foldl (bootProfile records) (bootConfig records (bootValues s clock records))))

theorem boot_eq (clock : Clock) (records : List StoredRecord) (s : State) : boot clock records s =
    startWrite (rebuild ((List.range 48).foldl (bootSlot records) (settingsBooted clock records s))) := rfl

theorem bootLamp_lamp (records : List StoredRecord) (s : State) (p : Pos) : (bootLamp records s p).lamp p =
    .reset ((loadLamp (storedAt records (lampNo p))).getD (estimatedRecord (storedAt records (lampNo p)).content)) := by
  unfold bootLamp; rw [faultIf_lamp]; cases p <;> rfl

theorem bootLamp_other (records : List StoredRecord) (s : State) (p q : Pos) (h : q ≠ p) :
    (bootLamp records s q).lamp p = s.lamp p := by
  unfold bootLamp; rw [faultIf_lamp]; cases p <;> cases q <;> first | exact absurd rfl h | rfl

theorem settings_unloaded (clock : Clock) (records : List StoredRecord) (s : State) :
    (settingsBooted clock records s).unloaded = (bootValues s clock records).unloaded := by
  unfold settingsBooted
  rw [foldl_keeps State.unloaded, foldl_keeps State.unloaded, foldl_keeps State.unloaded]
  · unfold bootConfig; rw [faultIf_unloaded]; rfl
  · intro s i; unfold bootProfile; rw [faultIf_unloaded]; rfl
  · intro s i; unfold bootPreset; rw [faultIf_unloaded]; rfl
  · intro s p; unfold bootLamp; rw [faultIf_unloaded]; cases p <;> rfl

theorem settings_config (clock : Clock) (records : List StoredRecord) (s : State) :
    (settingsBooted clock records s).config = (loadConfig (storedAt records 0)).getD .defaults := by
  unfold settingsBooted
  rw [foldl_keeps State.config, foldl_keeps State.config, foldl_keeps State.config]
  · unfold bootConfig; rw [faultIf_config]; rfl
  · intro s i; unfold bootProfile; rw [faultIf_config]; rfl
  · intro s i; unfold bootPreset; rw [faultIf_config]; rfl
  · intro s p; unfold bootLamp; rw [faultIf_config]; cases p <;> rfl

theorem allInputs_mem (i : Fin 8) : i ∈ allInputs := by revert i; decide

theorem settings_profiles (clock : Clock) (records : List StoredRecord) (s : State) (i : Input) :
    (settingsBooted clock records s).profiles[i] = (loadProfile i (storedAt records (1 + i.val))).getD (.defaults i) := by
  unfold settingsBooted
  rw [foldl_keeps State.profiles, foldl_keeps State.profiles]
  · refine foldl_sets (fun s => s.profiles[i]) _ _ i (fun s => ?_) (fun s j h => ?_) _ (allInputs_mem i) _
    · unfold bootProfile; rw [faultIf_profiles]; exact Vector.getElem_set_self ..
    · unfold bootProfile; rw [faultIf_profiles]
      exact Vector.getElem_set_ne j.isLt i.isLt (fun hc => h (Fin.ext hc))
  · intro s i; unfold bootPreset; rw [faultIf_profiles]; rfl
  · intro s p; unfold bootLamp; rw [faultIf_profiles]; cases p <;> rfl

theorem settings_presets (clock : Clock) (records : List StoredRecord) (s : State) (n : PresetNo) :
    (settingsBooted clock records s).geom.presets[n] = (loadPreset (storedAt records (9 + n.val))).getD .defaults := by
  unfold settingsBooted
  rw [foldl_keeps State.geom]
  · refine foldl_sets (fun s => s.geom.presets[n]) _ _ n (fun s => ?_) (fun s j h => ?_) _ (allInputs_mem n) _
    · unfold bootPreset; rw [faultIf_geom]; exact Vector.getElem_set_self ..
    · unfold bootPreset; rw [faultIf_geom]
      exact Vector.getElem_set_ne j.isLt n.isLt (fun hc => h (Fin.ext hc))
  · intro s p; unfold bootLamp; rw [faultIf_geom]; cases p <;> rfl

theorem settings_lamp (clock : Clock) (records : List StoredRecord) (s : State) (p : Pos) :
    (settingsBooted clock records s).lamp p =
      .reset ((loadLamp (storedAt records (lampNo p))).getD (estimatedRecord (storedAt records (lampNo p)).content)) := by
  unfold settingsBooted
  exact foldl_sets (fun s => s.lamp p) _ _ p (fun s => bootLamp_lamp records s p)
    (fun s q h => bootLamp_other records s p q h) _ (by cases p <;> simp) _

theorem settings_bookings (clock : Clock) (records : List StoredRecord) (s : State) :
    (settingsBooted clock records s).bookings = [] := by
  unfold settingsBooted
  rw [foldl_keeps State.bookings, foldl_keeps State.bookings, foldl_keeps State.bookings]
  · unfold bootConfig; rw [faultIf_bookings]; rfl
  · intro s i; unfold bootProfile; rw [faultIf_bookings]; rfl
  · intro s i; unfold bootPreset; rw [faultIf_bookings]; rfl
  · intro s p; unfold bootLamp; rw [faultIf_bookings]; cases p <;> rfl

theorem isNone_iff {α : Type} {o : Option α} {P : α → Prop} (h : ∀ a, o = some a ↔ P a) : o.isNone = true ↔ ∀ a, ¬ P a := by
  cases o with
  | none => exact ⟨fun _ a ha => (by cases (h a).mpr ha), fun _ => rfl⟩
  | some a => exact ⟨fun hn => (by cases hn), fun hn => absurd ((h a).mp rfl) (hn a)⟩

theorem configFails_iff (records : List StoredRecord) : (loadConfig (storedAt records 0)).isNone = true ↔ ConfigFails records :=
  (isNone_iff (loadConfig_iff _)).trans ⟨fun h c h1 h2 => h c ⟨h1, h2⟩, fun h c hc => h c hc.1 hc.2⟩

theorem profileFails_iff (records : List StoredRecord) (i : Input) :
    (loadProfile i (storedAt records (1 + i.val))).isNone = true ↔ ProfileFails records i :=
  (isNone_iff (loadProfile_iff i _)).trans ⟨fun h c h1 h2 => h c ⟨h1, h2⟩, fun h c hc => h c hc.1 hc.2⟩

theorem presetFails_iff (records : List StoredRecord) (n : PresetNo) :
    (loadPreset (storedAt records (9 + n.val))).isNone = true ↔ PresetFails records n :=
  (isNone_iff (loadPreset_iff _)).trans ⟨fun h c h1 h2 => h c ⟨h1, h2⟩, fun h c hc => h c hc.1 hc.2⟩

theorem lampFails_iff (records : List StoredRecord) (p : Pos) :
    (loadLamp (storedAt records (lampNo p))).isNone = true ↔ LampFails records p :=
  (isNone_iff (loadLamp_iff _)).trans ⟨fun h c h1 h2 => h c ⟨h1, h2⟩, fun h c hc => h c hc.1 hc.2⟩

/-- The record numbers of the settings that failed. -/
def settingsFailed (records : List StoredRecord) : List Nat :=
  (if (loadConfig (storedAt records 0)).isNone then [0] else [])
    ++ (allInputs.filter (fun i => (loadProfile i (storedAt records (1 + i.val))).isNone)).map profileNo
    ++ (allInputs.filter (fun n => (loadPreset (storedAt records (9 + n.val))).isNone)).map presetNo
    ++ ([Pos.a, Pos.b].filter (fun p => (loadLamp (storedAt records (lampNo p))).isNone)).map lampNo

theorem settingsFailed_mem (records : List StoredRecord) (n : Nat) : n ∈ settingsFailed records ↔
    (n = 0 ∧ ConfigFails records) ∨ (∃ i, n = 1 + i.val ∧ ProfileFails records i)
      ∨ (∃ k, n = 9 + k.val ∧ PresetFails records k) ∨ ∃ p, n = lampNo p ∧ LampFails records p := by
  unfold settingsFailed
  simp only [List.mem_append, List.mem_map, List.mem_filter, profileFails_iff, presetFails_iff, lampFails_iff, allInputs_mem,
    true_and, or_assoc, ← configFails_iff]
  refine or_congr ?_ (or_congr ?_ (or_congr ?_ ?_))
  · split <;> simp [*]
  · exact ⟨fun ⟨i, h, e⟩ => ⟨i, e.symm, h⟩, fun ⟨i, e, h⟩ => ⟨i, h, e.symm⟩⟩
  · exact ⟨fun ⟨i, h, e⟩ => ⟨i, e.symm, h⟩, fun ⟨i, e, h⟩ => ⟨i, h, e.symm⟩⟩
  · exact ⟨fun ⟨i, h, e⟩ => ⟨i, e.symm, h.2⟩, fun ⟨i, e, h⟩ => ⟨i, ⟨by cases i <;> simp, h⟩, e.symm⟩⟩

theorem settingsFailed_lt (records : List StoredRecord) {n : Nat} (h : n ∈ settingsFailed records) : n < 19 := by
  rcases (settingsFailed_mem records n).mp h with ⟨rfl, _⟩ | ⟨i, rfl, _⟩ | ⟨i, rfl, _⟩ | ⟨p, rfl, _⟩
  · decide
  · have := i.isLt; omega
  · have := i.isLt; omega
  · cases p <;> decide

theorem settingsFailed_sorted (records : List StoredRecord) : (settingsFailed records).Pairwise (· < ·) := by
  have h : (settingsFailed records).Sublist ([0] ++ allInputs.map profileNo ++ allInputs.map presetNo ++ [Pos.a, Pos.b].map lampNo) := by
    refine .append (.append (.append ?_ (List.filter_sublist.map _)) (List.filter_sublist.map _)) (List.filter_sublist.map _)
    split
    · exact List.Sublist.refl _
    · exact List.nil_sublist _
  exact List.Pairwise.sublist h (by decide)

theorem settings_loading (clock : Clock) (records : List StoredRecord) (s : State) :
    Loading records (settingsFailed records) (settingsBooted clock records s) := by
  have h0 : Loading records [] (bootValues s clock records) := ⟨rfl, rfl⟩
  have h1 : Loading records (if (loadConfig (storedAt records 0)).isNone then [0] else []) (bootConfig records (bootValues s clock records)) := by
    have := faultIf_loading (n := configNo) (loadConfig (storedAt records 0)).isNone
      (s := (bootValues s clock records).setConfig ((loadConfig (storedAt records 0)).getD .defaults)) (l := []) ⟨h0.1, h0.2⟩
      (fun m hm => by cases hm)
    rw [List.nil_append] at this
    exact this
  have h2 := foldl_loading profileNo (fun i => (loadProfile i (storedAt records (1 + i.val))).isNone)
    (fun s i => s.setProfiles (s.profiles.set i ((loadProfile i (storedAt records (1 + i.val))).getD (.defaults i))))
    (fun s i => ⟨rfl, rfl⟩) records allInputs (by decide) _ _ h1 (fun m hm i _ => by
      split at hm
      · rw [List.mem_singleton.mp hm]; exact Nat.add_pos_left Nat.one_pos _
      · cases hm)
  have h3 := foldl_loading presetNo (fun n => (loadPreset (storedAt records (9 + n.val))).isNone)
    (fun s n => s.setGeom { s.geom with presets := s.geom.presets.set n ((loadPreset (storedAt records (9 + n.val))).getD .defaults) })
    (fun s i => ⟨rfl, rfl⟩) records allInputs (by decide) _ _ h2 (fun m hm n _ => by
      rcases List.mem_append.mp hm with hm | hm
      · split at hm
        · rw [List.mem_singleton.mp hm]; exact Nat.add_pos_left (by decide) _
        · cases hm
      · obtain ⟨i, _, rfl⟩ := List.mem_map.mp hm
        have := i.isLt
        show 1 + i.val < 9 + n.val
        omega)
  refine foldl_loading lampNo (fun p => (loadLamp (storedAt records (lampNo p))).isNone)
    (fun s p => s.setLamp p (.reset ((loadLamp (storedAt records (lampNo p))).getD (estimatedRecord (storedAt records (lampNo p)).content))))
    (fun s p => by cases p <;> exact ⟨rfl, rfl⟩) records [.a, .b] (by decide) _ _ h3 (fun m hm p _ => ?_)
  have h17 : 17 ≤ lampNo p := by cases p <;> decide
  refine Nat.lt_of_lt_of_le ?_ h17
  rcases List.mem_append.mp hm with hm | hm
  · rcases List.mem_append.mp hm with hm | hm
    · split at hm
      · rw [List.mem_singleton.mp hm]; decide
      · cases hm
    · obtain ⟨i, _, rfl⟩ := List.mem_map.mp hm
      have := i.isLt
      show 1 + i.val < 17
      omega
  · obtain ⟨i, _, rfl⟩ := List.mem_map.mp hm
    have := i.isLt
    show 9 + i.val < 17
    omega

/-! ## The booking slots (R8) -/

/-- No two bookings of a table overlap or have one tag, and they stand in start order. -/
def Apart (b c : Booking) : Prop := b.given.fin ≤ c.given.start ∧ b.given.tag ≠ c.given.tag

/-- The table when the slots below `k` are taken (R8). -/
def SlotsTaken (records : List StoredRecord) (k : Nat) (bs : List Booking) : Prop :=
  (∀ b ∈ bs, b.slot < k ∧ SlotHolds (storedAt records (19 + b.slot)) b.given b.owner b.assignment ∧ b.state = .pending
      ∧ b.shownSinceStart = false)
    ∧ (bs.map (·.slot)).Nodup ∧ bs.Pairwise Apart
    ∧ ∀ slot g owner assignment, slot < k → SlotHolds (storedAt records (19 + slot)) g owner assignment →
        (∃ b ∈ bs, b.slot = slot)
        ∨ ∃ b ∈ bs, b.slot < slot ∧ (b.given.tag = g.tag ∨ (g.start < b.given.fin ∧ b.given.start < g.fin))

theorem mem_insertBooking (b x : Booking) (bs : List Booking) : x ∈ insertBooking b bs ↔ x = b ∨ x ∈ bs := by
  induction bs with
  | nil => simp [insertBooking]
  | cons y rest ih =>
    unfold insertBooking
    split
    · simp
    · simp only [List.mem_cons, ih, or_left_comm]

theorem insertBooking_apart (b : Booking) (bs : List Booking) (hp : bs.Pairwise Apart) (hb : b.given.start < b.given.fin)
    (hr : ∀ x ∈ bs, x.given.start < x.given.fin)
    (hx : ∀ x ∈ bs, x.given.tag ≠ b.given.tag ∧ (b.given.fin ≤ x.given.start ∨ x.given.fin ≤ b.given.start)) :
    (insertBooking b bs).Pairwise Apart := by
  induction bs with
  | nil => simp [insertBooking]
  | cons y rest ih =>
    rw [List.pairwise_cons] at hp
    have hy := hx y List.mem_cons_self
    have ry := hr y List.mem_cons_self
    unfold insertBooking
    split
    · rename_i hs
      rw [List.pairwise_cons]
      refine ⟨fun z hz => ⟨?_, fun he => (hx z hz).1 he.symm⟩, List.pairwise_cons.mpr hp⟩
      rcases List.mem_cons.mp hz with rfl | hz'
      · omega
      · have := (hp.1 z hz').1
        omega
    · rename_i hs
      rw [List.pairwise_cons]
      refine ⟨fun z hz => ?_, ih hp.2 (fun x h => hr x (List.mem_cons_of_mem _ h)) (fun x h => hx x (List.mem_cons_of_mem _ h))⟩
      rcases (mem_insertBooking b z rest).mp hz with rfl | hz
      · exact ⟨by omega, hy.1⟩
      · exact hp.1 z hz

theorem clashes_iff (g : Given) (bs : List Booking) : clashes g bs = true ↔
    ∃ b ∈ bs, b.given.tag = g.tag ∨ (g.start < b.given.fin ∧ b.given.start < g.fin) := by
  unfold clashes overlaps
  simp only [List.any_eq_true, Bool.or_eq_true, Bool.and_eq_true, decide_eq_true_iff, beq_iff_eq]
  exact ⟨fun ⟨b, h, e⟩ => ⟨b, h, e.imp_right And.symm⟩, fun ⟨b, h, e⟩ => ⟨b, h, e.imp_right And.symm⟩⟩

theorem slotHolds_unique {r : StoredRecord} {g g' : Given} {o o' : Class} {l l' : LampSet} (h : SlotHolds r g o l)
    (h' : SlotHolds r g' o' l') : g' = g ∧ o' = o ∧ l' = l := by
  have h1 := (loadSlot_taken r g o l).mpr h
  rw [(loadSlot_taken r g' o' l').mpr h'] at h1
  cases h1
  exact ⟨rfl, rfl, rfl⟩

theorem slotHolds_span {r : StoredRecord} {g : Given} {o : Class} {l : LampSet} (h : SlotHolds r g o l) : g.start < g.fin := by
  have := (inRange_iff g).mp h.2.1
  omega

/-- What the load of one slot does to the table (R8). -/
theorem slotsTaken_keep {records : List StoredRecord} {k : Nat} {bs : List Booking} (h : SlotsTaken records k bs)
    (hk : ∀ g o l, SlotHolds (storedAt records (19 + k)) g o l → clashes g bs = true) : SlotsTaken records (k + 1) bs := by
  refine ⟨fun b hb => ⟨Nat.lt_succ_of_lt (h.1 b hb).1, (h.1 b hb).2⟩, h.2.1, h.2.2.1, fun slot g o l hs hh => ?_⟩
  rcases Nat.lt_succ_iff_lt_or_eq.mp hs with hs | rfl
  · exact h.2.2.2 slot g o l hs hh
  · obtain ⟨b, hb, hc⟩ := (clashes_iff g bs).mp (hk g o l hh)
    exact Or.inr ⟨b, hb, (h.1 b hb).1, hc⟩

theorem slotsTaken_insert {records : List StoredRecord} {k : Nat} {bs : List Booking} (h : SlotsTaken records k bs) {g : Given}
    {o : Class} {l : LampSet} (hh : SlotHolds (storedAt records (19 + k)) g o l) (hc : ¬ clashes g bs = true) :
    SlotsTaken records (k + 1) (insertBooking (slotBooking g o l k) bs) := by
  rw [clashes_iff] at hc
  refine ⟨fun b hb => ?_, ?_, ?_, fun slot g' o' l' hs hh' => ?_⟩
  · rcases (mem_insertBooking _ b bs).mp hb with rfl | hb
    · exact ⟨Nat.lt_succ_self k, hh, rfl, rfl⟩
    · exact ⟨Nat.lt_succ_of_lt (h.1 b hb).1, (h.1 b hb).2⟩
  · obtain ⟨pre, post, h1, h2, _, _⟩ := insertBooking_spec (slotBooking g o l k) bs
    have hn : k ∉ bs.map (·.slot) := fun hm => by
      obtain ⟨b, hb, rfl⟩ := List.mem_map.mp hm
      exact Nat.lt_irrefl _ (h.1 b hb).1
    have hd := h.2.1
    rw [h1] at hn hd
    rw [h2]
    simp only [List.map_append, List.map_cons] at hn hd ⊢
    exact List.perm_middle.nodup_iff.mpr (List.nodup_cons.mpr ⟨hn, hd⟩)
  · refine insertBooking_apart _ bs h.2.2.1 (slotHolds_span hh) (fun x hx => slotHolds_span (h.1 x hx).2.1) (fun x hx => ?_)
    have hx' : ¬ (x.given.tag = g.tag ∨ (g.start < x.given.fin ∧ x.given.start < g.fin)) := fun e => hc ⟨x, hx, e⟩
    rw [not_or] at hx'
    refine ⟨hx'.1, ?_⟩
    show g.fin ≤ x.given.start ∨ x.given.fin ≤ g.start
    omega
  · rcases Nat.lt_succ_iff_lt_or_eq.mp hs with hs | rfl
    · rcases h.2.2.2 slot g' o' l' hs hh' with ⟨b, hb, e⟩ | ⟨b, hb, e⟩
      · exact Or.inl ⟨b, (mem_insertBooking _ b bs).mpr (Or.inr hb), e⟩
      · exact Or.inr ⟨b, (mem_insertBooking _ b bs).mpr (Or.inr hb), e⟩
    · exact Or.inl ⟨_, (mem_insertBooking _ _ bs).mpr (Or.inl rfl), rfl⟩

/-- The state while the slots are loaded: the table, and the records that failed. -/
def SlotsLoading (records : List StoredRecord) (k : Nat) (s0 s : State) : Prop :=
  SlotsTaken records k s.bookings
    ∧ (∃ l, Loading records l s ∧ l.Pairwise (· < ·) ∧ ∀ n, n ∈ l ↔ n ∈ settingsFailed records
        ∨ ∃ slot, slot < k ∧ n = 19 + slot ∧ SlotDiscarded records s.bookings slot)
    ∧ { s with bookings := s0.bookings, store := s0.store, notices := s0.notices } = s0

theorem slotsLoading_fail {records : List StoredRecord} {k : Nat} {s0 s : State} (h : SlotsLoading records k s0 s)
    (hk : ∀ g o l, SlotHolds (storedAt records (19 + k)) g o l → clashes g s.bookings = true)
    (hf : ¬ Stored (storedAt records (19 + k)) (List.replicate 17 0)) :
    SlotsLoading records (k + 1) s0 (loadFault (slotNo k) s) := by
  obtain ⟨ht, ⟨l, hl, hp, hm⟩, he⟩ := h
  have hb : (loadFault (slotNo k) s).bookings = s.bookings := faultIf_bookings true _ s
  have hlt : ∀ m ∈ l, m < slotNo k := fun m hm' => by
    rcases (hm m).mp hm' with h | ⟨slot, hs, rfl, _⟩
    · have := settingsFailed_lt records h; show m < 19 + k; omega
    · show 19 + slot < 19 + k; omega
  refine ⟨hb ▸ slotsTaken_keep ht hk, ⟨l ++ [slotNo k], loadFault_loading hl hlt, ?_, fun n => ?_⟩, ?_⟩
  · rw [List.pairwise_append]
    exact ⟨hp, by simp, fun m hm' x hx => by rw [List.mem_singleton.mp hx]; exact hlt m hm'⟩
  · rw [List.mem_append, hm, List.mem_singleton, or_assoc, hb]
    refine or_congr Iff.rfl ⟨?_, ?_⟩
    · rintro (⟨slot, hs, e⟩ | rfl)
      · exact ⟨slot, Nat.lt_succ_of_lt hs, e⟩
      · exact ⟨k, Nat.lt_succ_self k, rfl, hf, fun b hb' e => Nat.lt_irrefl k (e ▸ (ht.1 b hb').1)⟩
    · rintro ⟨slot, hs, e⟩
      rcases Nat.lt_succ_iff_lt_or_eq.mp hs with hs | rfl
      · exact Or.inl ⟨slot, hs, e⟩
      · exact Or.inr e.1
  · have := faultIf_eq true (slotNo k) s
    rw [← he]
    exact congrArg (fun x : State => { x with bookings := s0.bookings, store := s0.store, notices := s0.notices }) this

theorem bootSlot_loading {records : List StoredRecord} {k : Nat} {s0 s : State} (h : SlotsLoading records k s0 s) :
    SlotsLoading records (k + 1) s0 (bootSlot records s k) := by
  unfold bootSlot
  have hno : slotNo k = 19 + k := rfl
  rw [hno]
  cases hc : loadSlot (storedAt records (19 + k)) with
  | none =>
    refine slotsLoading_fail h (fun g o l hh => ?_) (fun hs => ?_)
    · rw [(loadSlot_taken _ g o l).mpr hh] at hc; cases hc
    · rw [(loadSlot_free _).mpr hs] at hc; cases hc
  | some c =>
    cases c with
    | free =>
      have hs := (loadSlot_free _).mp hc
      obtain ⟨ht, ⟨l, hl, hp, hm⟩, he⟩ := h
      refine ⟨slotsTaken_keep ht (fun g o l hh => ?_), ⟨l, hl, hp, fun n => ?_⟩, he⟩
      · rw [(loadSlot_taken _ g o l).mpr hh] at hc; cases hc
      · rw [hm]
        refine or_congr Iff.rfl ⟨fun ⟨slot, hs, e⟩ => ⟨slot, Nat.lt_succ_of_lt hs, e⟩, fun ⟨slot, hk, e⟩ => ?_⟩
        rcases Nat.lt_succ_iff_lt_or_eq.mp hk with hk | rfl
        · exact ⟨slot, hk, e⟩
        · exact absurd hs e.2.1
    | taken g o l =>
      have hh := (loadSlot_taken _ g o l).mp hc
      dsimp only
      split
      · rename_i hcl
        refine slotsLoading_fail h (fun g' o' l' hh' => ?_) (fun hs => ?_)
        · rw [(slotHolds_unique hh hh').1]; exact hcl
        · rw [(loadSlot_free _).mpr hs] at hc; cases hc
      · rename_i hcl
        obtain ⟨ht, ⟨f, hl, hp, hm⟩, he⟩ := h
        refine ⟨slotsTaken_insert ht hh hcl, ⟨f, hl, hp, fun n => ?_⟩, he⟩
        rw [hm]
        have hd : ∀ slot, slot < k → (SlotDiscarded records (insertBooking (slotBooking g o l k) s.bookings) slot ↔
            SlotDiscarded records s.bookings slot) := fun slot hs => by
          refine and_congr Iff.rfl ⟨fun hn b hb => hn b ((mem_insertBooking _ b _).mpr (Or.inr hb)), fun hn b hb => ?_⟩
          rcases (mem_insertBooking _ b _).mp hb with rfl | hb
          · exact (Nat.ne_of_lt hs).symm
          · exact hn b hb
        refine or_congr Iff.rfl ⟨fun ⟨slot, hs, e, d⟩ => ⟨slot, Nat.lt_succ_of_lt hs, e, (hd slot hs).mpr d⟩,
          fun ⟨slot, hk, e, d⟩ => ?_⟩
        rcases Nat.lt_succ_iff_lt_or_eq.mp hk with hk | rfl
        · exact ⟨slot, hk, e, (hd slot hk).mp d⟩
        · exact absurd rfl (d.2 _ ((mem_insertBooking _ _ _).mpr (Or.inl rfl)))

theorem slots_loading (clock : Clock) (records : List StoredRecord) (s : State) (k : Nat) :
    SlotsLoading records k (settingsBooted clock records s)
      ((List.range k).foldl (bootSlot records) (settingsBooted clock records s)) := by
  induction k with
  | zero =>
    refine ⟨?_, ⟨settingsFailed records, settings_loading clock records s, ?_, fun n => ?_⟩, rfl⟩
    · show SlotsTaken records 0 (settingsBooted clock records s).bookings
      rw [settings_bookings]
      exact ⟨fun b hb => (by cases hb), List.nodup_nil, List.Pairwise.nil, fun slot g o l h => absurd h (Nat.not_lt_zero slot)⟩
    · exact settingsFailed_sorted records
    · simp
  | succ k ih =>
    rw [List.range_succ, List.foldl_append]
    exact bootSlot_loading ih

/-! ## The rebuild (R8) -/

/-- What of a booking no evaluation changes (R10). -/
def Booking.lasting (b : Booking) : Given × Class × LampSet × BookingState × Bool × Nat :=
  (b.given, b.owner, b.assignment, b.state, b.shownSinceStart, b.slot)

theorem evaluateTags_lasting (cfg : ConfigRecord) (tags : List Nat) (pred : Option Booking) (bs : List Booking) :
    (evaluateTags cfg tags pred bs).map Booking.lasting = bs.map Booking.lasting := by
  induction bs generalizing pred with
  | nil => rfl
  | cons b rest ih =>
    unfold evaluateTags
    dsimp only
    rw [List.map_cons, List.map_cons, ih]
    congr 1
    split <;> rfl

theorem exists_lasting {bs cs : List Booking} (h : bs.map Booking.lasting = cs.map Booking.lasting) {b : Booking} (hb : b ∈ bs) :
    ∃ c ∈ cs, c.given = b.given ∧ c.owner = b.owner ∧ c.assignment = b.assignment ∧ c.state = b.state
      ∧ c.shownSinceStart = b.shownSinceStart ∧ c.slot = b.slot := by
  have hm := List.mem_map_of_mem (f := Booking.lasting) hb
  rw [h] at hm
  obtain ⟨c, hc, he⟩ := List.mem_map.mp hm
  simp only [Booking.lasting, Prod.mk.injEq] at he
  exact ⟨c, hc, he⟩

theorem slotsTaken_congr {records : List StoredRecord} {k : Nat} {bs cs : List Booking}
    (e : bs.map Booking.lasting = cs.map Booking.lasting) (h : SlotsTaken records k bs) : SlotsTaken records k cs := by
  refine ⟨fun c hc => ?_, ?_, ?_, fun slot g o l hs hh => ?_⟩
  · obtain ⟨b, hb, h1, h2, h3, h4, h5, h6⟩ := exists_lasting e.symm hc
    have := h.1 b hb
    rwa [h1, h2, h3, h4, h5, h6] at this
  · have := congrArg (List.map (fun x : Given × Class × LampSet × BookingState × Bool × Nat => x.2.2.2.2.2)) e
    rw [List.map_map, List.map_map] at this
    exact this ▸ h.2.1
  · let R (x y : Given × Class × LampSet × BookingState × Bool × Nat) : Prop := x.1.fin ≤ y.1.start ∧ x.1.tag ≠ y.1.tag
    have hR : (bs.map Booking.lasting).Pairwise R := List.pairwise_map.mpr h.2.2.1
    rw [e] at hR
    have := List.pairwise_map.mp hR
    exact this
  · rcases h.2.2.2 slot g o l hs hh with ⟨b, hb, hx⟩ | ⟨b, hb, hx⟩
    · obtain ⟨c, hc, _, _, _, _, _, h6⟩ := exists_lasting e hb
      exact Or.inl ⟨c, hc, h6.trans hx⟩
    · obtain ⟨c, hc, h1, _, _, _, _, h6⟩ := exists_lasting e hb
      exact Or.inr ⟨c, hc, by rw [h1, h6]; exact hx⟩

theorem slotDiscarded_congr {records : List StoredRecord} {bs cs : List Booking}
    (e : bs.map Booking.lasting = cs.map Booking.lasting) (slot : Nat) :
    SlotDiscarded records bs slot ↔ SlotDiscarded records cs slot := by
  refine and_congr Iff.rfl ⟨fun h c hc => ?_, fun h b hb => ?_⟩
  · obtain ⟨b, hb, _, _, _, _, _, h6⟩ := exists_lasting e.symm hc
    exact h6 ▸ h b hb
  · obtain ⟨c, hc, _, _, _, _, _, h6⟩ := exists_lasting e hb
    exact h6 ▸ h c hc

theorem pendingWear_eq (p : Pos) (bs : List Booking) :
    pendingWear p bs = ((bs.filter (fun b => b.state == .pending)).map (·.planned p)).sum := by
  induction bs with
  | nil => rfl
  | cons b rest ih =>
    unfold pendingWear
    rw [ih]
    cases hb : b.state <;> simp [hb]

/-- Every booking of the rebuilt table is evaluated against the one before it (R8, R10). -/
theorem evaluateAll_get (cfg : ConfigRecord) (bs : List Booking) (k : Nat) (y : Booking)
    (hy : (evaluateAll cfg bs)[k]? = some y) :
    EvaluatedAgainst cfg (if k = 0 then none else (evaluateAll cfg bs)[k - 1]?) y y := by
  have hl : k < bs.length := by
    have := (List.getElem?_eq_some_iff.mp hy).1
    rwa [evaluateAll, evaluateTags_length] at this
  have hx : bs[k]? = some bs[k] := List.getElem?_eq_getElem hl
  obtain ⟨h1, h2, h3, h4, h5, h6⟩ := (evaluateTags_get cfg _ none bs k bs[k] y hx hy).1
    (List.mem_map_of_mem (List.getElem_mem hl))
  have hg : y.given = bs[k].given := by rw [← h6]
  have ha : y.assignment = bs[k].assignment := by rw [← h6]
  rw [← hg] at h1 h2 h4
  rw [← ha] at h2 h3 h4 h5
  exact ⟨h1, h2, h3, h4, h5, rfl⟩

theorem startWrite_eq (s : State) : { startWrite s with store := s.store } = s := by unfold startWrite; split <;> rfl

theorem overcommittedTest_eq (l : LampSet) (s : State) : { overcommittedTest l s with notices := s.notices } = s := by
  unfold overcommittedTest; dsimp only; split <;> rfl

theorem rebuild_eq (s : State) : { rebuild s with notices := s.notices } =
    { s with
      bookings := evaluateAll s.config s.bookings
      lampA := { s.lampA with committed := pendingWear .a (evaluateAll s.config s.bookings) }
      lampB := { s.lampB with committed := pendingWear .b (evaluateAll s.config s.bookings) } } :=
  overcommittedTest_eq _ _

/-! ## Start-up whole (R200) -/

/-- A part of the state that neither the store nor the notices belong to stands after the rebuild as the rebuild left it. -/
theorem rebooted_field {β : Type} (g : State → β) (hg : ∀ s st ns, g { s with store := st, notices := ns } = g s) (x : State) :
    g (startWrite (rebuild x)) = g { x with
      bookings := evaluateAll x.config x.bookings
      lampA := { x.lampA with committed := pendingWear .a (evaluateAll x.config x.bookings) }
      lampB := { x.lampB with committed := pendingWear .b (evaluateAll x.config x.bookings) } } := by
  rw [← hg (startWrite (rebuild x)) (rebuild x).store (startWrite (rebuild x)).notices, ← rebuild_eq,
    hg (rebuild x) (rebuild x).store x.notices]
  exact congrArg g (startWrite_eq _)

theorem rebuild_store (x : State) : (rebuild x).store = x.store := (congrArg State.store (rebuild_eq x) :)

/-- The writer takes the first record that failed, if one did (R199, R200). -/
theorem rebooted_store (x : State) (records : List StoredRecord) (l : List Nat)
    (hs : x.store = { records := records, dirty := l, waiting := [], writing := none }) :
    (l = [] → (startWrite (rebuild x)).store = { records := records, dirty := [], waiting := [], writing := none })
      ∧ ∀ n rest, l = n :: rest → (startWrite (rebuild x)).store = {
          records := records, dirty := rest, waiting := [],
          writing := some { number := n, record := { content := recordContent n (startWrite (rebuild x)),
                                                     check := crc8 (recordContent n (startWrite (rebuild x))) } } } := by
  have hx := (rebuild_store x).trans hs
  constructor
  · rintro rfl
    unfold startWrite oldestReady
    rw [hx]
    exact hx
  · rintro n rest rfl
    have hc : recordContent n (startWrite (rebuild x)) = recordContent n (rebuild x) :=
      (congrArg (recordContent n) (startWrite_eq (rebuild x)) :)
    rw [hc]
    unfold startWrite oldestReady
    rw [hx]
    simp only [List.find?_cons, List.contains_nil, Bool.not_false, State.setStore, List.erase_cons_head]
    rfl

/-- The overcommitted test of the rebuild, for both positions (R8, R15). -/
theorem rebooted_notices (x : State) (l : List Nat) (hn : x.notices = noticesAfter l) (t : State)
    (ht : t = startWrite (rebuild x)) :
    (¬ Overcommitted t.lampA → ¬ Overcommitted t.lampB → t.notices = noticesAfter l)
      ∧ (Overcommitted t.lampA → ¬ Overcommitted t.lampB → t.notices = (noticesAfter l).set 1
          { pending := true, code := 6, arg := noticeArg 1 0 0 0 })
      ∧ (¬ Overcommitted t.lampA → Overcommitted t.lampB → t.notices = (noticesAfter l).set 1
          { pending := true, code := 6, arg := noticeArg 2 0 0 0 })
      ∧ (Overcommitted t.lampA → Overcommitted t.lampB → t.notices = (noticesAfter l).set 1
          { pending := true, code := 6, arg := noticeArg 3 0 0 0 }) := by
  have hA : t.lampA = { x.lampA with committed := pendingWear .a (evaluateAll x.config x.bookings) } :=
    ht ▸ rebooted_field State.lampA (fun _ _ _ => rfl) x
  have hB : t.lampB = { x.lampB with committed := pendingWear .b (evaluateAll x.config x.bookings) } :=
    ht ▸ rebooted_field State.lampB (fun _ _ _ => rfl) x
  have hT : t.notices = (rebuild x).notices := by rw [ht]; exact (congrArg State.notices (startWrite_eq (rebuild x)) :)
  rw [hT, hA, hB, ← hn]
  simp only [← overcommitted_iff]
  unfold rebuild overcommittedTest
  dsimp only [State.setLamp, State.setTable, LampSet.inter]
  generalize Lamp.overcommitted _ = a
  generalize Lamp.overcommitted _ = b
  cases a <;> cases b <;> simp [LampSet.empty, raiseNotice, LampSet.byte, noticeArg1] <;> rfl

theorem noticesAfter_get (l : List Nat) (k : NoticeClass) :
    (k ≠ .store → (noticesAfter l)[k.index] = { pending := false, code := 0, arg := 0 })
      ∧ (l = [] → (noticesAfter l)[k.index] = { pending := false, code := 0, arg := 0 })
      ∧ ∀ pre n, l = pre ++ [n] → (noticesAfter l)[NoticeClass.index .store] =
          { pending := true, code := 1, arg := noticeArg (byte n) 0 0 0 } := by
  refine ⟨fun hk => ?_, ?_, ?_⟩
  · unfold noticesAfter
    cases l.getLast? <;> cases k <;> first | exact absurd rfl hk | rfl
  · rintro rfl; cases k <;> rfl
  · rintro pre n rfl
    unfold noticesAfter
    rw [List.getLast?_concat]
    rfl

/-- The settings that the load leaves are those of `SettingsLoaded` (R95, R118, R142, R198, R200). -/
theorem settingsLoaded_of {records : List StoredRecord} {t : State}
    (hc : t.config = (loadConfig (storedAt records 0)).getD .defaults)
    (hp : ∀ i : Input, t.profiles[i] = (loadProfile i (storedAt records (1 + i.val))).getD (.defaults i))
    (hn : ∀ n : PresetNo, t.geom.presets[n] = (loadPreset (storedAt records (9 + n.val))).getD .defaults)
    (hl : ∀ p, (t.lamp p).record =
      (loadLamp (storedAt records (lampNo p))).getD (estimatedRecord (storedAt records (lampNo p)).content)) :
    SettingsLoaded records t := by
  refine ⟨fun c h1 h2 => ?_, fun h => ?_, fun i p h1 h2 => ?_, fun i h => ?_, fun n p h1 h2 => ?_, fun n h => ?_,
    fun p l h1 h2 => ?_, fun p h => ?_⟩
  · rw [hc, (loadConfig_iff _ c).mpr ⟨h1, h2⟩]; rfl
  · rw [hc, Option.isNone_iff_eq_none.mp ((configFails_iff records).mpr h)]; rfl
  · rw [hp, (loadProfile_iff i _ p).mpr ⟨h1, h2⟩]; rfl
  · rw [hp, Option.isNone_iff_eq_none.mp ((profileFails_iff records i).mpr h)]; rfl
  · rw [hn, (loadPreset_iff _ p).mpr ⟨h1, h2⟩]; rfl
  · rw [hn, Option.isNone_iff_eq_none.mp ((presetFails_iff records n).mpr h)]; rfl
  · rw [hl, (loadLamp_iff _ l).mpr ⟨h1, h2⟩]; rfl
  · rw [hl, Option.isNone_iff_eq_none.mp ((lampFails_iff records p).mpr h)]; exact estimatedRecord_spec _

theorem linkRestarted_spec (l : Link) : LinkRestarted l l.restarted := by
  unfold LinkRestarted Link.restarted
  cases l.receiving <;> exact ⟨fun h => by first | rfl | exact Bool.noConfusion h, fun h => by first | rfl | exact Bool.noConfusion h⟩

/-- What start-up leaves, whole (R8, R78, R95, R116, R140, R156, R170, R179, R194, R199, R200). -/
theorem boot_spec (clock : Clock) (records : List StoredRecord) (s : State) : AtStartUp s (boot clock records s)
    ∧ (boot clock records s).clock = clock ∧ (boot clock records s).store.records = records := by
  obtain ⟨ht, ⟨l, hl, hp, hm⟩, he⟩ := slots_loading clock records s 48
  rw [boot_eq]
  generalize hx : (List.range 48).foldl (bootSlot records) (settingsBooted clock records s) = x at ht hl hm he
  generalize hr : startWrite (rebuild x) = t
  -- what stands of the load and of the reset values
  have hcfg : x.config = _ := (congrArg State.config he :)
  have hprof : x.profiles = _ := (congrArg State.profiles he :)
  have hgeom : x.geom = _ := (congrArg State.geom he :)
  have hlamp : ∀ p, x.lamp p = _ := fun p => (congrArg (fun y => State.lamp y p) he :)
  have hun : x.unloaded = (bootValues s clock records).unloaded :=
    (congrArg State.unloaded he :).trans (settings_unloaded clock records s)
  have hbook : t.bookings = evaluateAll x.config x.bookings := hr ▸ rebooted_field State.bookings (fun _ _ _ => rfl) x
  have hcfg' : t.config = x.config := hr ▸ rebooted_field State.config (fun _ _ _ => rfl) x
  have hprof' : t.profiles = x.profiles := hr ▸ rebooted_field State.profiles (fun _ _ _ => rfl) x
  have hgeom' : t.geom = x.geom := hr ▸ rebooted_field State.geom (fun _ _ _ => rfl) x
  have hA : t.lampA = { x.lampA with committed := pendingWear .a t.bookings } :=
    hbook ▸ hr ▸ rebooted_field State.lampA (fun _ _ _ => rfl) x
  have hB : t.lampB = { x.lampB with committed := pendingWear .b t.bookings } :=
    hbook ▸ hr ▸ rebooted_field State.lampB (fun _ _ _ => rfl) x
  have hun' : t.unloaded = (bootValues s clock records).unloaded :=
    (hr ▸ rebooted_field State.unloaded (fun _ _ _ => rfl) x : t.unloaded = x.unloaded).trans hun
  have hlast : x.bookings.map Booking.lasting = t.bookings.map Booking.lasting := by
    rw [hbook]; exact (evaluateTags_lasting _ _ _ _).symm
  have htaken := slotsTaken_congr hlast ht
  have hrec : ∀ p, (t.lamp p).record =
      (loadLamp (storedAt records (lampNo p))).getD (estimatedRecord (storedAt records (lampNo p)).content) := by
    intro p
    have h := hlamp p
    rw [settings_lamp] at h
    cases p
    · show t.lampA.record = _; rw [hA]; exact congrArg Lamp.record h
    · show t.lampB.record = _; rw [hB]; exact congrArg Lamp.record h
  have hstore := hr ▸ rebooted_store x records l hl.1
  have hfails : ∀ n, n ∈ l ↔ RecordFails records t.bookings n := fun n => by
    rw [hm, settingsFailed_mem, or_assoc, or_assoc, or_assoc]
    unfold RecordFails
    simp only [slotDiscarded_congr hlast]
  have hrecords : t.store.records = records := by
    cases l with
    | nil => rw [hstore.1 rfl]
    | cons n rest => rw [hstore.2 n rest rfl]
  have hmachine : ∀ p, ∃ c, t.lamp p = { Lamp.reset (t.lamp p).record with committed := c } := by
    intro p
    have h := hlamp p
    rw [settings_lamp, ← hrec p] at h
    cases p
    · exact ⟨_, hA.trans (congrArg (fun m : Lamp => { m with committed := pendingWear .a t.bookings }) h)⟩
    · exact ⟨_, hB.trans (congrArg (fun m : Lamp => { m with committed := pendingWear .b t.bookings }) h)⟩
  have hsettings : SettingsLoaded records t := settingsLoaded_of
    (by rw [hcfg', hcfg, settings_config]) (fun i => by rw [hprof', hprof, settings_profiles])
    (fun n => by rw [hgeom', hgeom, settings_presets]) hrec
  have htable : TableRebuilt records t := by
    refine ⟨fun b hb => ⟨(htaken.1 b hb).1, (htaken.1 b hb).2.1⟩, htaken.2.1, htaken.2.2.1, htaken.2.2.2, fun k y hy => ?_, ?_, ?_⟩
    · rw [hbook] at hy ⊢
      rw [hcfg']
      exact evaluateAll_get _ _ k y hy
    · rw [hA]; exact pendingWear_eq .a t.bookings
    · rw [hB]; exact pendingWear_eq .b t.bookings
  have hnot := rebooted_notices x l hl.2 t hr.symm
  have hget := noticesAfter_get l
  have hother : ∀ k : NoticeClass, k ≠ .schedule → t.notice k = (noticesAfter l)[k.index] := by
    intro k hk
    have set_ne : ∀ (v : Vector Notice 9) (a : Notice), (v.set 1 a)[k.index] = v[k.index] := fun v a => by
      refine Vector.getElem_set_ne (by decide) k.index.isLt (fun hc => hk ?_)
      cases k <;> first | rfl | exact absurd hc (by decide)
    show t.notices[k.index] = _
    by_cases oA : Overcommitted t.lampA <;> by_cases oB : Overcommitted t.lampB
    · rw [hnot.2.2.2 oA oB, set_ne]
    · rw [hnot.2.1 oA oB, set_ne]
    · rw [hnot.2.2.1 oA oB, set_ne]
    · rw [hnot.1 oA oB]
  have hnotices : NoticesAtStartUp t := by
    refine ⟨fun k h1 h2 => (hother k h2).trans ((hget k).1 h1), ⟨l, hp, by rw [hrecords]; exact hfails, fun h => ?_, fun n rest h => ?_,
      fun pre n h => (hother .store (by decide)).trans ((hget .store).2.2 pre n h)⟩, fun oA oB => ?_, fun oA oB => ?_, fun oA oB => ?_,
      fun oA oB => ?_⟩
    · rw [hstore.1 h]; exact ⟨rfl, rfl, (hother .store (by decide)).trans ((hget .store).2.1 h)⟩
    · rw [hstore.2 n rest h]; exact ⟨rfl, rfl⟩
    · show t.notices[_] = _; rw [hnot.1 oA oB]; exact (hget .schedule).1 (by decide)
    · show t.notices[_] = _; rw [hnot.2.1 oA oB]; exact Vector.getElem_set_self ..
    · show t.notices[_] = _; rw [hnot.2.2.1 oA oB]; exact Vector.getElem_set_self ..
    · show t.notices[_] = _; rw [hnot.2.2.2 oA oB]; exact Vector.getElem_set_self ..
  have hwait : t.store.waiting = [] := by
    cases l with
    | nil => rw [hstore.1 rfl]
    | cons n rest => rw [hstore.2 n rest rfl]
  refine ⟨⟨(congrArg State.phase hun' :), fun b hb => (htaken.1 b hb).2.2, ?_, (congrArg State.sched hun' :),
    (congrArg State.thermal hun' :), (congrArg State.switch hun' :), (congrArg State.meter hun' :),
    (congrArg (fun y : State => y.geom.override) hun' :), (congrArg (fun y : State => y.geom.wanted) hun' :),
    (congrArg (fun y : State => y.geom.applied) hun' :), (congrArg (fun y : State => y.geom.appliedFor) hun' :),
    (congrArg (fun y : State => y.gate.shutterOpen) hun' :), (congrArg (fun y : State => y.gate.mute) hun' :),
    (congrArg State.engine hun' :), by rw [show t.link = s.link.restarted from congrArg State.link hun']; exact linkRestarted_spec _, (congrArg State.panel hun' :), hwait, hnotices,
    by rw [hrecords]; exact ⟨hsettings, htable⟩, fun p => ?_, (congrArg (fun y : State => y.fire.level) hun' :),
    (congrArg State.freeCount hun' :), (congrArg State.pending hun' :)⟩, (congrArg State.clock hun' :), hrecords⟩
  · have h : t.holds = holdsReset := (congrArg State.holds hun' :)
    rw [h]; decide
  · obtain ⟨c, h⟩ := hmachine p
    rw [h]
    exact ⟨rfl, rfl, rfl, rfl, rfl, rfl, rfl, rfl, rfl, rfl⟩

/-! ## The flush (R201) -/

theorem storedAt_set (rs : List StoredRecord) (m n : Nat) (r : StoredRecord) (h : n < rs.length) :
    storedAt (rs.set m r) n = if m = n then r else storedAt rs n := by
  unfold storedAt
  rw [List.getD_eq_getElem?_getD, List.getD_eq_getElem?_getD, List.getElem?_set]
  split
  · rename_i e; subst e; simp [h]
  · rfl

theorem afterWrite_spec (r : ReadBack) (old w : StoredRecord) : StoredAfter r old w (afterWrite r old w) := by
  refine ⟨fun h => by rw [h]; rfl, fun h => by rw [h]; rfl, fun d h hd => ?_⟩
  rw [h]
  show damagedRecord d = _
  unfold damagedRecord
  rw [if_neg hd]

theorem flushReadBack_spec (failed : List (Nat × ReadBack)) (n : Nat) : FlushOutcome failed n (flushReadBack failed n) := by
  unfold flushReadBack
  constructor
  · intro h
    rw [List.find?_eq_none.mpr (fun x hx => by simpa using h x hx)]; rfl
  · rintro pre x post rfl h
    rw [List.find?_append, List.find?_eq_none.mpr (fun y hy => by simpa using h y hy)]
    simp

theorem foldl_flushRecord_length (failed : List (Nat × ReadBack)) (ws : List Writing) (rs : List StoredRecord) :
    (ws.foldl (flushRecord failed) rs).length = rs.length := by
  induction ws generalizing rs with
  | nil => rfl
  | cons w rest ih => rw [List.foldl_cons, ih]; simp [flushRecord]

/-- The flush's writes leave a record that none of them writes as it was. -/
theorem foldl_flushRecord_other (failed : List (Nat × ReadBack)) (n : Nat) (ws : List Writing) (rs : List StoredRecord)
    (hn : n < rs.length) (h : ∀ w ∈ ws, w.number ≠ n) : storedAt (ws.foldl (flushRecord failed) rs) n = storedAt rs n := by
  induction ws generalizing rs with
  | nil => rfl
  | cons w rest ih =>
    rw [List.foldl_cons, ih _ (by simpa [flushRecord] using hn) (fun x hx => h x (List.mem_cons_of_mem _ hx)), flushRecord,
      storedAt_set _ _ _ _ hn, if_neg (h w List.mem_cons_self)]

/-- The flush's writes of a record with one content, over anything that a write of it has left, leave what one write of it over the
old copy leaves. -/
theorem foldl_flushRecord_same (failed : List (Nat × ReadBack)) (n : Nat) (old new : StoredRecord) (ws : List Writing)
    (rs : List StoredRecord) (hn : n < rs.length) (hw : ∀ w ∈ ws, w.number = n → w.record = new) (hm : ∃ w ∈ ws, w.number = n)
    (ho : storedAt rs n = old ∨ ∃ r, storedAt rs n = afterWrite (flushReadBack failed n) old r) :
    storedAt (ws.foldl (flushRecord failed) rs) n = afterWrite (flushReadBack failed n) old new := by
  have twice : ∀ r, afterWrite (flushReadBack failed n) (afterWrite (flushReadBack failed n) old r) new =
      afterWrite (flushReadBack failed n) old new := fun r => by cases flushReadBack failed n <;> rfl
  induction ws generalizing rs with
  | nil => obtain ⟨w, hw, _⟩ := hm; cases hw
  | cons w rest ih =>
    rw [List.foldl_cons]
    have hl : n < (flushRecord failed rs w).length := by simpa [flushRecord] using hn
    by_cases hwn : w.number = n
    · have hs : storedAt (flushRecord failed rs w) n = afterWrite (flushReadBack failed n) old new := by
        rw [flushRecord, storedAt_set _ _ _ _ hn, if_pos hwn, hwn, hw w List.mem_cons_self hwn]
        rcases ho with ho | ⟨r, ho⟩
        · rw [ho]
        · rw [ho, twice]
      by_cases hr : ∃ x ∈ rest, x.number = n
      · exact ih _ hl (fun x hx => hw x (List.mem_cons_of_mem _ hx)) hr (Or.inr ⟨new, hs⟩)
      · rw [foldl_flushRecord_other failed n rest _ hl (fun x hx e => hr ⟨x, hx, e⟩), hs]
    · have hs : storedAt (flushRecord failed rs w) n = storedAt rs n := by
        rw [flushRecord, storedAt_set _ _ _ _ hn, if_neg hwn]
      obtain ⟨x, hx, e⟩ := hm
      rcases List.mem_cons.mp hx with rfl | hx
      · exact absurd e hwn
      · exact ih _ hl (fun y hy => hw y (List.mem_cons_of_mem _ hy)) ⟨x, hx, e⟩ (hs ▸ ho)

/-- The stored records after the flush (R201). -/
theorem flushedRecords_spec (failed : List (Nat × ReadBack)) (s : State) : Flushed failed s (flushedRecords failed s) := by
  unfold flushedRecords
  dsimp only
  generalize hq : s.store.dirty.map (fun n => ({ number := n, record := checked (recordContent n s) } : Writing)) = queue
  have hqm : ∀ n, (∃ w ∈ queue, w.number = n) ↔ n ∈ s.store.dirty := fun n => by
    rw [← hq]
    exact ⟨fun ⟨w, hw, e⟩ => by obtain ⟨m, hm, rfl⟩ := List.mem_map.mp hw; exact e ▸ hm,
      fun h => ⟨_, List.mem_map_of_mem h, rfl⟩⟩
  have hqr : ∀ n, ∀ w ∈ queue, w.number = n → w.record = checked (recordContent n s) := fun n w hw e => by
    rw [← hq] at hw
    obtain ⟨m, _, rfl⟩ := List.mem_map.mp hw
    rw [← e]
  refine ⟨foldl_flushRecord_length failed _ _, fun n hn => ?_⟩
  rw [foldl_flushRecord_length] at hn
  refine ⟨_, flushReadBack_spec failed n, fun hd => ?_, fun hd w hw hwn => ?_, fun hd hw => ?_⟩
  · rw [List.foldl_append]
    have hl : n < (s.store.writing.toList.foldl (flushRecord failed) s.store.records).length := by
      rw [foldl_flushRecord_length]; exact hn
    have := foldl_flushRecord_same failed n (storedAt s.store.records n) (checked (recordContent n s)) queue _ hl (hqr n)
      ((hqm n).mpr hd) (by
        cases hw : s.store.writing with
        | none => exact Or.inl rfl
        | some w =>
          by_cases e : w.number = n
          · refine Or.inr ⟨w.record, ?_⟩
            exact foldl_flushRecord_same failed n _ w.record [w] _ hn (fun x hx _ => by rw [List.mem_singleton.mp hx])
              ⟨w, List.mem_singleton.mpr rfl, e⟩ (Or.inl rfl)
          · exact Or.inl (foldl_flushRecord_other failed n [w] _ hn (fun x hx => by rw [List.mem_singleton.mp hx]; exact e)))
    rw [this]
    exact afterWrite_spec _ _ _
  · have hno : ∀ w ∈ queue, w.number ≠ n := fun x hx e => hd ((hqm n).mp ⟨x, hx, e⟩)
    rw [List.foldl_append, foldl_flushRecord_other failed n queue _ (by rw [foldl_flushRecord_length]; exact hn) hno, hw]
    have := foldl_flushRecord_same failed n (storedAt s.store.records n) w.record [w] _ hn
      (fun x hx _ => by rw [List.mem_singleton.mp hx]) ⟨w, List.mem_singleton.mpr rfl, hwn⟩ (Or.inl rfl)
    show StoredAfter _ _ _ (storedAt ([w].foldl (flushRecord failed) s.store.records) n)
    rw [this]
    exact afterWrite_spec _ _ _
  · rw [foldl_flushRecord_other failed n _ _ hn]
    intro w hm
    rcases List.mem_append.mp hm with hm | hm
    · cases hs : s.store.writing with
      | none => rw [hs] at hm; cases hm
      | some x => rw [hs] at hm; rw [List.mem_singleton.mp hm]; exact hw x hs
    · exact fun e => hd ((hqm n).mp ⟨w, hm, e⟩)

end Sys2Proof.Machine
end

