-- ==== Sys2Proof/Tests/Slice0.lean ====
section
/-! SUPPORT. The model's own tests: the checks of WellFormed, the first store, the worked cases of the manual one event at a time,
and for each obligation with hypotheses a state and operands that meet them. -/

namespace Sys2Proof.Tests

-- One theorem after the other: each waits for the kernel, and a hundred waiting at once would need a hundred threads.
set_option Elab.async false

open Sys2Proof.Machine

/-! ## Small states -/

/-- What a command leaves. -/
def after (i : Instr) (s : State) : State :=
  match exec i s with
  | .next t => t
  | .fault _ => s
  | .refused _ => s

/-- A fitted lamp of rated life 3,000 hours. -/
def lampOf (st : LampState) (wear : Nat) : Lamp :=
  { Lamp.reset { fitted := true, serial := 7, rated := 3000, wear := wear, strikes := 12, estimated := false } with
    state := st, cooldown := if st = .cooling then 60 else 0 }

/-- A room that is RUNNING at minute 10,000, its channel READY, its lamps COLD. -/
def room : State :=
  { State.reset with
    phase := .running
    clock := { minute := 10000, second := 0, isSet := true }
    engine := { Engine.reset with state := .ready }
    lampA := lampOf .cold 20000000
    lampB := lampOf .cold 30000000 }

/-- The room with a hold in a slot. -/
def withHold (i : Fin 16) (h : Hold) (s : State) : State := { s with holds := s.holds.set i (some h) }

/-- The room with FIRE. -/
def fireRoom : State := withHold fireSlot fireHold room

/-- The room with the lamp door open. -/
def doorRoom : State := withHold doorSlot (lampHold .door) room

/-- A REQUESTED hold of scope SOURCE that binds PANEL and AUTOMATIC, with tag 44. -/
def sourceHold : Hold :=
  { kind := .requested, placer := some .control, tag := some 44,
    scopes := ⟨false, false, true, false, false, false, false⟩, bound := ⟨true, false, false, true⟩, allowed := none,
    expiry := some 10001, bookingTag := none }

/-- A REQUESTED hold with STRIKE among its scopes, with tag 45, which SERVICE placed. -/
def strikeHold : Hold :=
  { kind := .requested, placer := some .service, tag := some 45,
    scopes := ⟨true, false, false, false, true, false, false⟩, bound := ⟨false, true, false, false⟩, allowed := none,
    expiry := none, bookingTag := none }

/-- A hold of one scope that binds PANEL. -/
def panelHold (sc : Scopes) : Hold :=
  { kind := .requested, placer := some .control, tag := some 46, scopes := sc, bound := ⟨true, false, false, false⟩,
    allowed := none, expiry := none, bookingTag := none }

/-- A booking record. -/
def bookingOf (tag start fin : Nat) (plan : Plan) (l : LampSet) (br : Bool) (pA pB : Nat) (st : BookingState) (slot : Nat) :
    Booking :=
  { given := { tag := tag, start := start, fin := fin, plan := plan, opening := none, preset := none, exam := false,
               examInputs := none },
    owner := .control, assignment := l, bridged := br, plannedA := pA, plannedB := pB, state := st,
    shownSinceStart := false, slot := slot }

/-- Bookings 101 and 102 of the worked case of chapter 1. -/
def b101 : Booking := bookingOf 101 10200 10290 .full ⟨true, false⟩ false 47520 0 .pending 0
def b102 : Booking := bookingOf 102 10300 10350 .eco ⟨true, false⟩ true 18000 0 .pending 1

/-- The room with 101 and 102. -/
def booked : State := { room with bookings := [b101, b102], lampA := { room.lampA with committed := 65520 } }

/-- The room at minute 10,250 with 101 RUNNING on lamp A. -/
def lecture : State :=
  { room with
    clock := { minute := 10250, second := 0, isSet := true }
    bookings := [{ b101 with state := .running, shownSinceStart := true }, b102]
    lampA := { lampOf .lit 20000000 with power := .full, wanted := true, committed := 18000 }
    sched := { Schedule.reset with
      active := some 101, startedAt := some 10200,
      demand := { basis := .booking, plan := .full, asked := ⟨true, false⟩, power := .full, gapBooking := none } } }

/-- The lecture with input 3 SHOWN and its warp applied: the gate is OPEN. -/
def shown : State :=
  { lecture with
    switch := { Switch.reset with state := .shown, current := some 2, reachedBy := some .opening, presence := 1 }
    meter := { Meter.restarted with state := .locked }
    geom := { lecture.geom with applied := some ⟨⟨0, 0⟩, ⟨1919, 0⟩, ⟨1919, 1199⟩, ⟨0, 1199⟩⟩, appliedFor := some 2 }
    gate := { shutterOpen := true, mute := false } }

/-- The session ON. -/
def inSession : State :=
  { room with sched := { Schedule.reset with session := true, unattended := 1199,
                                             demand := { Demand.idle with basis := .session, plan := .dual } } }

/-- The lecture with a switch machine. -/
def switching (st : SwitchState) : State :=
  { lecture with
    switch := { Switch.reset with
      state := st, current := some 2, reachedBy := some .request, presence := 64, takeTimer := st == .taking,
      takeInFlight := if st = .taking then some 2 else none, settleTimer := st == .settling,
      grace := if st = .noSignal then some 1 else none }
    meter := { Meter.restarted with refEdge := some 37527, tally := 1235, last := some ⟨16760, 1236⟩,
                                    previous := some ⟨16667, 1235⟩ } }

/-- The lamps as they are met, and the link as a frame leaves it. -/
def setA (l : Lamp) (s : State) : State := { s with lampA := l }
def keyed (code : Byte) (s : State) : State := { s with panel := some code }
def latched (m : EngineMsg) (s : State) : State := { s with engine := { s.engine with latch := some m } }
def matrixLatched (m : MatrixMsg) (s : State) : State := { s with switch := { s.switch with latch := some m } }
def framed (bs : List Byte) (s : State) : State :=
  { s with link := { Link.reset with receiving := true, byteCount := bs.length, bytes := bs.take 64 } }
def sending (m : OutMsg) (s : State) : State :=
  { s with engine := { s.engine with state := .sending, inFlight := some m, ackTimer := true } }
def faulted (s : State) : State := { s with engine := Engine.reset }

/-! ## WellFormed and Decode -/

theorem test_wf_label : (Instr.prof .control 1 ⟨[65], 0, 0, 0, 0, 1⟩).wf = false
    ∧ (Instr.prof .control 1 ⟨Profile.defaultLabel 0, 0, 0, 0, 0, 1⟩).wf = true := by decide +kernel
theorem test_wf_levels : (Instr.conf .control ⟨3, 15, 20, 0, 10, 3, [0, 0]⟩).wf = false
    ∧ (Instr.conf .control ⟨3, 15, 20, 0, 10, 3, [2, 1, 1, 2, 3, 3, 3, 1, 0]⟩).wf = true := by decide +kernel
theorem test_wf_damage : (Instr.writeEnd (.damaged ⟨[1], 0⟩)).wf = false ∧ (Instr.writeEnd (.damaged ⟨[1], 4⟩)).wf = true
    ∧ (Instr.powerReset ⟨[1], 0⟩).wf = false ∧ (Instr.powerReset ⟨[1], 4⟩).wf = true := by decide +kernel
theorem test_wf_recordNumber : (Instr.retryWaitEnd 67).wf = false ∧ (Instr.retryWaitEnd 66).wf = true := by decide +kernel
theorem test_wf_flushFailures : (Instr.restartFlushEnd [(3, .matched)]).wf = false
    ∧ (Instr.restartFlushEnd [(67, .kept)]).wf = false ∧ (Instr.restartFlushEnd [(3, .damaged ⟨[], 0⟩)]).wf = false
    ∧ (Instr.restartFlushEnd [(3, .kept), (66, .damaged ⟨[], 1⟩)]).wf = true := by decide +kernel
theorem test_decode_noWord : decodeTableWord 32 5 = none ∧ State.reset.withFetchWord 32 5 = State.reset := by
  exact ⟨rfl, rfl⟩

/-! ## The first store and start-up -/

theorem test_crc8 : crc8 [49, 50, 51, 52, 53, 54, 55, 56, 57] = 0xF4 := by decide +kernel
theorem test_storeFirst_agrees : storeFirst.length = 67 ∧ storeFirst.all StoredRecord.agrees = true := by decide +kernel
theorem test_reset_isLoaded : after (.powerReset ⟨[], 1⟩) State.reset = State.reset := by decide +kernel
theorem test_startUpEnd_runs : (after .startUpEnd State.reset).phase = .running := by decide +kernel
theorem test_step_front : step { room with pending := [.keyStrobe 3, .muteKey] }
    = .next { room with panel := some 3, pending := [.muteKey] } := rfl

/-! ## Worked cases of the manual, one event each -/

/-- The outcome byte of the reply that the decoder holds. -/
def outcome (s : State) : Option Byte := s.link.decoder.map (·.getD 4 0)

/-- The computed fields of the table. -/
def rows (s : State) : List (Nat × Byte × Bool × Nat × Nat × BookingState) :=
  s.bookings.map (fun b => (b.given.tag, b.assignment.byte, b.bridged, b.plannedA, b.plannedB, b.state))

/-- The given fields of a booking as the link carries them. -/
def raw (tag start fin plan exam inputs : Nat) : GivenRaw :=
  { tag := BitVec.ofNat 16 tag, start := BitVec.ofNat 32 start, fin := BitVec.ofNat 32 fin, plan := BitVec.ofNat 8 plan,
    opening := 0, preset := 255, exam := BitVec.ofNat 8 exam, examInputs := BitVec.ofNat 8 inputs }

/-- 1.5: 101 is admitted on A with planned wear 47,520. -/
theorem test_case_book101 : rows (after (.book .control (raw 101 10200 10290 2 0 0)) room)
    = [(101, 1, false, 47520, 0, .pending)] ∧ (after (.book .control (raw 101 10200 10290 2 0 0)) room).lampA.committed = 47520 := by
  decide +kernel

/-- 1.5: 103 breaks the bridge into 102, whose planned wear rises to 18,780. -/
theorem test_case_book103 : rows (after (.book .service (raw 103 10290 10300 0 1 4)) booked)
    = [(101, 1, false, 47520, 0, .pending), (103, 0, false, 0, 0, .pending), (102, 1, false, 18780, 0, .pending)]
    ∧ (after (.book .service (raw 103 10290 10300 0 1 4)) booked).lampA.committed = 66300 := by decide +kernel

/-- 1.6: the new end 10,305 overlaps 102. -/
theorem test_case_rebkOverlap : outcome (after (.rebk .control (raw 101 10200 10305 2 0 0)) lecture) = some 21 := by
  decide +kernel

/-- 1.6: the new end 10,300 is accepted; 102 stays bridged with a gap of 0. -/
theorem test_case_rebkExtends : rows (after (.rebk .control (raw 101 10200 10300 2 0 0)) lecture)
    = [(101, 1, false, 52320, 0, .running), (102, 1, true, 15000, 0, .pending)]
    ∧ (after (.rebk .control (raw 101 10200 10300 2 0 0)) lecture).lampA.committed = 15000 := by decide +kernel

/-- 1.7: a booking that SERVICE made is above a CONTROL requester. -/
theorem test_case_unbkClass : outcome (after (.unbk .control 101)
    { room with bookings := [{ b101 with owner := .service }] }) = some 16 := by decide +kernel

/-- 1.9: DUPLICATE comes before OVERLAP, and OVERLAP before the rest. -/
theorem test_case_bookRefusals : outcome (after (.book .control (raw 101 10230 10290 2 0 0)) booked) = some 20
    ∧ outcome (after (.book .control (raw 211 10230 10290 2 0 0)) booked) = some 21 := by decide +kernel

/-- 4.8: 802 is bridged but B cannot continue, so A is chosen. -/
theorem test_case_lifeCheck : rows (after (.book .control (raw 802 60012 60102 2 0 0))
    { room with
      clock := { minute := 59000, second := 0, isSet := true }
      lampA := lampOf .cold 60000000
      lampB := { lampOf .cold 47430000 with
                 record := { (lampOf .cold 47430000).record with rated := 1500 }, committed := 47520 }
      bookings := [bookingOf 801 59910 60000 .full ⟨false, true⟩ false 0 47520 .pending 0] })
    = [(801, 2, false, 0, 47520, .pending), (802, 1, true, 47520, 0, .pending)] := by decide +kernel

/-- 2.5: the first TIME after a power reset misses 501 and runs 502. -/
theorem test_case_firstTime :
    let s : State := { room with
      clock := { minute := 0, second := 0, isSet := false }
      lampA := { lampOf .cooling 40000000 with cooldown := 80, committed := 53580 }
      bookings := [bookingOf 501 40000 40060 .eco ⟨true, false⟩ false 21780 0 .pending 0,
                   { bookingOf 502 40070 40130 .full ⟨true, false⟩ true 31800 0 .pending 1 with
                     given := { tag := 502, start := 40070, fin := 40130, plan := .full, opening := some 1, preset := none,
                                exam := true, examInputs := some 2 } }] }
    let t := after (.time .control 40080 15) s
    rows t = [(502, 1, false, 33120, 0, .running)] ∧ t.lampA.committed = 0 ∧ t.sched.active = some 502
      ∧ t.sched.startedAt = some 40080 ∧ t.sched.demand = ⟨.booking, .full, ⟨true, false⟩, .full, none⟩
      ∧ t.holds[examSlot].map (·.allowed) = some (some 2) ∧ t.switch.takeInFlight = some 1
      ∧ t.notice .schedule = ⟨true, 3, noticeTag 501⟩ := by decide +kernel

/-- 2.4: the session is absorbed by 601. -/
theorem test_case_absorbed :
    let s : State := { inSession with
      clock := { minute := 50056, second := 59, isSet := true }
      lampA := { lampOf .lit 20000000 with power := .full, wanted := true }
      lampB := { lampOf .lit 30000000 with power := .full, wanted := true, committed := 21780 }
      gate := { shutterOpen := false, mute := true }
      sched := { Schedule.reset with session := true,
                                     demand := ⟨.session, .dual, ⟨true, true⟩, .full, none⟩ }
      bookings := [bookingOf 601 50060 50120 .eco ⟨false, true⟩ false 0 21780 .pending 0] }
    let t := after .minuteArrival s
    t.bookings.map (·.state) = [.warming] ∧ t.sched.session = false
      ∧ t.sched.demand = ⟨.booking, .eco, ⟨false, true⟩, .eco, none⟩ ∧ t.lampA.state = .cooling ∧ t.lampA.cooldown = 120
      ∧ t.lampB.state = .lit ∧ t.lampB.power = .eco ∧ t.lampB.committed = 0 ∧ t.gate.mute = false
      ∧ t.notice .schedule = ⟨true, 4, noticeTag 601⟩ := by decide +kernel

/-- 3.11: the window runs out at the twentieth second. -/
theorem test_case_strikeFails :
    let t := after .secondArrival (setA { lampOf .striking 40000000 with window := some 1, wanted := true } room)
    t.lampA.state = .cooling ∧ t.lampA.cooldown = 60 ∧ t.lampA.attempts = 1 ∧ t.lampA.record.wear = 40001440
      ∧ t.engine.inFlight = some (.lamp .a .douse) ∧ t.notice .lamp = ⟨true, 2, noticeArg1 1⟩ := by decide +kernel

/-- 3.11: A fails at its third attempt and B is struck in its place. -/
theorem test_case_substitute :
    let t := after .lampSense (latched (.lampSense .a false)
      { lecture with
        lampA := { lampOf .lit 40000000 with attempts := 2, wanted := true }
        sched := { lecture.sched with demand := ⟨.booking, .eco, ⟨true, false⟩, .eco, none⟩ } })
    t.lampA.state = .failed ∧ t.lampA.attempts = 3 ∧ t.lampA.wanted = false ∧ t.lampB.state = .striking
      ∧ t.lampB.wanted = true ∧ t.lampB.power = .eco ∧ t.notice .lamp = ⟨true, 8, noticeArg1 2⟩ := by decide +kernel

/-- 4.8: the second that reaches the derate limit. -/
theorem test_case_derate :
    let t := after .secondArrival (setA { lampOf .lit 86399992 with
      power := .full, wanted := true, warned := true, unstored := 39, continuous := 600 } lecture)
    t.lampA.record.wear = 86400000 ∧ t.lampA.derated = true ∧ t.lampA.power = .eco ∧ t.lampA.unstored = 40
      ∧ t.engine.inFlight = some (.lamp .a (.power .eco)) ∧ t.notice .lamp = ⟨true, 7, noticeArg1 1⟩ := by decide +kernel

/-- 5: a fire alarm during a lecture. -/
theorem test_case_fire :
    let t := after (.fireLineChange true) shown
    t.lampA.state = .cooling ∧ t.lampA.cooldown = 120 ∧ t.gate.shutterOpen = false ∧ t.bookings = shown.bookings
      ∧ t.switch = shown.switch ∧ t.notice .hold = ⟨true, 1, noticeArg 0 255 0 0⟩ := by decide +kernel

/-- 5: a HOLD, and two that are refused. -/
theorem test_case_hold : outcome (after (.hold .control ⟨⟨7, 4, 1, 3, 10030⟩, .apart⟩) room) = some 0
    ∧ (after (.hold .control ⟨⟨7, 4, 1, 3, 10030⟩, .apart⟩) room).notice .hold = ⟨true, 1, noticeArg 4 4 0 7⟩
    ∧ outcome (after (.hold .control ⟨⟨8, 16, 4, 0, 4294967295⟩, .apart⟩) room) = some 16
    ∧ outcome (after (.hold .control ⟨⟨8, 1, 1, 0, 4294967295⟩, .apart⟩) room) = some 18 := by decide +kernel

/-- A HOLD and the minute arrival of its expiry, apart: placed before it and lifted by it, and refused after it. -/
theorem test_case_holdAndMinute :
    let s := { room with clock := { minute := 10029, second := 59, isSet := true } }
    let t := after (.hold .control ⟨⟨7, 4, 1, 3, 10030⟩, .apart⟩) s
    outcome t = some 0 ∧ t.holds[(4 : Fin 16)].isSome = true
      ∧ (after .secondArrival t).holds[(4 : Fin 16)] = none ∧ (after .secondArrival t).notice .hold = ⟨true, 3, noticeArg 4 4 0 7⟩
      ∧ outcome (after (.hold .control ⟨⟨7, 4, 1, 3, 10030⟩, .apart⟩) (after .secondArrival s)) = some 18 := by decide +kernel

/-- 5.7, second row: where the two meet, the HOLD taken first is checked against the new minute, and the HOLD that the arrival
came before is placed and lifted at once. -/
theorem test_case_holdMeetsMinute :
    let s := { room with clock := { minute := 10029, second := 59, isSet := true } }
    let t := after (.hold .control ⟨⟨7, 4, 1, 3, 10030⟩, .arrivalTaken⟩) (after .secondArrival s)
    outcome (after (.hold .control ⟨⟨7, 4, 1, 3, 10030⟩, .arrivalFollows⟩) s) = some 18
      ∧ outcome (after (.hold .control ⟨⟨7, 4, 1, 3, 10031⟩, .arrivalFollows⟩) s) = some 0
      ∧ outcome t = some 0 ∧ t.holds[(4 : Fin 16)] = none ∧ t.notice .hold = ⟨true, 3, noticeArg 4 4 0 7⟩
      ∧ outcome (after (.hold .control ⟨⟨7, 4, 1, 3, 10029⟩, .arrivalTaken⟩) (after .secondArrival s)) = some 18 := by decide +kernel

/-- 6: the input that joins is taken. -/
theorem test_case_arrival :
    let s := { shown with profiles := shown.profiles.set 4 { Profile.defaults 4 with takeOnArrival := true } }
    let t := after .presence (matrixLatched (.presence 17) s)
    t.switch.state = .taking ∧ t.switch.current = some 4 ∧ t.switch.reachedBy = some .arrival
      ∧ t.switch.takeInFlight = some 4 ∧ t.meter.state = .seeking ∧ t.gate.shutterOpen = false := by decide +kernel

/-- 6: the sync meter locks at the fourth edge, and input 3 is SHOWN. -/
theorem test_case_meterLocks :
    let t := after (.frameEdge 54217) (switching .settling)
    t.meter.state = .locked ∧ t.switch.state = .shown ∧ t.notice .source = ⟨true, 1, noticeArg 3 1 0 0⟩ := by decide +kernel

/-- 6: the 100 ms without an edge. -/
theorem test_case_signalLost :
    let t := after .lossTimerRunsOut shown
    t.switch.state = .noSignal ∧ t.switch.grace = some 10 ∧ t.meter.state = .seeking ∧ t.gate.shutterOpen = false
      ∧ t.notice .source = ⟨true, 2, noticeArg1 3⟩ := by decide +kernel

/-- 7: the corners of a 4:3 input with kv 120, kh -40 and a trim of (3, -30). -/
theorem test_case_corners43 : computeCorners .a4x3 ⟨120, -40, 3, -30, 0, 0, 0, 0, 0, 0⟩
    = ⟨⟨259, 0⟩, ⟨1663, 0⟩, ⟨1759, 1199⟩, ⟨160, 1175⟩⟩ := by decide +kernel

/-- 7: the corners of a 16:9 input at full keystone. -/
theorem test_case_corners169 : computeCorners .a16x9 ⟨-300, 200, -10, 0, 20, -64, 63, 63, 0, 0⟩
    = ⟨⟨0, 60⟩, ⟨1919, 104⟩, ⟨1694, 1094⟩, ⟨288, 1139⟩⟩ := by decide +kernel

/-- 7: rounding a half up. -/
theorem test_case_cornersHalf : computeCorners .a5x4 ⟨-2, 0, 0, 0, 0, 0, 0, 0, 0, 0⟩
    = ⟨⟨210, 0⟩, ⟨1709, 0⟩, ⟨1707, 1199⟩, ⟨212, 1199⟩⟩ := by decide +kernel

/-- 8.1: the WARP is delivered, the gate opens, and SHUTTER OPEN passes into flight. -/
theorem test_case_gateOpens :
    let t := after .engineAcknowledge (sending (.warp ⟨⟨⟨0, 0⟩, ⟨1919, 0⟩, ⟨1919, 1199⟩, ⟨0, 1199⟩⟩, 2⟩)
      { shown with geom := .reset presetsDefault, gate := .reset })
    t.geom.appliedFor = some 2 ∧ t.gate.shutterOpen = true ∧ t.engine.inFlight = some (.shutter true) := by decide +kernel

/-- 8.2: 200 ms with no acknowledge. -/
theorem test_case_channelFault :
    let t := after .acknowledgeTimeout (sending (.shutter false) shown)
    t.engine.state = .fault ∧ t.lampA.state = .cooling ∧ t.lampA.cooldown = 120 ∧ t.geom.appliedFor = none
      ∧ t.gate.shutterOpen = false ∧ t.notice .engine = ⟨true, 1, noticeArg1 1⟩ := by decide +kernel

/-- 8.2: the recovery sends the shutter first, and computes for the input SHOWN. -/
theorem test_case_recovery :
    let s := latched (.statusReport false false .normal false)
      (faulted { shown with lampA := { lampOf .cooling 20000000 with wanted := true }, geom := .reset presetsDefault,
                            gate := { shutterOpen := false, mute := true } })
    let t := after .statusReport s
    t.engine.state = .sending ∧ t.engine.inFlight = some (.shutter false) ∧ t.engine.warpSlot.isSome = true
      ∧ t.notice .engine = ⟨true, 4, 0⟩ := by decide +kernel

/-- 9.4: an EXAM hold refuses SOURCE 7 with HELD and allows SOURCE 4. -/
theorem test_case_examKeys :
    let exam := withHold examSlot (examHold { b101 with given := { b101.given with exam := true, examInputs := some 10 } }) shown
    (after .sourceKey (keyed 10 exam)).notice .panel = ⟨true, 3, noticeArg 10 17 0 0⟩
      ∧ (after .sourceKey (keyed 7 exam)).switch.current = some 3 ∧ (after .presetKey (keyed 15 exam)).notice .panel
        = ⟨true, 3, noticeArg 15 17 0 0⟩ ∧ (after .muteKey (keyed 3 exam)).gate.mute = true := by decide +kernel

/-- 10: a FIND frame of 7 bytes is taken, and its reply of 34 bytes staged. -/
theorem test_case_findFrame :
    let t := after (.requestFrameEnd ⟨false, .apart⟩) (framed [70, 73, 78, 68, 2, 0, 101] booked)
    t.link.decoder.map (·.take 6) = some [70, 73, 78, 68, 0, 28] ∧ (after .replyStaging t).link.buffer.length = 34
      ∧ (after .replyStaging t).link.decoder = none := by decide +kernel

/-- 10: a frame begun while the decoder is BUSY is an overrun. -/
theorem test_case_overrun :
    let s := { room with link := { Link.reset with decoder := some [1] } }
    (after .frameBegin s).link.overrun = true ∧ (after .frameBegin s).link.status = .notReady := by decide +kernel

/-- 11.1: SUMM reads SOURCE before PANEL. -/
theorem test_case_summ :
    let s := raiseNotice .source 1 (noticeArg 3 2 0 0) (raiseNotice .panel 3 (noticeArg 10 17 0 0) room)
    s.attention = true ∧ (after (.summ .control) s).attention = false
      ∧ (after (.summ .control) s).link.decoder = some [83, 85, 77, 77, 0, 15, 2, 3, 1, 1, 3, 2, 0, 0, 9, 0, 3, 10, 17, 0, 0] := by
  decide +kernel

/-- 11.3: a failed write goes to the head of the list, and the writer takes the next record. -/
theorem test_case_failedWrite :
    let s := { room with store := { room.store with dirty := [17], writing := some ⟨3, checked [1]⟩ } }
    let t := after (.writeEnd .kept) s
    t.store.dirty = [3] ∧ t.store.waiting = [3] ∧ t.store.writing.map (·.number) = some 17
      ∧ t.notice .store = ⟨true, 2, noticeArg1 3⟩ := by decide +kernel

/-- 4.8: lamp A's record is lost at start-up. -/
theorem test_case_recordLost :
    let records := storeFirst.set 17 { content := [1, 0, 0, 0, 9, 7, 8, 0, 0, 0, 0, 0, 2, 0], check := 1 }
    let t := after (.powerReset ⟨[], 1⟩) { State.reset with store := { State.reset.store with records := records } }
    t.lampA.record = { fitted := true, serial := 9, rated := 1800, wear := 51840000, strikes := 2, estimated := true }
      ∧ t.lampA.state = .cooling ∧ t.lampA.cooldown = 120 ∧ t.lampA.derated = false
      ∧ t.notice .store = ⟨true, 1, noticeArg1 17⟩ := by decide +kernel

/-! ## What meets the hypotheses of each obligation -/

theorem test_meets_StepTakesFront : State.reset.pending = [] := rfl

theorem test_meets_EventEnd :
    ((finish shown).gate.shutterOpen = shown.gate.shutterOpen)
    ∧ ((finish (faulted shown)).gate.shutterOpen ≠ shown.gate.shutterOpen ∧ (faulted shown).engine.state = .fault)
    ∧ (let s := { shown with gate := Gate.reset }
       (finish s).gate.shutterOpen ≠ s.gate.shutterOpen ∧ s.engine.state ≠ .fault)
    ∧ (let s := { room with store := { room.store with writing := some ⟨3, checked []⟩ } }
       s.store.writing = some ⟨3, checked []⟩)
    ∧ (let s := { room with store := { room.store with dirty := [3], waiting := [3] } }
       ∀ n ∈ s.store.dirty, n ∈ s.store.waiting)
    ∧ (let s := { room with store := { room.store with dirty := [3, 5, 66], waiting := [3] } }
       s.store.writing = none ∧ s.store.dirty = [3] ++ 5 :: [66] ∧ (∀ m ∈ [3], m ∈ s.store.waiting)
         ∧ 5 ∉ s.store.waiting) := by decide +kernel

/-- A READY channel with every slot occupied. -/
def fullSlots : Engine :=
  { room.engine with shutterSlot := some true, lampASlot := some .douse, lampBSlot := some (.strike .eco),
                     warpSlot := some ⟨⟨⟨0, 0⟩, ⟨1, 0⟩, ⟨1, 1⟩, ⟨0, 1⟩⟩, 7⟩ }

theorem test_meets_ArbiterTakesFirstSlot :
    (fullSlots.state = .ready ∧ fullSlots.shutterSlot = some true)
    ∧ (let e := { fullSlots with shutterSlot := none }
       e.state = .ready ∧ e.shutterSlot = none ∧ e.lampASlot = some .douse)
    ∧ (let e := { fullSlots with shutterSlot := none, lampASlot := none }
       e.state = .ready ∧ e.shutterSlot = none ∧ e.lampASlot = none ∧ e.lampBSlot = some (.strike .eco))
    ∧ (let e := { fullSlots with shutterSlot := none, lampASlot := none, lampBSlot := none }
       e.state = .ready ∧ e.shutterSlot = none ∧ e.lampASlot = none ∧ e.lampBSlot = none
         ∧ e.warpSlot = some ⟨⟨⟨0, 0⟩, ⟨1, 0⟩, ⟨1, 1⟩, ⟨0, 1⟩⟩, 7⟩)
    ∧ Engine.reset.state ≠ .ready ∧ (finish room).engine.state = .ready := by decide +kernel

theorem test_meets_StrikeTestStrikes :
    MayStrike .a (setA { lampOf .cold 95039999 with wanted := true } room)
    ∧ ¬ MayStrike .a (setA { lampOf .cold 95040000 with wanted := true } room)
    ∧ ¬ MayStrike .a (setA { lampOf .cold 5 with wanted := true } doorRoom) := by
  simp only [← mayStrike_iff]; decide +kernel

theorem test_meets_EveryRequestReplies : room.phase = .running ∧ State.reset.phase ≠ .running
    ∧ 16 ≤ ReqOutcome.class'.byte.toNat := by decide +kernel

theorem test_meets_ClassAndHoldChecks :
    (room.phase = .running ∧ ReqName.book ≠ .sesn ∧ ReqName.rstr = .rstr)
    ∧ (fireRoom.phase = .running ∧ requestScope .srce [3] = some (.source, some 2)
        ∧ Held (classOrigin .control) .source (some 2) fireRoom)
    ∧ (requestScope .sesn [] = some (.session, none) ∧ Held (classOrigin .panel) .session none fireRoom) := by
  simp only [← held_iff]; decide +kernel

theorem test_meets_FindAndNext :
    (101 : BitVec 16) ≠ 0 ∧ (∀ b ∈ booked.bookings, b.given.tag ≠ 7) ∧ b102 ∈ booked.bookings
    ∧ (∀ x ∈ booked.bookings, x.given.tag = (102 : BitVec 16).toNat → x = b102)
    ∧ 2147483647 < (2147483648 : BitVec 32).toNat ∧ (2147483647 : BitVec 32).toNat ≤ 2147483647
    ∧ (∀ b ∈ booked.bookings, b.given.fin ≤ (10350 : BitVec 32).toNat)
    ∧ booked.bookings = [b101] ++ b102 :: [] ∧ (∀ x ∈ [b101], x.given.fin ≤ (10290 : BitVec 32).toNat)
    ∧ (10290 : BitVec 32).toNat < b102.given.fin := by decide +kernel

/-- The table's order is a matter of its pairs. -/
theorem booked_tableShape : TableShape booked := by
  refine ⟨?_, by decide +kernel, by decide +kernel, by decide +kernel⟩
  show List.Pairwise _ [b101, b102]
  simp only [List.pairwise_cons]
  refine ⟨?_, by simp, List.Pairwise.nil⟩
  intro c hc
  simp only [List.mem_singleton] at hc
  subst hc
  decide +kernel

theorem test_meets_FindAndNext_order : TableShape booked := booked_tableShape

/-- The admission of 101 in the room. -/
def admission101 : Admission := { assignment := ⟨true, false⟩, bridged := false, plannedA := 47520, plannedB := 0 }

theorem test_meets_BookAdmits :
    room.phase = .running ∧ ¬ Held (classOrigin .control) .bookings none room ∧ room.clock.isSet = true
    ∧ givenOf (raw 101 10200 10290 2 0 0) = some b101.given ∧ room.clock.minute ≤ b101.given.start
    ∧ b101.given.start ≤ room.clock.minute + 20160
    ∧ (∀ b ∈ room.bookings, b.given.tag ≠ b101.given.tag)
    ∧ (∀ b ∈ room.bookings, (b.given.fin ≤ b101.given.start ∨ b101.given.fin ≤ b.given.start)
        ∧ (b.state ≠ .pending → b.given.start < b101.given.start))
    ∧ room.bookings.length < 48
    ∧ lifeCheck room room.bookings room.lampA.committed room.lampB.committed b101.given = some admission101 := by
  simp only [← held_iff]; decide +kernel

theorem test_meets_BookAdmits_active :
    (∃ x ∈ lecture.bookings, x.state ≠ .pending) ∧ lecture.sched.demand.basis ≠ .gap
    ∧ (let g := { b101.given with tag := 9, start := 30410, fin := 30420 }
       givenOf g.raw = some g ∧ g.start ≤ lecture.clock.minute + 20160
         ∧ (∀ b ∈ lecture.bookings, (b.given.fin ≤ g.start ∨ g.fin ≤ b.given.start)
             ∧ (b.state ≠ .pending → b.given.start < g.start))
         ∧ (lifeCheck lecture lecture.bookings lecture.lampA.committed lecture.lampB.committed g).isSome) := by
  decide +kernel

/-- The room with every booking slot taken. -/
def fullTable : State :=
  let entry (k : Nat) : Booking :=
    bookingOf (200 + k) (11000 + 20 * k) (11010 + 20 * k) .eco ⟨true, false⟩ false 0 0 .pending k
  { room with bookings := (List.range 48).map entry }

/-- The room with no lamp fitted. -/
def darkRoom : State := { room with lampA := Lamp.reset .cleared, lampB := Lamp.reset .cleared }

/-- With no lamp fitted a session of plan DUAL asks for none, and no LAMP notice says degraded. -/
theorem test_case_dualSessionNoLamp :
    let t := after (.sesn .control) { darkRoom with config := { darkRoom.config with plan := .dual } }
    outcome t = some 0 ∧ t.sched.session = true ∧ t.sched.demand.asked = ⟨false, false⟩ ∧ t.notice .lamp = darkRoom.notice .lamp := by
  decide +kernel

theorem test_meets_BookAdmits_refusals :
    givenOf (raw 9 10200 10209 2 0 0) = none ∧ (givenOf (raw 9 10200 10210 2 0 0)).isSome = true
    ∧ (let g := { b101.given with start := 9999 }; givenOf g.raw = some g ∧ g.start < booked.clock.minute)
    ∧ (let g := { b101.given with start := 30161, fin := 30180 }; givenOf g.raw = some g ∧ booked.clock.minute + 20160 < g.start)
    ∧ (∃ b ∈ booked.bookings, b.given.tag = b101.given.tag)
    ∧ (let g := { b101.given with tag := 9, start := 10289, fin := 10300 }
       (∀ b ∈ booked.bookings, b.given.tag ≠ g.tag)
         ∧ ∃ b ∈ booked.bookings, (g.start < b.given.fin ∧ b.given.start < g.fin) ∨ (b.state ≠ .pending ∧ g.start ≤ b.given.start))
    ∧ (let g := { b101.given with tag := 9, start := 10190, fin := 10200 }
       ∃ b ∈ lecture.bookings, b.state ≠ .pending ∧ g.start ≤ b.given.start)
    ∧ (48 ≤ fullTable.bookings.length ∧ (∀ b ∈ fullTable.bookings, b.given.tag ≠ 9
        ∧ (b.given.fin ≤ 10200 ∨ 10290 ≤ b.given.start) ∧ (b.state ≠ .pending → b.given.start < 10200)))
    ∧ lifeCheck darkRoom darkRoom.bookings darkRoom.lampA.committed darkRoom.lampB.committed b101.given = none := by
  decide +kernel

theorem test_meets_RebkAmends_pending :
    let g := { b102.given with fin := 10360 }
    ¬ Held (classOrigin .control) .bookings none booked ∧ bookingAt g.tag booked.bookings = some b102
    ∧ atLeast .control b102.owner = true ∧ b102.state = .pending ∧ givenOf g.raw = some g
    ∧ booked.clock.minute ≤ g.start ∧ g.start ≤ booked.clock.minute + 20160
    ∧ (∀ x ∈ removeTag g.tag booked.bookings, (x.given.fin ≤ g.start ∨ g.fin ≤ x.given.start)
        ∧ (x.state ≠ .pending → x.given.start < g.start))
    ∧ (lifeCheck booked (removeTag g.tag booked.bookings) (booked.lampA.committed - b102.plannedA)
        (booked.lampB.committed - b102.plannedB) g).isSome ∧ g ≠ b102.given := by
  simp only [← held_iff]; decide +kernel

theorem test_meets_RebkAmends_active :
    let b := { b101 with state := .running, shownSinceStart := true }
    let r := raw 101 10200 10300 2 0 0
    bookingAt r.tag.toNat lecture.bookings = some b ∧ b.state ≠ .pending ∧ { r with fin := b.given.raw.fin } = b.given.raw
    ∧ lecture.clock.minute < r.fin.toNat ∧ b.given.start + 10 ≤ r.fin.toNat ∧ r.fin.toNat ≤ b.given.start + 720
    ∧ (successorAt b.given.start lecture.bookings).all (fun n => r.fin.toNat ≤ n.given.start) = true := by
  decide +kernel

theorem test_meets_RebkAmends_refusals :
    (0 : BitVec 16) = 0 ∧ (∀ b ∈ booked.bookings, b.given.tag ≠ 9) ∧ atLeast .control .service = false
    ∧ (let g := b102.given
       lifeCheck booked (removeTag g.tag booked.bookings) (booked.lampA.committed - b102.plannedA)
         (booked.lampB.committed - b102.plannedB) g = some ⟨b102.assignment, true, 18000, 0⟩)
    ∧ (let g := { b102.given with start := 10280 }
       ∃ x ∈ removeTag g.tag booked.bookings, g.start < x.given.fin ∧ x.given.start < g.fin)
    ∧ lifeCheck { darkRoom with bookings := booked.bookings } (removeTag 102 booked.bookings) 0 0 b102.given = none
    ∧ { raw 101 10200 10300 1 0 0 with fin := b101.given.raw.fin } ≠ b101.given.raw
    ∧ (raw 101 10200 10250 2 0 0).fin.toNat ≤ lecture.clock.minute
    ∧ b101.given.start + 720 < (raw 101 10200 10921 2 0 0).fin.toNat
    ∧ (∃ n, successorAt b101.given.start lecture.bookings = some n ∧ n.given.start < (raw 101 10200 10301 2 0 0).fin.toNat) := by
  refine ⟨rfl, by decide +kernel, by decide +kernel, by decide +kernel, by decide +kernel, by decide +kernel, by decide +kernel,
    by decide +kernel, by decide +kernel, b102, by decide +kernel⟩

theorem test_meets_UnbkAndEndn :
    ¬ Held (classOrigin .control) .bookings none lecture ∧ bookingAt (102 : BitVec 16).toNat lecture.bookings = some b102
    ∧ b102.state = .pending ∧ (∃ b, bookingAt (101 : BitVec 16).toNat lecture.bookings = some b ∧ b.state ≠ .pending)
    ∧ atLeast .control b102.owner = true := by
  refine ⟨?_, by decide +kernel, by decide +kernel, ⟨{ b101 with state := .running, shownSinceStart := true }, by decide +kernel⟩,
    by decide +kernel⟩
  simp only [← held_iff]; decide +kernel

theorem test_meets_TimeSetsClock :
    (2147483647 : BitVec 32).toNat ≤ 2147483647 ∧ (59 : Byte).toNat ≤ 59 ∧ 2147483647 < (2147483648 : BitVec 32).toNat
    ∧ 59 < (60 : Byte).toNat := by decide +kernel

/-- A booking of an exam with inputs 2 and 4, on lamp A. -/
def examBooking (st : BookingState) : Booking :=
  { bookingOf 101 10200 10290 .full ⟨true, false⟩ false 47520 0 st 0 with
    given := { tag := 101, start := 10200, fin := 10290, plan := .full, opening := none, preset := some 3, exam := true,
               examInputs := some 10 } }

/-- The exam RUNNING, with its EXAM hold. -/
def examRoom : State :=
  withHold examSlot (examHoldOf (examBooking .running)) { lecture with bookings := [examBooking .running, b102] }

/-- The gap between 101 and 102, with lamp A kept LIT. -/
def gapRoom : State :=
  { room with
    clock := { minute := 10291, second := 59, isSet := true }
    bookings := [b102]
    lampA := { lampOf .lit 20000000 with wanted := true, committed := 18000 }
    sched := { Schedule.reset with demand := ⟨.gap, .noLight, ⟨true, false⟩, .eco, some 102⟩ } }

theorem test_meets_BookingArrivals_check :
    (lecture.clock.isSet = true ∧ lecture.activeBooking = some { b101 with state := .running, shownSinceStart := true }
      ∧ lecture.clock.minute < b101.given.fin)
    ∧ (let s := { lecture with clock := { lecture.clock with minute := 10290 } }
       s.activeBooking.any (fun b => b.given.fin ≤ s.clock.minute) = true)
    ∧ (overdue { booked with clock := { booked.clock with minute := 10290 } }).map (·.given.tag) = [101]
    ∧ (let s := { booked with clock := { booked.clock with minute := 10197 } }
       s.activeBooking = none ∧ s.bookings = b101 :: [b102] ∧ b101.given.start - s.config.lead ≤ s.clock.minute)
    ∧ booked.clock.minute < b101.given.start - booked.config.lead
    ∧ (let s := { lecture with bookings := [{ b101 with state := .warming }, b102] }
       s.activeBooking = some { b101 with state := .warming } ∧ b101.given.start ≤ s.clock.minute)
    ∧ (let s := { lecture with config := { lecture.config with noShow := 50 }, bookings := [{ b101 with state := .running }] }
       s.activeBooking = some { b101 with state := .running } ∧ s.sched.startedAt = some 10200
         ∧ 10200 + s.config.noShow ≤ s.clock.minute) := by decide +kernel

theorem test_meets_BookingArrivals_parts :
    inSession.sched.session = true
    ∧ (b101.given.opening = none ∧ b101.given.exam = false)
    ∧ (hasInput 10 1 = true ∧ (∀ j : Input, j < 1 → hasInput 10 j = false) ∧ (examBooking .pending).given.examInputs = some 10)
    ∧ Held .automatic .source (some 1) (withHold 4 sourceHold booked) ∧ ¬ Held .automatic .source (some 1) booked
    ∧ (successorAt b101.given.start lecture.bookings = some b102 ∧ b102.bridged = true
        ∧ keptAt b101 b102 lecture = ⟨true, false⟩ ∧ keptAt b101 b102 booked = ⟨false, false⟩)
    ∧ examRoom.holds[examSlot].map (·.bookingTag) = some (some 101) ∧ lecture.holds[examSlot] = none
    ∧ (gapRoom.sched.demand.basis = .gap ∧ gapRoom.sched.demand.gapBooking = some b102.given.tag ∧ b102.state = .pending)
    ∧ ({ gapRoom with bookings := [] } : State).bookings = [] := by
  simp only [← held_iff]; decide +kernel

theorem test_meets_SessionRequests :
    (¬ Held (classOrigin .panel) .session none room ∧ room.sched.session = false ∧ ∀ b ∈ room.bookings, b.state = .pending)
    ∧ (¬ Held (classOrigin .control) .session none inSession ∧ inSession.sched.session = true)
    ∧ (∃ b ∈ lecture.bookings, b.state ≠ .pending) := by
  simp only [← held_iff]; decide +kernel

theorem test_meets_LampService :
    posOf 1 = some .a ∧ posOf 2 = some .b ∧ 100 ≤ (100 : BitVec 16).toNat ∧ (20000 : BitVec 16).toNat ≤ 20000
    ∧ doorRoom.holds[doorSlot] ≠ none ∧ doorRoom.strikeHeld = true ∧ (doorRoom.lamp .a).state = .cold
    ∧ ((setA (lampOf .failed 95040000) room).lamp .a).record.spentLimit
        ≤ ((setA (lampOf .failed 95040000) room).lamp .a).record.wear
    ∧ ((setA (lampOf .failed 95039999) doorRoom).lamp .a).record.wear
        < ((setA (lampOf .failed 95039999) doorRoom).lamp .a).record.spentLimit := by decide +kernel

theorem test_meets_LampService_refusals :
    posOf 0 = none ∧ posOf 3 = none ∧ (99 : BitVec 16).toNat < 100 ∧ 20000 < (20001 : BitVec 16).toNat
    ∧ room.holds[doorSlot] = none ∧ ((setA (lampOf .cooling 5) doorRoom).lamp .a).state = .cooling
    ∧ (Lamp.reset .cleared).state = .empty ∧ (room.lamp .a).state ≠ .failed := by decide +kernel

theorem test_meets_HoldAndLift_hold :
    (let r : HoldRaw := ⟨7, 4, 1, 3, 10001⟩
     (Class.control = .control → r.bound.getLsbD 2 = false) ∧ (requestedHoldOf .control r).map (·.expiry) = some (some 10001)
       ∧ room.clock.isSet = true ∧ room.clock.minute < 10001)
    ∧ (∀ i : Fin 16, 4 ≤ i.val → i < 5 → (withHold 4 strikeHold room).holds[i] ≠ none)
    ∧ (withHold 4 strikeHold room).holds[(5 : Fin 16)] = none
    ∧ (∀ i : Fin 16, 4 ≤ i.val → (withHold 4 strikeHold room).holds[i] = none
        ∨ (withHold 4 strikeHold room).holds[i].map (·.tag) ≠ some (some 7)) := by decide +kernel

theorem test_meets_HoldAndLift_meeting :
    CheckedAt .arrivalFollows ⟨10029, 59, true⟩ 10030 ∧ CheckedAt .arrivalFollows ⟨2147483647, 59, true⟩ 2147483647
    ∧ CheckedAt .arrivalTaken ⟨10030, 0, true⟩ 10029 ∧ CheckedAt .arrivalTaken ⟨10030, 1, true⟩ 10030
    ∧ CheckedAt .apart ⟨10030, 0, true⟩ 10030
    ∧ (requestedHoldOf .control ⟨7, 4, 1, 3, 10030⟩).map (·.expiry) = some (some 10030) :=
  ⟨by simp [CheckedAt], by simp [CheckedAt], by simp [CheckedAt], by simp [CheckedAt], by simp [CheckedAt], by decide +kernel⟩

theorem test_meets_HoldAndLift_lift :
    (let s := withHold 4 strikeHold room
     requestedHoldAt 45 s = some 4 ∧ s.holds[(4 : Fin 16)] = some strikeHold ∧ strikeHold.placer.all (atLeast .service) = true
       ∧ strikeHold.scopes.strike = true)
    ∧ (let s := withHold 15 sourceHold room
       requestedHoldAt 44 s = some 15 ∧ s.holds[(15 : Fin 16)] = some sourceHold
         ∧ sourceHold.placer.all (atLeast .control) = true ∧ sourceHold.scopes.strike = false) := by decide +kernel

/-- The room with every slot of a requested hold taken. -/
def fullHolds : State :=
  { room with holds := Vector.ofFn (fun i => if i.val < 4 then none else some { strikeHold with tag := some (100 + i.val) }) }

theorem test_meets_HoldAndLift_refusals :
    (⟨7, 4, 4, 0, 0⟩ : HoldRaw).bound.getLsbD 2 = true ∧ requestedHoldOf .control ⟨0, 4, 1, 0, 4294967295⟩ = none
    ∧ (requestedHoldOf .control ⟨7, 4, 1, 3, 10000⟩).map (·.expiry) = some (some 10000) ∧ 10000 ≤ room.clock.minute
    ∧ State.reset.clock.isSet = false
    ∧ ((withHold 4 sourceHold room).holds[(4 : Fin 16)] = some sourceHold ∧ sourceHold.tag = some (44 : BitVec 16).toNat)
    ∧ (∀ i : Fin 16, 4 ≤ i.val → fullHolds.holds[i] ≠ none ∧ fullHolds.holds[i].map (·.tag) ≠ some (some 7))
    ∧ atLeast .control .service = false ∧ (0 : BitVec 16) = 0 := by decide +kernel

theorem test_meets_SrceSelects :
    inputOf 8 = some 7 ∧ ¬ Held (classOrigin .control) .source (some 7) shown ∧ inputOf 3 = some 2
    ∧ (shown.switch.state = .shown ∧ shown.switch.current = some 2)
    ∧ ¬ (shown.switch.state = .shown ∧ shown.switch.current = some 7) ∧ room.switch.state = .idle
    ∧ (switching .taking).switch.state = .taking ∧ (switching .settling).switch.state = .settling
    ∧ (switching .noSignal).switch.state = .noSignal := by
  simp only [← held_iff]; decide +kernel

theorem test_meets_ProfStores :
    (profileOf 7 ⟨Profile.defaultLabel 7, 3, 7, 1, 1, 0⟩).isSome = true ∧ geometryTarget shown = some 2
    ∧ geometryTarget shown ≠ some 7 ∧ (profileOf 2 ⟨Profile.defaultLabel 2, 0, 0, 0, 0, 0⟩).isSome = true
    ∧ ¬ Held (classOrigin .service) .source (some 2) fireRoom := by
  simp only [← held_iff]; decide +kernel

theorem test_meets_ProfileAndPresetRead :
    (0 : Byte).toNat < 1 ∧ 8 < (9 : Byte).toNat ∧ (8 : Byte).toNat = (7 : Input).val + 1 ∧ 7 < (8 : Byte).toNat
    ∧ (7 : Byte).toNat = (7 : PresetNo).val := by decide +kernel

theorem test_meets_PrstStores :
    presetOf 7 = some 7 ∧ ¬ Held (classOrigin .control) .geometry none shown ∧ effectiveNow shown = some 0
    ∧ effectiveNow shown ≠ some 7 ∧ geometryTarget shown = some 2 ∧ effectivePreset shown 2 = 0
    ∧ Preset.clamped (presetValues ⟨301, 0, 0, 0, 0, 0, 0, 0, 0, 0⟩) ≠ presetValues ⟨301, 0, 0, 0, 0, 0, 0, 0, 0, 0⟩
    ∧ Preset.clamped (presetValues ⟨300, 0, 0, 0, 0, 0, 0, 0, 0, 0⟩) = presetValues ⟨300, 0, 0, 0, 0, 0, 0, 0, 0, 0⟩ := by
  simp only [← held_iff]; decide +kernel

theorem test_meets_ranges : 8 < (9 : Byte).toNat ∧ (0 : Byte).toNat < 1 ∧ 7 < (8 : Byte).toNat
    ∧ ¬ Held (classOrigin .control) .source none shown := by
  simp only [← held_iff]; decide +kernel

theorem test_meets_ApplSetsOverride :
    ¬ Held (classOrigin .control) .geometry none shown ∧ (∃ x ∈ shown.bookings, x.state ≠ .pending)
    ∧ inSession.sched.session = true ∧ (7 : Byte).toNat = (7 : PresetNo).val ∧ (255 : Byte) = 255
    ∧ effectiveNow (after (.appl .control 7) shown) ≠ effectiveNow shown
    ∧ effectiveNow (after (.appl .control 255) shown) = effectiveNow shown
    ∧ (room.sched.session = false ∧ ∀ x ∈ room.bookings, x.state = .pending)
    ∧ (8 ≤ (8 : Byte).toNat ∧ (8 : Byte) ≠ 255) ∧ (8 ≤ (254 : Byte).toNat ∧ (254 : Byte) ≠ 255) := by
  simp only [← held_iff]; decide +kernel

theorem test_meets_ApplSetsOverride_target :
    (room.switch.state = .idle ∧ geometryTarget room = none) ∧ (shown.switch.state ≠ .idle ∧ geometryTarget shown = some 2)
    ∧ effectivePreset { shown with geom := { shown.geom with override := some 7 } } 2 = 7 := by decide +kernel

theorem test_meets_MuteAndUnmute : (keyed 3 room).panel = some 3 ∧ ¬ Held .panel .keys none (keyed 3 room) := by
  simp only [← held_iff]; decide +kernel

theorem test_meets_SummReadsNotices : room.phase = .running ∧ ∀ k, room.level k ≤ 3 := by
  refine ⟨rfl, fun k => ?_⟩; cases k <;> decide +kernel

theorem test_meets_NlvlSetsLevel :
    (0 : Byte).toNat < 1 ∧ 9 < (10 : Byte).toNat ∧ (9 : Byte).toNat = NoticeClass.panel.index.val + 1
    ∧ 3 < (4 : Byte).toNat ∧ (3 : Byte).toNat ≤ 3 := by decide +kernel

theorem test_meets_ConfStores :
    (let r : ConfigRaw := ⟨10, 30, 120, 60, 60, 3, [3, 3, 3, 3, 3, 3, 3, 3, 3]⟩
     r.levels.length = 9 ∧ (after (.conf .control r) room).config.bytes = configRawBytes r)
    ∧ (let r : ConfigRaw := ⟨11, 31, 121, 61, 61, 4, [4, 3, 3, 3, 3, 3, 3, 3, 3]⟩
       r.levels.length = 9 ∧ (after (.conf .control r) room).config.bytes ≠ configRawBytes r) := by decide +kernel

theorem test_meets_KeyStrobesAndUnknownKeys :
    room.panel = none ∧ (keyed 3 room).panel ≠ none ∧ State.reset.phase ≠ .running ∧ (keyed 0 room).panel = some 0
    ∧ (keyed 20 room).panel = some 20 ∧ 20 ≤ (20 : Byte).toNat := by decide +kernel

theorem test_meets_PowerKeys :
    (¬ Held .panel .keys none (keyed 1 room) ∧ ¬ Held .panel .session none (keyed 1 room)
      ∧ (keyed 1 room).sched.session = false ∧ ∀ b ∈ (keyed 1 room).bookings, b.state = .pending)
    ∧ (keyed 1 inSession).sched.session = true ∧ (∃ b ∈ (keyed 1 lecture).bookings, b.state ≠ .pending)
    ∧ (¬ Held .panel .session none (keyed 2 inSession) ∧ (keyed 2 inSession).panel = some 2)
    ∧ (¬ Held .panel .bookings none (keyed 2 lecture) ∧ (keyed 2 lecture).sched.session = false
        ∧ (keyed 2 lecture).activeBooking.isSome = true) := by
  simp only [← held_iff]; decide +kernel

theorem test_meets_SourceAndPresetKeys :
    ((11 : Byte).toNat = (7 : Input).val + 4 ∧ ¬ Held .panel .keys none (keyed 11 shown)
      ∧ ¬ Held .panel .source (some 7) (keyed 11 shown) ∧ (keyed 11 shown).profiles[(7 : Input)].panelSelectable = true)
    ∧ ((19 : Byte).toNat = (7 : PresetNo).val + 12 ∧ ¬ Held .panel .geometry none (keyed 19 shown)
      ∧ (∃ x ∈ (keyed 19 shown).bookings, x.state ≠ .pending)) := by
  simp only [← held_iff]; decide +kernel

theorem test_meets_RefusedKeys :
    Held .panel .keys none (keyed 4 fireRoom)
    ∧ Held .panel .session none (withHold 4 (panelHold ⟨false, false, false, false, false, true, false⟩) (keyed 2 inSession))
    ∧ Held .panel .bookings none (withHold 4 (panelHold ⟨false, false, false, false, true, false, false⟩) (keyed 2 lecture))
    ∧ Held .panel .source (some 7) (withHold 4 sourceHold (keyed 11 room))
    ∧ Held .panel .geometry none (withHold 4 (panelHold ⟨false, false, false, true, false, false, false⟩) (keyed 12 room))
    ∧ (let s := keyed 4 { room with profiles := room.profiles.set 0 { Profile.defaults 0 with panelSelectable := false } }
       ¬ Held .panel .keys none s ∧ ¬ Held .panel .source (some 0) s ∧ s.profiles[(0 : Input)].panelSelectable = false)
    ∧ (¬ Held .panel .geometry none (keyed 19 room) ∧ (19 : Byte).toNat ≤ 19 ∧ room.sched.session = false) := by
  simp only [← held_iff]; decide +kernel

theorem test_meets_SecondArrival :
    lecture.phase = .running ∧ (lecture.lamp .a).state = .lit ∧ State.reset.phase ≠ .running
    ∧ ((setA { lampOf .cooling 5 with cooldown := 2 } room).lamp .a).cooldown = 0 + 2 := by decide +kernel

theorem test_meets_SecondArrival_lamps :
    (lampOf .lit 5).unstored + 1 < 60 ∧ 60 ≤ ({ lampOf .lit 5 with unstored := 59 } : Lamp).unstored + 1
    ∧ (3000 * 25920 ≤ (lampOf .lit 77760000).record.wear ∧ (lampOf .lit 77759999).record.wear < 3000 * 25920)
    ∧ (3000 * 28800 ≤ (lampOf .lit 86400000).record.wear ∧ (lampOf .lit 86399999).record.wear < 3000 * 28800)
    ∧ (Lamp.reset .cleared).record.fitted = false
    ∧ ({ lampOf .striking 5 with window := some 2 } : Lamp).window = some (0 + 2)
    ∧ ({ lampOf .striking 5 with window := some 1 } : Lamp).window = some 1 ∧ (lampOf .striking 5).window = none
    ∧ ({ lampOf .cooling 5 with cooldown := 1 } : Lamp).cooldown ≤ 1
    ∧ 598 < 599 ∧ ({ lampOf .lit 5 with continuous := 599 } : Lamp).continuous = 599
    ∧ 600 ≤ ({ lampOf .lit 5 with continuous := 600 } : Lamp).continuous := by decide +kernel

theorem test_meets_SecondArrival_rest :
    ((switching .noSignal).switch.grace = some 1 ∧ room.switch.state ≠ .noSignal)
    ∧ (let s := { switching .noSignal with switch := { (switching .noSignal).switch with grace := some 2 } }
       s.switch.grace = some (0 + 2))
    ∧ (inSession.config.unattended * 60 ≤ inSession.sched.unattended + 1 ∧ 0 < inSession.config.unattended * 60)
    ∧ room.sched.session = false
    ∧ (gapRoom.clock.second = 59 ∧ gapRoom.clock.minute < 2147483647 ∧ ¬ 59 ≤ lecture.clock.second) := by decide +kernel

theorem test_meets_MinuteArrival :
    (let s := withHold 4 sourceHold { room with clock := { minute := 10000, second := 59, isSet := true } }
     59 ≤ s.clock.second ∧ s.clock.minute < 2147483647 ∧ s.holds[(4 : Fin 16)] = some sourceHold
       ∧ sourceHold.kind = .requested ∧ sourceHold.expiry = some 10001 ∧ 10001 ≤ s.clock.minute + 1)
    ∧ strikeHold.expiry = none ∧ room.clock.second < 59 := by decide +kernel

theorem test_meets_MinuteArrival_expiry :
    ExpiresAt 10001 sourceHold ∧ ¬ ExpiresAt 10000 sourceHold ∧ ¬ ExpiresAt 10001 strikeHold
    ∧ ExpiresAt 10001 { strikeHold with expiry := some 10001 } ∧ strikeHold.scopes.strike = true
    ∧ sourceHold.scopes.strike = false := by
  refine ⟨⟨rfl, 10001, rfl, by decide⟩, ?_, ?_, ⟨rfl, 10001, rfl, by decide⟩, rfl, rfl⟩
  · rintro ⟨_, e, he, hle⟩; cases he; exact absurd hle (by decide)
  · rintro ⟨_, e, he, _⟩; cases he

theorem test_meets_LitCounts :
    ((setA { lampOf .lit 5 with unstored := 59 } room).lamp .a).unstored = 59
    ∧ ((setA { lampOf .lit 5 with continuous := 599 } room).lamp .a).continuous = 599
    ∧ ((setA (lampOf .lit 5) room).lamp .a).state = .lit := by decide +kernel

theorem test_meets_WindowAndCooldown :
    (let s := setA { lampOf .striking 5 with window := some 1, attempts := 2 } room
     (s.lamp .a).state = .striking ∧ (s.lamp .a).window = some 1 ∧ 2 ≤ (s.lamp .a).attempts)
    ∧ (lampOf .striking 5).attempts < 2
    ∧ (let s := setA { lampOf .cooling 95040000 with cooldown := 1 } room
       (s.lamp .a).state = .cooling ∧ (s.lamp .a).cooldown ≤ 1 ∧ (s.lamp .a).record.spentLimit ≤ (s.lamp .a).record.wear)
    ∧ (let s := setA { lampOf .cooling 95039999 with cooldown := 1, wanted := true } room
       (s.lamp .a).record.wear < (s.lamp .a).record.spentLimit
         ∧ MayStrike .a (s.setLamp .a { s.lamp .a with state := .cold }))
    ∧ ¬ MayStrike .b (doorRoom.setLamp .b { doorRoom.lamp .b with state := .cold }) := by
  simp only [← mayStrike_iff]; decide +kernel

/-- An input with a fallback input that is present. -/
def fallbackRoom : State :=
  { switching .noSignal with
    profiles := room.profiles.set 2 { Profile.defaults 2 with fallback := some 6 } }

theorem test_meets_UnattendedAndGrace :
    (inSession.sched.session = true ∧ inSession.switch.state ≠ .shown
      ∧ inSession.config.unattended * 60 ≤ inSession.sched.unattended + 1)
    ∧ (fallbackRoom.switch.state = .noSignal ∧ fallbackRoom.switch.current = some 2 ∧ fallbackRoom.switch.grace = some 1
      ∧ fallbackRoom.profiles[(2 : Input)].fallback = some 6 ∧ hasInput fallbackRoom.switch.presence 6 = true
      ∧ fallbackRoom.switch.reachedBy ≠ some .fallback ∧ ¬ Held .automatic .source (some 6) fallbackRoom)
    ∧ Held .automatic .source (some 6) (withHold 4 sourceHold fallbackRoom)
    ∧ (switching .noSignal).profiles[(2 : Input)].fallback = none := by
  simp only [← held_iff]; decide +kernel

theorem test_meets_TakeTimeout :
    (switching .taking).switch.state = .taking ∧ (switching .taking).switch.takeTimer = true := by decide +kernel

/-- A pending selection of input 8. -/
def waiting (s : State) : State :=
  { s with switch := { s.switch with pendingSel := some { target := 7, origin := .panel, kind := .key } } }

theorem test_meets_ReadingsChangeNothing :
    (room.switch.pendingSel = none ∧ room.meter.last = none ∧ room.switch.current = none)
    ∧ ((waiting shown).switch.pendingSel = some { target := 7, origin := .panel, kind := .key })
    ∧ ((switching .shown).meter.last = some ⟨16760, 1236⟩ ∧ (switching .shown).switch.current = some 2)
    ∧ room.geom.wanted = none ∧ room.geom.applied = none ∧ shown.geom.applied.isSome = true
    ∧ (computeTarget shown).geom.wanted.isSome = true
    ∧ (room.lamp .a).record.fitted = true ∧ (Lamp.reset .cleared).record.fitted = false := by decide +kernel

theorem test_meets_TakeAckAndSettleTimeout :
    (let s := matrixLatched (.takeAck 2) (switching .taking)
     s.switch.latch = some (.takeAck 2) ∧ s.switch.takeInFlight = some 2 ∧ s.switch.pendingSel = none)
    ∧ ¬ Held .panel .source (some 7) (waiting (switching .taking))
    ∧ Held .panel .source (some 7) (withHold 4 sourceHold (waiting (switching .taking)))
    ∧ (matrixLatched (.takeAck 2) shown).switch.state ≠ .taking
    ∧ ((switching .settling).switch.settleTimer = true ∧ (switching .settling).switch.pendingSel = none)
    ∧ ¬ Held .panel .source (some 7) (waiting (switching .settling))
    ∧ Held .panel .source (some 7) (withHold 4 sourceHold (waiting (switching .settling))) := by
  simp only [← held_iff]; decide +kernel

theorem test_meets_PresenceTaken :
    (let s := matrixLatched (.presence 128) shown
     s.switch.latch = some (.presence 128)
       ∧ ∀ i : Input, hasInput 128 i = false ∨ hasInput s.switch.presence i = true ∨ s.profiles[i].takeOnArrival = false)
    ∧ (let s := matrixLatched (.presence 128)
        { shown with profiles := shown.profiles.set 7 { Profile.defaults 7 with takeOnArrival := true } }
       LectureOrSession s ∧ hasInput 128 7 = true ∧ hasInput s.switch.presence 7 = false
         ∧ s.profiles[(7 : Input)].takeOnArrival = true ∧ s.switch.current ≠ some 7
         ∧ (∀ j : Input, j < 7 → hasInput 128 j = false) ∧ ¬ Held .automatic .source (some 7) s) := by
  simp only [← held_iff, ← lecture_iff]; decide +kernel

theorem test_meets_SyncMeter_edges :
    room.meter.state = .idle ∧ shown.meter.state ≠ .idle ∧ shown.meter.refEdge = none
    ∧ (switching .settling).meter.state = .seeking ∧ (switching .settling).meter.refEdge = some 37527
    ∧ 45526 - 37527 < 8000 ∧ 50000 < 87528 - 37527 ∧ 8000 ≤ 45527 - 37527 ∧ 87527 - 37527 ≤ 50000
    ∧ ({ switching .settling with meter := { Meter.restarted with refEdge := some 5 } } : State).meter.last = none
    ∧ ({ shown with meter := { shown.meter with refEdge := some 37527 } } : State).meter.state = .locked
    ∧ (switching .settling).meter.last = some ⟨16760, 1236⟩
    ∧ StablePair ⟨16760, 1236⟩ { period := 54217 - 37527, lines := 1235 }
    ∧ ¬ StablePair ⟨16667, 1235⟩ { period := 16760, lines := 1236 } := by
  unfold StablePair; decide +kernel

theorem test_meets_SyncMeter_states :
    ((switching .settling).switch.state = .settling ∧ (switching .settling).switch.pendingSel = none)
    ∧ (switching .noSignal).switch.state = .noSignal ∧ (switching .taking).switch.state = .taking
    ∧ (switching .settling).meter.lossTimer = true ∧ (switching .settling).meter.state = .seeking
    ∧ shown.meter.lossTimer = true ∧ shown.meter.state = .locked ∧ shown.switch.state = .shown := by decide +kernel

theorem test_meets_SyncMeter_stable :
    ((waiting (switching .settling)).switch.state = .settling
      ∧ (waiting (switching .settling)).switch.pendingSel = some { target := 7, origin := .panel, kind := .key }
      ∧ (switching .settling).switch.current ≠ none)
    ∧ ¬ Held .panel .source (some 7) (waiting (switching .settling))
    ∧ Held .panel .source (some 7) (withHold 4 sourceHold (waiting (switching .settling)))
    ∧ (shown.geom.appliedFor = some 2 ∧ room.geom.appliedFor ≠ some 2) ∧ inSession.sched.session = true := by
  simp only [← held_iff]; decide +kernel

theorem test_meets_InboundStrobes :
    room.engine.latch = none ∧ (latched (.door true) room).engine.latch ≠ none ∧ room.switch.latch = none
    ∧ (matrixLatched (.presence 1) room).switch.latch ≠ none := by decide +kernel

/-- A corner set of input 8. -/
def corners8 : CornerSet := ⟨⟨⟨0, 0⟩, ⟨1919, 0⟩, ⟨1919, 1199⟩, ⟨0, 1199⟩⟩, 7⟩

theorem test_meets_Acknowledge :
    (let s := sending (.lamp .a (.strike .full)) (setA (lampOf .striking 5) room)
     s.phase ≠ .flush ∧ s.engine.state = .sending ∧ s.engine.inFlight = some (.lamp .a (.strike .full))
       ∧ (s.lamp .a).state = .striking)
    ∧ (sending (.warp corners8) room).engine.inFlight = some (.warp corners8)
    ∧ (∀ w, (sending (.shutter true) room).engine.inFlight ≠ some (.warp w))
    ∧ (∀ p w, (sending (.shutter true) room).engine.inFlight = some (.lamp p (.strike w)) →
        ((sending (.shutter true) room).lamp p).state ≠ .striking)
    ∧ room.engine.state ≠ .sending ∧ ({ room with phase := .flush } : State).phase = .flush := by
  refine ⟨by decide +kernel, by decide +kernel, ?_, ?_, by decide +kernel, by decide +kernel⟩
  · intro w h; exact absurd h (by simp [sending])
  · intro p w h; exact absurd h (by simp [sending])

theorem test_meets_Acknowledge_struckAnew :
    let s := sending (.lamp .a (.strike .full)) { setA (lampOf .striking 5) room with
      engine := { room.engine with lampASlot := some (.strike .eco) } }
    s.engine.inFlight = some (.lamp .a (.strike .full)) ∧ (s.lamp .a).state = .striking
      ∧ s.engine.lampSlot .a = some (.strike .eco) := by decide +kernel

/-- The acknowledge of the older STRIKE starts no window while the newer one waits. -/
theorem test_case_struckAnew :
    let t := after .engineAcknowledge (sending (.lamp .a (.strike .full)) { setA (lampOf .striking 5) room with
      engine := { room.engine with lampASlot := some (.strike .eco) } })
    t.lampA.window = none ∧ t.engine.inFlight = some (.lamp .a (.strike .eco)) ∧ t.engine.lampASlot = none := by decide +kernel

theorem test_meets_AcknowledgeTimeout :
    (let s := sending (.shutter true) shown
     s.engine.state = .sending ∧ s.engine.ackTimer = true ∧ (s.lamp .a).state = .lit ∧ (s.lamp .b).state ≠ .striking
       ∧ (s.lamp .b).state ≠ .lit) := by decide +kernel

theorem test_meets_BurningCooled :
    (gapRoom.sched.demand.basis = .gap ∧ (gapRoom.lamp .a).burning = true ∧ gapRoom.sched.demand.asked = ⟨true, false⟩)
    ∧ lecture.sched.demand.basis ≠ .gap ∧ (lecture.lamp .a).state = .lit
    ∧ ((setA (lampOf .striking 5) lecture).lamp .a).state = .striking
    ∧ (let s := { gapRoom with sched := { gapRoom.sched with demand := { gapRoom.sched.demand with asked := ⟨true, true⟩ } } }
       s.sched.demand.asked.inter ⟨true, false⟩ ≠ s.sched.demand.asked) := by decide +kernel

theorem test_meets_LampSenseTaken :
    (let s := latched (.lampSense .a true) (setA (lampOf .striking 5) room)
     s.engine.latch = some (.lampSense .a true) ∧ (s.lamp .a).state = .striking)
    ∧ ((latched (.lampSense .a false) lecture).lamp .a).state = .lit ∧ (lecture.lamp .a).attempts < 2
    ∧ 2 ≤ ((setA { lampOf .lit 5 with attempts := 2 } lecture).lamp .a).attempts
    ∧ (let s := latched (.lampSense .a true) room
       (s.lamp .a).state ≠ .striking ∧ (s.lamp .a).state ≠ .lit ∧ (s.lamp .a).state ≠ .cooling)
    ∧ (let s := sending (.lamp .a .douse) (latched (.lampSense .a true) (setA (lampOf .cooling 5) room))
       (s.lamp .a).state = .cooling ∧ s.engine.inFlight = some (.lamp .a .douse))
    ∧ ((latched (.lampSense .a false) room).lamp .a).state ≠ .lit := by decide +kernel

theorem test_meets_LampSenseTaken_demands :
    (lecture.sched.demand.basis = .booking ∧ lecture.sched.demand.asked = .only .a ∧ (lecture.lamp .a).usable = true)
    ∧ (let s := setA (lampOf .failed 5) lecture
       (s.lamp .a).usable = false ∧ (s.lamp .b).usable = true ∧ s.effective ≠ ⟨true, true⟩)
    ∧ (inSession.sched.demand.basis = .session ∧ inSession.sched.demand.plan = .dual)
    ∧ (gapRoom.sched.demand.basis = .gap ∧ gapRoom.sched.demand.asked.has .a = true
        ∧ gapRoom.sched.demand.asked.has (otherPos .a) = false)
    ∧ (lecture.lamp .a).power ≠ { lecture with sched := { lecture.sched with demand := Demand.idle } }.wantedPower .a
    ∧ ((sending (.shutter true) { setA { lampOf .striking 5 with wanted := true } room with
        engine := { room.engine with lampASlot := some (.strike .full) } }).engine.strikeWaits .a = true) := by decide +kernel

theorem test_meets_DoorThermalAndFire :
    ((latched (.door true) lecture).engine.latch = some (.door true) ∧ lecture.holds[doorSlot] = none
      ∧ (lecture.lamp .a).state = .lit)
    ∧ (latched (.door false) doorRoom).holds[doorSlot] ≠ none
    ∧ (latched (.thermal .over) lecture).engine.latch = some (.thermal .over)
    ∧ true ≠ lecture.fire.seen ∧ false = lecture.fire.seen ∧ State.reset.phase ≠ .running := by decide +kernel

theorem test_meets_StatusReportTaken :
    let s := latched (.statusReport false true .over true) (faulted room)
    s.engine.latch = some (.statusReport false true .over true) ∧ s.engine.state = .fault ∧ s.geom.appliedFor = none
      ∧ room.engine.state ≠ .fault := by decide +kernel

theorem test_meets_StatusReportTaken_shown :
    (faulted shown).switch.state = .shown ∧ (faulted shown).switch.current = some 2 ∧ (faulted room).switch.state ≠ .shown
    ∧ (faulted room).switch.current = none := by decide +kernel

theorem test_meets_FramesAndStaging :
    room.link.receiving = false ∧ room.link.decoder = none ∧ room.link.buffer.length ≤ room.link.readPos
    ∧ ({ room with link := { Link.reset with buffer := [1] } } : State).link.readPos < 1
    ∧ (framed [1] room).link.receiving = true ∧ (framed [1] room).link.byteCount < 64
    ∧ 64 ≤ (framed (List.replicate 64 0) room).link.byteCount
    ∧ (let l : Link := { (framed [1] room).link with status := .ready, buffer := [9, 9] }
       l.byteCount ≠ 0 ∧ l.status = .ready ∧ l.overrun = false ∧ l.readPos < l.buffer.length)
    ∧ ({ room with link := { Link.reset with decoder := some [7] } } : State).link.decoder = some [7]
    ∧ State.reset.phase ≠ .running := by decide +kernel

/-- A frame of the flush whose first byte is clocked in start-up answers NOT READY and then fill. -/
theorem test_case_frameInFlush :
    let t := after (.restartFlushEnd []) (after .frameBegin { room with phase := .flush })
    t.phase = .startUp ∧ t.link.byteOut = 2 ∧ (after (.byteCompletion 70) t).link.byteOut = 0 := by decide +kernel

/-- A frame begun in start-up owes its NOT READY past the end of start-up, then gives fill; the next frame shows NONE. -/
theorem test_case_frameAcrossEnd :
    let t := after .startUpEnd (after .frameBegin { room with phase := .startUp })
    let u := after (.byteCompletion 70) t
    t.link.receiving = false ∧ t.link.owed = true ∧ t.link.byteOut = 2 ∧ u.link = Link.reset ∧ u.link.byteOut = 0
      ∧ after (.requestFrameEnd ⟨false, .apart⟩) t = { t with link := Link.reset }
      ∧ (after .frameBegin (after .fetchFrame t)).link.byteOut = 0 := by decide +kernel

theorem test_meets_FramesAndStaging_byteOut :
    let l : Link := { (framed [1] room).link with status := .ready, buffer := [8, 9], readPos := 1 }
    (l.byteCount ≠ 0 ∧ l.status = .ready ∧ l.buffer = [8] ++ 9 :: [] ∧ [8].length = l.readPos) ∧ room.link.byteCount = 0
      ∧ ({ l with readPos := 2 } : Link).buffer.length ≤ 2 ∧ (framed [1] room).link.status ≠ .ready := by decide +kernel

theorem test_meets_RequestFrame :
    let s := framed [70, 73, 78, 68, 2, 0, 101] booked
    s.phase = .running ∧ s.link.receiving = true ∧ s.link.overrun = false ∧ s.link.byteCount ≤ 64
    ∧ 5 + ReqName.find.length ≤ s.link.byteCount ∧ s.link.bytes.take 4 = ReqName.find.letters
    ∧ (s.link.bytes.getD 4 0).toNat = ReqName.find.length := by decide +kernel

theorem test_meets_OtherFrames :
    (let s := framed [0, 0] room
     s.link.receiving = true ∧ s.link.overrun = false ∧ 2 ≤ s.link.byteCount ∧ s.link.bytes.getD 0 0 = 0)
    ∧ frameSort (framed [70, 73, 78, 68, 3, 0, 101, 0] room).link = .malformed .wrongLength
    ∧ 64 < (framed (List.replicate 65 1) room).link.byteCount ∧ (framed [7] room).link.byteCount = 1
    ∧ ((framed [7, 7, 7, 7] room).link.byteCount ≤ 4 ∧ (framed [7, 7, 7, 7] room).link.bytes.getD 0 0 ≠ 0)
    ∧ (∀ n ∈ ReqName.all, n.letters ≠ (framed [70, 73, 78, 69, 0] room).link.bytes.take 4)
    ∧ (framed [70, 73, 78, 68, 2, 0] room).link.byteCount < 5 + ReqName.find.length
    ∧ ({ framed [1] room with link := { (framed [1] room).link with overrun := true } } : State).link.overrun = true
    ∧ (framed [] room).link.byteCount = 0 ∧ (framed [1] State.reset).phase ≠ .running := by decide +kernel

theorem test_meets_WritesAndRetries :
    (let s := { room with store := { room.store with writing := some ⟨66, checked []⟩ } }
     s.phase ≠ .flush ∧ s.store.writing = some ⟨66, checked []⟩ ∧ 66 < s.store.records.length)
    ∧ (⟨[], 1⟩ : Damage).error ≠ 0 ∧ room.store.writing = none
    ∧ (let s := { room with store := { room.store with dirty := [3, 5], waiting := [3] } }
       3 ∈ s.store.waiting ∧ s.store.dirty = [3] ++ 5 :: [] ∧ (∀ m ∈ [3], m ∈ s.store.waiting) ∧ 5 ∉ s.store.waiting) := by
  decide +kernel

theorem test_meets_RestartAndPowerReset :
    room.phase = .running ∧ ({ room with phase := .flush } : State).phase = .flush ∧ room.phase ≠ .flush
    ∧ ({ room with store := { room.store with dirty := [0, 66] } } : State).store.dirty = 0 :: [66]
    ∧ room.store.writing = none ∧ room.store.dirty = [] := by decide +kernel

theorem test_meets_WritesAndRetries_flush :
    let s := { room with phase := .flush, store := { room.store with writing := some ⟨66, checked []⟩, dirty := [66, 0] } }
    s.phase = .flush ∧ s.store.writing = some ⟨66, checked []⟩ ∧ s.store.dirty = 66 :: [0]
    ∧ ({ s with store := { s.store with dirty := [] } } : State).store.dirty = [] := by decide +kernel

/-- The records of a new store with two bookings in slots 1 and 47, of which the later overlaps the first, and with the
configuration, profile 1, preset 0 and the record of lamp A damaged. -/
def mixedStore : List StoredRecord :=
  ((((((storeFirst.set 20 (checked (b101.given.bytes ++ [1, 1]))).set 66 (checked ({ b101.given with tag := 7 }.bytes ++ [1, 1]))).set
    0 ⟨[], 1⟩).set 1 ⟨[], 1⟩).set 9 ⟨[], 1⟩).set 17 ⟨List.replicate 14 7, 0⟩)

/-- The load of that store takes the first booking, gives the defaults and the estimated record, marks what failed in order, and
names the last. -/
theorem test_mixedStore :
    let t := boot { minute := 0, second := 0, isSet := false } mixedStore State.reset
    t.bookings.map (fun b => (b.given.tag, b.slot, b.bridged)) = [(101, 1, false)]
    ∧ t.store.writing.map (·.number) = some 0 ∧ t.store.dirty = [1, 9, 17, 66]
    ∧ t.notice .store = { pending := true, code := 1, arg := noticeArg 66 0 0 0 }
    ∧ t.lampA.record = { fitted := true, serial := 117901063, rated := 1799, wear := 51811200, strikes := 1799,
                         estimated := true } := by decide +kernel

theorem test_meets_RestartAndPowerReset_loaded :
    ConfigFails mixedStore ∧ ProfileFails mixedStore 0 ∧ PresetFails mixedStore 0 ∧ LampFails mixedStore .a
    ∧ SlotHolds (storedAt mixedStore 20) b101.given .control ⟨true, false⟩
    ∧ (ConfigInRange .defaults ∧ Stored (storedAt storeFirst 0) ConfigRecord.defaults.bytes)
    ∧ (ProfileFits 1 (.defaults 1) ∧ Stored (storedAt mixedStore 2) (Profile.defaults 1).bytes)
    ∧ (PresetInRange .defaults ∧ Stored (storedAt mixedStore 16) Preset.defaults.bytes)
    ∧ (LampRecordFits .cleared ∧ Stored (storedAt mixedStore 18) LampRecord.cleared.bytes) := by
  refine ⟨(configFails_iff _).mp ?_, (profileFails_iff _ 0).mp ?_, (presetFails_iff _ 0).mp ?_, (lampFails_iff _ .a).mp ?_,
    (loadSlot_taken _ _ _ _).mp ?_, (loadConfig_iff _ _).mp ?_, (loadProfile_iff 1 _ _).mp ?_, (loadPreset_iff _ _).mp ?_,
    (loadLamp_iff _ _).mp ?_⟩ <;> decide +kernel

theorem test_meets_RestartAndPowerReset_flush :
    let s := { room with phase := .flush, store := { room.store with writing := some ⟨3, checked []⟩, dirty := [0, 66] } }
    let failed : List (Nat × ReadBack) := [(66, .kept), (0, .damaged ⟨[], 1⟩)]
    3 ∉ s.store.dirty ∧ 66 ∈ s.store.dirty ∧ (∀ x ∈ failed, x.1 ≠ 3) ∧ failed = [] ++ (66, .kept) :: [(0, .damaged ⟨[], 1⟩)]
    ∧ s.store.writing = some ⟨3, checked []⟩ ∧ 66 < s.store.records.length := by decide +kernel

/-- The four plans at the life check (R93). -/
theorem test_meets_BookAdmits_plans :
    (b101.given.plan = .full) ∧ ({ b101.given with plan := .noLight } : Given).plan = .noLight
    ∧ (lifeCheck darkRoom [] 0 0 { b101.given with plan := .noLight }).isSome = true
    ∧ lifeCheck darkRoom [] 0 0 { b101.given with plan := .dual } = none
    ∧ (lifeCheck room [] 0 0 { b101.given with plan := .dual }).isSome = true := by decide +kernel

theorem test_meets_StartUpEnds :
    State.reset.phase = .startUp ∧ State.reset.fire.level = false ∧ room.phase ≠ .startUp
    ∧ ({ State.reset with fire := { level := true, seen := false } } : State).fire.level = true := by decide +kernel

/-! The invariants that every step is to keep have no other hypothesis than themselves and a step; the lecture with input 3 SHOWN
and a requested hold meets them. -/

/-- The lecture with input 3 SHOWN and a requested hold. -/
def heldLecture : State := withHold 4 sourceHold shown

theorem test_meets_step : ∃ t, step { heldLecture with pending := [.secondArrival] } = .next t := ⟨_, rfl⟩

theorem test_meets_ShutterFollowsConditions : GateAgrees heldLecture := by
  unfold GateAgrees; rw [← gateCondition_iff]; decide +kernel

theorem test_meets_CommittedWearIsTheSum : CommittedAgrees heldLecture := by unfold CommittedAgrees; decide +kernel

theorem test_meets_ChannelAndCornersKeepShape : ChannelShape heldLecture ∧ CornersInRaster heldLecture := by
  refine ⟨⟨rfl, rfl, rfl, rfl, rfl, rfl⟩, by intro w h; exact absurd h (by simp [heldLecture, withHold, shown, lecture, room, Geometry.reset, State.reset]), ?_,
    by intro w h; exact absurd h (by simp [heldLecture, withHold, shown, lecture, room, Engine.reset]),
    by intro w h; exact absurd h (by simp [heldLecture, withHold, shown, lecture, room, Engine.reset])⟩
  intro c h
  cases h
  unfold Corners.InRaster Point.InRaster
  decide +kernel

theorem test_meets_SwitchKeepsShape : SwitchShape heldLecture := by unfold SwitchShape; decide +kernel

theorem test_meets_LampsKeepShape : LampShape heldLecture ∧ StrikingBelowSpent heldLecture := by
  refine ⟨by unfold LampShape Lamp.Shape; decide +kernel, ?_⟩
  intro p; cases p <;> decide +kernel

/-- The room with FIRE, where no lamp burns. -/
theorem test_meets_LampsKeepShape_dark : SystemHolds fireRoom ∧ DarkUnderHold fireRoom ∧ fireRoom.holds[fireSlot] ≠ none := by
  have h : ∀ i : Fin 16, fireRoom.holds[i] = if i = 0 then some fireHold else none := by decide +kernel
  refine ⟨⟨fun k hk => ?_, fun k hk => ?_, fun k hk => ?_⟩, fun _ p => by cases p <;> decide +kernel, by decide +kernel⟩
  · rw [h, if_pos (by decide)] at hk; cases hk; rfl
  · rw [h, if_neg (by decide)] at hk; cases hk
  · rw [h, if_neg (by decide)] at hk; cases hk

theorem test_meets_HoldTableKeepsShape : HoldTableShape heldLecture := by
  have key : ∀ (i : Fin 16) h, heldLecture.holds[i] = some h → i = 4 ∧ h = sourceHold := by
    intro i h hi
    have h4 : ∀ j : Fin 16, heldLecture.holds[j] = if j = 4 then some sourceHold else none := by decide +kernel
    rw [h4] at hi
    split at hi
    · exact ⟨by assumption, (Option.some.inj hi).symm⟩
    · exact absurd hi (by simp)
  refine ⟨fun i h hi => ?_, fun i h hi _ => ?_, fun i j h k hi hj _ _ _ => ?_⟩
  · obtain ⟨rfl, rfl⟩ := key i h hi; decide +kernel
  · obtain ⟨rfl, rfl⟩ := key i h hi; exact ⟨Or.inl rfl, 44, rfl, by decide, by decide⟩
  · rw [(key i h hi).1, (key j k hj).1]

theorem test_meets_TableAndSessionKeepShape : TableShape booked ∧ SessionAlone heldLecture ∧ SessionAlone inSession := by
  exact ⟨booked_tableShape, by unfold SessionAlone; decide +kernel, by unfold SessionAlone; decide +kernel⟩

/-- The exam RUNNING meets what the table keeps of it. -/
theorem test_meets_TableAndSessionKeepShape_exam : TableShape examRoom ∧ ExamAgrees examRoom ∧ ActiveAgrees examRoom := by
  refine ⟨⟨?_, by decide +kernel, by decide +kernel, by decide +kernel⟩, ⟨by decide +kernel, ?_⟩, ⟨by decide +kernel, ?_,
    by decide +kernel⟩⟩
  · show List.Pairwise _ [examBooking .running, b102]
    simp only [List.pairwise_cons]
    refine ⟨?_, by simp, List.Pairwise.nil⟩
    intro c hc
    simp only [List.mem_singleton] at hc
    subst hc
    decide +kernel
  · intro h hh
    refine ⟨examBooking .running, by decide +kernel, by decide +kernel, by decide +kernel, ?_⟩
    have : examRoom.holds[examSlot] = some (examHoldOf (examBooking .running)) := by decide +kernel
    rw [this] at hh; cases hh; rfl
  · intro tag ht
    refine ⟨examBooking .running, by decide +kernel, ?_, by decide +kernel⟩
    have : examRoom.sched.active = some 101 := by decide +kernel
    rw [this] at ht; cases ht; rfl

theorem test_meets_StoreClockAndConfigKeepShape :
    StoreShape heldLecture ∧ SlotsDistinct heldLecture ∧ ClockAndConfigInRange heldLecture := by
  refine ⟨⟨by decide +kernel, by decide +kernel, by decide +kernel, by decide +kernel, by decide +kernel, fun w h => ?_⟩,
    by unfold SlotsDistinct; decide +kernel, by unfold ClockAndConfigInRange ConfigInRange; decide +kernel⟩
  have hw : heldLecture.store.writing = none := by decide +kernel
  rw [hw] at h; cases h

end Sys2Proof.Tests
end

section
/-! PROOF. The lookups in the booking table: FIND and NEXT (R26, R27). -/

namespace Sys2Proof.Machine

/-! ## Requests that change nothing -/

/-- Class PANEL does not reach CONTROL (R97). -/
theorem needClass_panel {act : State → Answer} {s : State} : needClass .panel .control act s = refuse .class' s := rfl

/-- A request row whose answer leaves the state as it was leaves only the reply. -/
theorem takeRequest_unchanged {n : ReqName} {request : State → Answer} {s : State} {o : ReqOutcome} {params : List Byte}
    (hs : s.phase = .running) (h : request s = { state := s, outcome := o, params := params }) :
    takeRequest n request s = s.replied n o params := by
  rw [takeRequest_running hs, h]

/-- FIND when its answer leaves the state as it was. -/
theorem exec_find_unchanged {c : Class} {tag : BitVec 16} {s : State} {o : ReqOutcome} {params : List Byte}
    (hs : s.phase = .running) (h : findRequest c tag s = { state := s, outcome := o, params := params }) :
    exec (.find c tag) s = .next (s.replied .find o params) :=
  congrArg Host.Outcome.next (takeRequest_unchanged hs h)

/-- NEXT when its answer leaves the state as it was. -/
theorem exec_next_unchanged {c : Class} {m : BitVec 32} {s : State} {o : ReqOutcome} {params : List Byte}
    (hs : s.phase = .running) (h : nextRequest c m s = { state := s, outcome := o, params := params }) :
    exec (.next c m) s = .next (s.replied .next o params) :=
  congrArg Host.Outcome.next (takeRequest_unchanged hs h)

/-! ## The booking that a tag names -/

theorem bookingAt_eq_none_iff {tag : Nat} {bs : List Booking} :
    bookingAt tag bs = none ↔ ∀ b ∈ bs, b.given.tag ≠ tag := by
  simp [bookingAt, List.find?_eq_none]

/-- The only booking with a tag is the one that the tag finds. -/
theorem bookingAt_of_unique {tag : Nat} {bs : List Booking} {b : Booking} (hb : b ∈ bs) (ht : b.given.tag = tag)
    (hu : ∀ x ∈ bs, x.given.tag = tag → x = b) : bookingAt tag bs = some b := by
  cases h : bookingAt tag bs with
  | none => exact absurd ht (bookingAt_eq_none_iff.mp h b hb)
  | some x => rw [hu x (bookingAt_mem h) (bookingAt_tag h)]

/-! ## FIND (R26) -/

theorem findRequest_panel (tag : BitVec 16) (s : State) : findRequest .panel tag s = refuse .class' s := needClass_panel

theorem findRequest_zero {c : Class} (s : State) (hc : c ≠ .panel) : findRequest c 0 s = refuse .range s := by
  rw [findRequest, needClass_control hc, if_pos rfl]

theorem findRequest_missing {c : Class} {tag : BitVec 16} {s : State} (hc : c ≠ .panel) (h0 : tag ≠ 0)
    (h : bookingAt tag.toNat s.bookings = none) : findRequest c tag s = refuse .missing s := by
  rw [findRequest, needClass_control hc, if_neg h0, h]

theorem findRequest_found {c : Class} {tag : BitVec 16} {s : State} {b : Booking} (hc : c ≠ .panel) (h0 : tag ≠ 0)
    (h : bookingAt tag.toNat s.bookings = some b) : findRequest c tag s = doneWith b.bytes s := by
  rw [findRequest, needClass_control hc, if_neg h0, h]

/-! ## The first booking that ends after a minute -/

/-- The first booking in the table's order whose end is later than a minute: what NEXT looks up (R27). -/
def firstEndingAfter (m : Nat) (bs : List Booking) : Option Booking := bs.find? (fun b => m < b.given.fin)

theorem firstEndingAfter_eq_none_iff {m : Nat} {bs : List Booking} :
    firstEndingAfter m bs = none ↔ ∀ b ∈ bs, b.given.fin ≤ m := by
  simp [firstEndingAfter, List.find?_eq_none]

theorem firstEndingAfter_append {m : Nat} {pre post : List Booking} {b : Booking} (hpre : ∀ x ∈ pre, x.given.fin ≤ m)
    (hb : m < b.given.fin) : firstEndingAfter m (pre ++ b :: post) = some b := by
  have hnone : pre.find? (fun x => m < x.given.fin) = none := firstEndingAfter_eq_none_iff.mpr hpre
  simp [firstEndingAfter, List.find?_append, hnone, hb]

/-- Start order is end order too: in a table of that shape no booking ends before one that stands ahead of it (R6). -/
theorem TableShape.fin_le_of_later {s : State} (h : TableShape s) {pre post : List Booking} {b x : Booking}
    (hsplit : s.bookings = pre ++ b :: post) (hx : x ∈ post) : b.given.fin ≤ x.given.fin := by
  obtain ⟨horder, hrange, -, -⟩ := h
  have hlater : (b :: post).Pairwise (fun b c => b.given.fin ≤ c.given.start ∧ b.given.tag ≠ c.given.tag) :=
    (List.pairwise_append.mp (hsplit ▸ horder)).2.1
  have hmeet : b.given.fin ≤ x.given.start := (List.rel_of_pairwise_cons hlater hx).1
  obtain ⟨-, -, hspan, -⟩ := (inRange_iff x.given).mp (hrange x (by simp [hsplit, hx]))
  omega

/-- The first booking that ends after a minute has the earliest end after it (R6, R27). -/
theorem TableShape.earliest_end_after {s : State} (h : TableShape s) {m : Nat} {pre post : List Booking} {b x : Booking}
    (hsplit : s.bookings = pre ++ b :: post) (hpre : ∀ x ∈ pre, x.given.fin ≤ m) (hx : x ∈ s.bookings)
    (hm : m < x.given.fin) : b.given.fin ≤ x.given.fin := by
  rw [hsplit, List.mem_append, List.mem_cons] at hx
  obtain hx | rfl | hx := hx
  · exact absurd (hpre x hx) (Nat.not_le.mpr hm)
  · exact Nat.le_refl _
  · exact h.fin_le_of_later hsplit hx

/-! ## NEXT (R27) -/

theorem nextRequest_panel (m : BitVec 32) (s : State) : nextRequest .panel m s = refuse .class' s := needClass_panel

theorem nextRequest_beyond {c : Class} {m : BitVec 32} (s : State) (hc : c ≠ .panel) (hm : Config.topMinute < m.toNat) :
    nextRequest c m s = refuse .range s := by
  rw [nextRequest, needClass_control hc, if_pos hm]

theorem nextRequest_missing {c : Class} {m : BitVec 32} {s : State} (hc : c ≠ .panel) (hm : m.toNat ≤ Config.topMinute)
    (h : firstEndingAfter m.toNat s.bookings = none) :
    nextRequest c m s = { state := s, outcome := .missing, params := [byte s.bookings.length] } := by
  rw [firstEndingAfter] at h
  rw [nextRequest, needClass_control hc, if_neg (Nat.not_lt.mpr hm), h]

theorem nextRequest_found {c : Class} {m : BitVec 32} {s : State} {b : Booking} (hc : c ≠ .panel)
    (hm : m.toNat ≤ Config.topMinute) (h : firstEndingAfter m.toNat s.bookings = some b) :
    nextRequest c m s = doneWith (byte s.bookings.length :: b.bytes) s := by
  rw [firstEndingAfter] at h
  rw [nextRequest, needClass_control hc, if_neg (Nat.not_lt.mpr hm), h]

/-! ## FIND and NEXT whole -/

/-- Settles O8: each check of FIND and NEXT is the branch of its request that the lookup in the table decides, and the order of
the ends after NEXT's minute is that of the table. -/
theorem findAndNext : Obligations.FindAndNext := by
  refine ⟨fun c tag s hs => ⟨?findClass, ?findRange, ?findMissing, ?findDone⟩,
    fun c m s hs => ⟨?nextClass, ?nextRange, ?nextMissing, ?nextDone⟩⟩
  case findClass => rintro rfl; exact exec_find_unchanged hs (findRequest_panel tag s)
  case findRange => rintro hc rfl; exact exec_find_unchanged hs (findRequest_zero s hc)
  case findMissing =>
    exact fun hc h0 h => exec_find_unchanged hs (findRequest_missing hc h0 (bookingAt_eq_none_iff.mpr h))
  case findDone =>
    exact fun hc h0 b hb ht hu => exec_find_unchanged hs (findRequest_found hc h0 (bookingAt_of_unique hb ht hu))
  case nextClass => rintro rfl; exact exec_next_unchanged hs (nextRequest_panel m s)
  case nextRange => exact fun hc hm => exec_next_unchanged hs (nextRequest_beyond s hc hm)
  case nextMissing =>
    exact fun hc hm h => exec_next_unchanged hs (nextRequest_missing hc hm (firstEndingAfter_eq_none_iff.mpr h))
  case nextDone =>
    intro hc hm pre b post hsplit hpre hb
    have hfirst : firstEndingAfter m.toNat s.bookings = some b := hsplit ▸ firstEndingAfter_append hpre hb
    exact ⟨exec_next_unchanged hs (nextRequest_found hc hm hfirst),
      fun hshape x hx hlater => hshape.earliest_end_after hsplit hpre hx hlater⟩

end Sys2Proof.Machine
end

section
/-! PROOF. The records read back: PRFR and PRSR (R120, R144). -/

namespace Sys2Proof.Machine

/-! ## The bytes that name an input and a preset -/

/-- The input whose number a byte carries. -/
theorem inputOf_eq_some {b : Byte} {i : Input} (h : b.toNat = i.val + 1) : inputOf b = some i := by
  have hi := i.isLt
  rw [inputOf, dif_pos (by omega)]
  exact congrArg some (Fin.ext (by simp [h]))

theorem inputOf_eq_none {b : Byte} (h : b.toNat < 1 ∨ 8 < b.toNat) : inputOf b = none :=
  dif_neg (by omega)

/-- The preset whose number a byte carries. -/
theorem presetOf_eq_some {b : Byte} {n : PresetNo} (h : b.toNat = n.val) : presetOf b = some n := by
  rw [presetOf, dif_pos (h ▸ n.isLt)]
  exact congrArg some (Fin.ext h)

theorem presetOf_eq_none {b : Byte} (h : 7 < b.toNat) : presetOf b = none :=
  dif_neg (by omega)

/-! ## PRFR (R120) -/

/-- PRFR when its answer leaves the state as it was. -/
theorem exec_prfr_unchanged {c : Class} {b : Byte} {s : State} {o : ReqOutcome} {params : List Byte}
    (hs : s.phase = .running) (h : prfrRequest c b s = { state := s, outcome := o, params := params }) :
    exec (.prfr c b) s = .next (s.replied .prfr o params) :=
  congrArg Host.Outcome.next (takeRequest_unchanged hs h)

theorem prfrRequest_panel (b : Byte) (s : State) : prfrRequest .panel b s = refuse .class' s := needClass_panel

theorem prfrRequest_noInput {c : Class} {b : Byte} (s : State) (hc : c ≠ .panel) (h : inputOf b = none) :
    prfrRequest c b s = refuse .range s := by
  rw [prfrRequest, needClass_control hc, h]

theorem prfrRequest_input {c : Class} {b : Byte} {i : Input} (s : State) (hc : c ≠ .panel) (h : inputOf b = some i) :
    prfrRequest c b s = doneWith s.profiles[i].bytes s := by
  rw [prfrRequest, needClass_control hc, h]

/-! ## PRSR (R144) -/

/-- PRSR when its answer leaves the state as it was. -/
theorem exec_prsr_unchanged {c : Class} {b : Byte} {s : State} {o : ReqOutcome} {params : List Byte}
    (hs : s.phase = .running) (h : prsrRequest c b s = { state := s, outcome := o, params := params }) :
    exec (.prsr c b) s = .next (s.replied .prsr o params) :=
  congrArg Host.Outcome.next (takeRequest_unchanged hs h)

theorem prsrRequest_panel (b : Byte) (s : State) : prsrRequest .panel b s = refuse .class' s := needClass_panel

theorem prsrRequest_noPreset {c : Class} {b : Byte} (s : State) (hc : c ≠ .panel) (h : presetOf b = none) :
    prsrRequest c b s = refuse .range s := by
  rw [prsrRequest, needClass_control hc, h]

theorem prsrRequest_preset {c : Class} {b : Byte} {n : PresetNo} (s : State) (hc : c ≠ .panel) (h : presetOf b = some n) :
    prsrRequest c b s = doneWith s.geom.presets[n].bytes s := by
  rw [prsrRequest, needClass_control hc, h]

/-! ## PRFR and PRSR whole -/

/-- Settles O19: the class check, then the byte's reading as an input or a preset number, decides which branch of the request
answers, and every branch leaves the state as it was. -/
theorem profileAndPresetRead : Obligations.ProfileAndPresetRead := by
  refine fun c b s hs => ⟨?panel, ?inputRange, ?profile, ?presetRange, ?preset⟩
  case panel =>
    rintro rfl
    exact ⟨exec_prfr_unchanged hs (prfrRequest_panel b s), exec_prsr_unchanged hs (prsrRequest_panel b s)⟩
  case inputRange => exact fun hc hb => exec_prfr_unchanged hs (prfrRequest_noInput s hc (inputOf_eq_none hb))
  case profile => exact fun hc _ hb => exec_prfr_unchanged hs (prfrRequest_input s hc (inputOf_eq_some hb))
  case presetRange => exact fun hc hb => exec_prsr_unchanged hs (prsrRequest_noPreset s hc (presetOf_eq_none hb))
  case preset => exact fun hc _ hb => exec_prsr_unchanged hs (prsrRequest_preset s hc (presetOf_eq_some hb))

end Sys2Proof.Machine
end

section
/-! PROOF. The shutter follows its seven conditions at every step (R158, R159). An effect that ends as an event evaluates the gate
at its end; one that does not leaves alone everything the gate reads; and start-up leaves the gate CLOSED with the channel in
FAULT. -/

namespace Sys2Proof.Machine

/-! ## What the gate reads -/

/-- The gate and what its seven conditions are read from (the table of R158). -/
structure ViewGate where
  gate : Gate
  lampA : LampState
  lampB : LampState
  switch : SwitchState
  current : Option Input
  appliedFor : Option Input
  holds : Vector (Option Hold) 16
  bookings : List Booking
  session : Bool
  channel : ChannelState

/-- The gate and what its seven conditions are read from. -/
def State.gateView (s : State) : ViewGate :=
  { gate := s.gate, lampA := s.lampA.state, lampB := s.lampB.state, switch := s.switch.state, current := s.switch.current,
    appliedFor := s.geom.appliedFor, holds := s.holds, bookings := s.bookings, session := s.sched.session,
    channel := s.engine.state }

/-- Whether the shutter agrees with its conditions is read from the gate's view alone. -/
theorem GateAgrees.of_gateView {s t : State} (h : t.gateView = s.gateView) (hs : GateAgrees s) : GateAgrees t := by
  simp only [State.gateView, ViewGate.mk.injEq] at h
  obtain ⟨hgate, hlampA, hlampB, hswitch, hcurrent, happlied, hholds, hbookings, hsession, hchannel⟩ := h
  simpa only [GateAgrees, ShutterConditions, LampIsLit, WarpFits, NoShutterHold, LectureOrSession, hgate, hlampA, hlampB,
    hswitch, hcurrent, happlied, hholds, hbookings, hsession, hchannel] using hs

/-! ## The effects that end no event: they leave what the gate reads -/

theorem lineEdgeTaken_gateView (s : State) : (lineEdgeTaken s).gateView = s.gateView := by
  unfold lineEdgeTaken; split <;> rfl

theorem startWrite_gateView (s : State) : (startWrite s).gateView = s.gateView := by
  unfold startWrite; split <;> rfl

theorem startFlushWrite_gateView (s : State) : (startFlushWrite s).gateView = s.gateView := by
  unfold startFlushWrite; split <;> rfl

theorem writeEnds_gateView (r : ReadBack) (w : Writing) (s : State) : (writeEnds r w s).gateView = s.gateView := by
  unfold writeEnds; rw [startWrite_gateView]; split <;> rfl

theorem flushWriteEnds_gateView (r : ReadBack) (w : Writing) (s : State) :
    (flushWriteEnds r w s).gateView = s.gateView :=
  startFlushWrite_gateView (endWrite r w s)

theorem beginFlush_gateView (s : State) : (beginFlush s).gateView = s.gateView :=
  startFlushWrite_gateView { s with phase := .flush, panel := none }

/-! ## The events that may change nothing -/

theorem startSession_gateAgrees {s : State} (hs : GateAgrees s) : GateAgrees (startSession s) := by
  unfold startSession; split
  · exact hs
  · exact finish_gateAgrees _

theorem makeSelection_gateAgrees (sel : Selection) {s : State} (hs : GateAgrees s) : GateAgrees (makeSelection sel s) := by
  unfold makeSelection; split
  · exact hs
  · exact finish_gateAgrees _

/-! ## Start-up -/

/-- After the load of start-up the shutter is CLOSED, and the link's condition fails: the channel starts in FAULT (R170). -/
theorem AtStartUp.gateAgrees {s t : State} (h : AtStartUp s t) : GateAgrees t := by
  obtain ⟨-, -, -, -, -, -, -, -, -, -, -, hclosed, -, hengine, -⟩ := h
  have hfault : t.engine.state = .fault := by rw [hengine]; rfl
  simp [GateAgrees, ShutterConditions, hclosed, hfault]

theorem boot_gateAgrees (clock : Clock) (records : List StoredRecord) (s : State) : GateAgrees (boot clock records s) :=
  (boot_spec clock records s).1.gateAgrees

/-! ## Every effect, and every step -/

/-- Every effect of a command keeps the shutter in agreement with its conditions (R158, R159). -/
theorem Effect.keeps_gateAgrees {s t : State} (h : Effect s t) : GateAgrees s → GateAgrees t := by
  induction h with
  | refl => exact id
  | trans _ _ ih₁ ih₂ => exact ih₂ ∘ ih₁
  | link | panel | notice | noticesRead | freeValue | clock | engineLatch | matrixLatch | fireLevel => exact .of_gateView rfl
  | lineEdge s => exact .of_gateView (lineEdgeTaken_gateView s)
  | flush s => exact .of_gateView (beginFlush_gateView s)
  | writeEnd s r w => exact .of_gateView (writeEnds_gateView r w s)
  | flushWriteEnd s r w => exact .of_gateView (flushWriteEnds_gateView r w s)
  | retry => exact .of_gateView (startWrite_gateView _)
  | sessionOn => exact startSession_gateAgrees
  | select s sel => exact makeSelection_gateAgrees sel
  | powerReset | restart => exact fun _ => boot_gateAgrees _ _ _
  | book | amend | extend | remove | endNow | time | sessionOff | fit | unfit | clear | hold | lift | profile | preset
  | override | mute | config | second | minute | unstored | continuous | window | cooldown | unattended | grace | takeTimeout
  | settleTimeout | loss | frameEdge | delivered | faulted | lampSense | thermal | door | status | recovery | takeAck
  | presence | fire | startUpEnd => exact fun _ => finish_gateAgrees _

/-- Settles O52: every step is a chain of effects, and each of them keeps the agreement. -/
theorem shutterFollowsConditions : Obligations.ShutterFollowsConditions :=
  kept_of_effects (fun _ _ hs => hs.of_gateView rfl) (fun _ _ h => h.keeps_gateAgrees)

end Sys2Proof.Machine
end

section
/-! PROOF. What a command does to the booking table, the schedule unit and the EXAM hold, said once: `RoomMoves s t` lists the
changes, each with what is known when it happens, and each operation of the blocks is a chain of them. The effects of
`Laws/Effect.lean` do not say which slot a LIFT empties, nor that only a session that is ON is put off, so the commands are
read again here. -/

namespace Sys2Proof.Machine

/-! ## What the room sees -/

/-- The booking table with the committed wear that follows it, the schedule unit but for its count, and the EXAM hold. -/
structure ViewRoomUse where
  bookings : List Booking
  cA : Nat
  cB : Nat
  active : Option Nat
  startedAt : Option Nat
  session : Bool
  demand : Demand
  exam : Option Hold

/-- The booking table with the committed wear that follows it, the schedule unit but for its count, and the EXAM hold. -/
def State.roomUse (s : State) : ViewRoomUse :=
  { bookings := s.bookings, cA := s.lampA.committed, cB := s.lampB.committed, active := s.sched.active,
    startedAt := s.sched.startedAt, session := s.sched.session, demand := s.sched.demand, exam := s.holds[examSlot] }

/-- The room's use after the table changes, with the committed wear that follows it (R13). -/
def ViewRoomUse.withTable (v : ViewRoomUse) (bs : List Booking) : ViewRoomUse :=
  { v with bookings := bs, cA := v.cA + pendingWear .a bs - pendingWear .a v.bookings,
           cB := v.cB + pendingWear .b bs - pendingWear .b v.bookings }

/-- The EXAM hold once the end arrival of the booking `b` has lifted the one that names it (R42, R107). -/
def examAfterEnd (b : Booking) (h : Option Hold) : Option Hold :=
  h.filter (fun k => decide (k.bookingTag ≠ some b.given.tag))

/-- A booking as the entry to SHOWN leaves it (R41). -/
def Booking.seenShown (b : Booking) : Booking := if b.state = .running then { b with shownSinceStart := true } else b

/-- The table with the booking of an amendment put in, its planned wear evaluated (R10, R23). -/
def amendedTable (b : Booking) (g : Given) (a : Admission) (s : State) : List Booking :=
  evaluateTags s.config
    (g.tag :: (optTag (successorAt b.given.start s.bookings) ++ optTag (successorAt g.start (removeTag g.tag s.bookings))))
    none (insertBooking { b with given := g, assignment := a.assignment, bridged := a.bridged, plannedA := a.plannedA,
                                 plannedB := a.plannedB } (removeTag g.tag s.bookings))

/-- The table with the new end of an active booking, evaluated (R10, R24). -/
def extendedTable (b : Booking) (fin : Nat) (s : State) : List Booking :=
  evaluateTags s.config (b.given.tag :: optTag (successorAt b.given.start s.bookings)) none
    (updateBooking b.given.tag (fun x => { x with given := { x.given with fin := fin } }) s.bookings)

/-- The table with an admitted booking, its successor evaluated (R10, R20). -/
def admittedTable (c : Class) (g : Given) (a : Admission) (s : State) : List Booking :=
  evaluateTags s.config (optTag (successorAt g.start s.bookings)) none
    (insertBooking (admitted g (ownerOf c) (freeSlot s.bookings) a) s.bookings)

/-- What a command does to the room's use: one change, or a chain of changes. -/
inductive RoomMoves : State → State → Prop
  | same {s t : State} (h : t.roomUse = s.roomUse) : RoomMoves s t
  | trans {s t u : State} (h : RoomMoves s t) (k : RoomMoves t u) : RoomMoves s u
  | gap {s t : State} (d : Demand) (hg : s.sched.demand.basis = .gap) (h : t.roomUse = { s.roomUse with demand := d }) :
      RoomMoves s t
  | sessionOn {s t : State} (d : Demand) (ha : s.activeBooking = none)
      (h : t.roomUse = { s.roomUse with session := true, demand := d }) : RoomMoves s t
  | sessionOff {s t : State} (hs : s.sched.session = true)
      (h : t.roomUse = { s.roomUse with session := false, demand := .idle }) : RoomMoves s t
  | shown {s t : State} (h : t.roomUse = { s.roomUse with bookings := s.bookings.map Booking.seenShown }) : RoomMoves s t
  | lead {s t : State} (b : Booking) (hb : leadDue s = some b)
      (h : t.roomUse = { s.roomUse.withTable (updateBooking b.given.tag (fun x => { x with state := .warming }) s.bookings) with
        active := some b.given.tag, session := false, demand := bookingDemand b }) : RoomMoves s t
  | start {s t : State} (b : Booking) (shown : Bool) (m : Nat) (hb : startDue s = some b)
      (h : t.roomUse = { s.roomUse.withTable
          (updateBooking b.given.tag (fun x => { x with state := .running, shownSinceStart := shown }) s.bookings) with
        startedAt := some m, exam := if b.given.exam then some (examHold b) else s.holds[examSlot] }) : RoomMoves s t
  | ended {s t : State} (b : Booking) (d : Demand) (hb : b ∈ s.bookings) (hp : b.state ≠ .pending)
      (h : t.roomUse = { s.roomUse.withTable (removeTag b.given.tag s.bookings) with
        active := none, startedAt := none, demand := d, exam := examAfterEnd b s.holds[examSlot] }) : RoomMoves s t
  | departed {s t : State} (b : Booking)
      (hb : (∃ x ∈ s.bookings, x.given.tag = b.given.tag ∧ x.state = .pending) ∨ ∀ x ∈ s.bookings, x.given.tag ≠ b.given.tag)
      (h : t.roomUse = s.roomUse.withTable (tableWithout b s)) : RoomMoves s t
  | book {s t : State} (c : Class) (g : Given) (a : Admission) (hg : g.inRange = true)
      (ht : bookingAt g.tag s.bookings = none) (hf : fitsTable g s.bookings = true) (hl : s.bookings.length < 48)
      (h : t.roomUse = s.roomUse.withTable (admittedTable c g a s)) : RoomMoves s t
  | amend {s t : State} (b : Booking) (g : Given) (a : Admission) (hb : bookingAt g.tag s.bookings = some b)
      (hp : b.state = .pending) (hg : g.inRange = true) (hf : fitsTable g (removeTag g.tag s.bookings) = true)
      (h : t.roomUse = s.roomUse.withTable (amendedTable b g a s)) : RoomMoves s t
  | extend {s t : State} (b : Booking) (fin : Nat) (hb : bookingAt b.given.tag s.bookings = some b) (hp : b.state ≠ .pending)
      (hr : newEndInRange s.clock.minute b fin = true)
      (hs : (successorAt b.given.start s.bookings).any (fun n => n.given.start < fin) = false)
      (h : t.roomUse = s.roomUse.withTable (extendedTable b fin s)) : RoomMoves s t
  | boot {s : State} (clock : Clock) (records : List StoredRecord) : RoomMoves s (boot clock records s)

theorem RoomMoves.refl (s : State) : RoomMoves s s := .same rfl

/-- What follows a change that the room does not see. -/
theorem RoomMoves.after {s t u : State} (k : RoomMoves t u) (h : t.roomUse = s.roomUse) : RoomMoves s u := .trans (.same h) k

/-- An operation that leaves the table, the schedule unit and the holds alone leaves the room's use alone. -/
theorem roomUse_of_views {s t : State} (ht : t.table = s.table) (hs : t.sched = s.sched) (hh : t.holds = s.holds) :
    t.roomUse = s.roomUse := by
  simp only [State.table, ViewTable.mk.injEq] at ht
  obtain ⟨h1, h2, h3⟩ := ht
  simp only [State.roomUse, h1, h2, h3, hs, hh]

/-- An operation that leaves the table, the schedule unit and the holds alone moves nothing in the room. -/
theorem RoomMoves.of_views {s t : State} (ht : t.table = s.table) (hs : t.sched = s.sched) (hh : t.holds = s.holds) :
    RoomMoves s t := .same (roomUse_of_views ht hs hh)

/-- Nothing in the room depends on the notices, the link, or anything else that is set beside it. -/
theorem finish_roomMoves (s : State) : RoomMoves s (finish s) := .of_views (by simp) (by simp) (by simp)

/-- What an event does to the room it does with its end too. -/
theorem RoomMoves.finished {s t : State} (h : RoomMoves s t) : RoomMoves s (finish t) := h.trans (finish_roomMoves t)

theorem raiseNotice_roomMoves (c : NoticeClass) (k : Nat) (a : BitVec 32) (s : State) : RoomMoves s (raiseNotice c k a s) :=
  .same rfl

/-! ## The lamp unit -/

theorem writeDemand_roomUse (d : Demand) (s : State) : (writeDemand d s).roomUse = { s.roomUse with demand := d } := by
  have h : ∀ t : State, t.sched = { s.sched with demand := d } → t.table = s.table → t.holds = s.holds →
      t.roomUse = { s.roomUse with demand := d } := by
    intro t hs ht hh
    rw [roomUse_of_views (s := s.setSched { s.sched with demand := d }) (by simpa using ht) (by simpa using hs) (by simpa using hh)]
    rfl
  unfold writeDemand; dsimp only; split <;> exact h _ (by simp) (by simp) (by simp)

/-- A kept lamp's exit writes a demand only under GAP (R73). -/
theorem gapExit_roomMoves (p : Pos) (s : State) : RoomMoves s (gapExit p s) := by
  unfold gapExit; dsimp only; split
  · next h =>
    obtain ⟨hg, -⟩ : s.sched.demand.basis = .gap ∧ s.sched.demand.asked.has p = true := by simpa using h
    split <;> exact .gap _ hg (writeDemand_roomUse _ s)
  · exact .refl s

theorem gapExits_roomMoves (a b : Bool) (s : State) : RoomMoves s (gapExits a b s) := by
  cases a <;> cases b
  · exact .refl s
  · exact gapExit_roomMoves .b s
  · exact gapExit_roomMoves .a s
  · exact (gapExit_roomMoves .a s).trans (gapExit_roomMoves .b _)

theorem holdDouseAll_roomMoves (s : State) : RoomMoves s (holdDouseAll s) :=
  .trans (.of_views (t := holdDouse .b (holdDouse .a s)) (by simp) (by simp) (by simp)) (gapExits_roomMoves _ _ _)

theorem faultCoolAll_roomMoves (s : State) : RoomMoves s (faultCoolAll s) :=
  .trans (.of_views (t := faultCool .b (faultCool .a s)) (by simp) (by simp) (by simp)) (gapExits_roomMoves _ _ _)

theorem usabilityChanged_roomMoves (s : State) : RoomMoves s (usabilityChanged s) := .of_views (by simp) (by simp) (by simp)

theorem setLamp_roomMoves {s : State} (p : Pos) (l : Lamp) (h : l.committed = (s.lamp p).committed) :
    RoomMoves s (s.setLamp p l) := .of_views (State.setLamp_table s p l h) (by simp) (by simp)

theorem enterFailed_roomMoves (p : Pos) (s : State) : RoomMoves s (enterFailed p s) := by
  refine (setLamp_roomMoves p _ (by rfl)).trans ((raiseNotice_roomMoves _ _ _ _).trans
    ((gapExit_roomMoves p _).trans (usabilityChanged_roomMoves _)))

theorem windowRunsOut_roomMoves (p : Pos) (s : State) : RoomMoves s (windowRunsOut p s) := by
  have h : ∀ l : Lamp, l.committed = (s.lamp p).committed →
      RoomMoves s (offerLamp p .douse (markLampDirty p (s.setLamp p l))) := fun l hl =>
    (setLamp_roomMoves p l hl).trans (.of_views (by simp) (by simp) (by simp))
  unfold windowRunsOut; dsimp only; split
  · exact (h _ (by rfl)).trans (.trans (.of_views (t := cool p Config.shortCooldown _) (by simp) (by simp) (by simp))
      ((raiseNotice_roomMoves _ _ _ _).trans (gapExit_roomMoves p _)))
  · exact (h _ (by rfl)).trans (enterFailed_roomMoves p _)

theorem dropLamp_roomMoves (p : Pos) (s : State) : RoomMoves s (dropLamp p s) := by
  have h : ∀ l : Lamp, l.committed = (s.lamp p).committed → RoomMoves s (markLampDirty p (s.setLamp p l)) := fun l hl =>
    (setLamp_roomMoves p l hl).trans (.of_views (by simp) (by simp) (by simp))
  unfold dropLamp; dsimp only; split
  · exact (h _ (by rfl)).trans (.trans (.of_views (t := cool p Config.shortCooldown _) (by simp) (by simp) (by simp))
      ((raiseNotice_roomMoves _ _ _ _).trans (gapExit_roomMoves p _)))
  · exact (h _ (by rfl)).trans (enterFailed_roomMoves p _)

theorem cooldownEnds_roomMoves (p : Pos) (s : State) : RoomMoves s (cooldownEnds p s) := by
  unfold cooldownEnds; split
  · exact (setLamp_roomMoves p _ (by rfl)).trans (.trans (raiseNotice_roomMoves _ _ _ _) (usabilityChanged_roomMoves _))
  · exact .of_views (by simp) (by simp) (by simp)

theorem lampReport_roomMoves (p : Pos) (lit : Bool) (s : State) : RoomMoves s (lampReport p lit s) := by
  unfold lampReport; split
  · exact .of_views (by simp) (by simp) (by simp)
  · exact dropLamp_roomMoves p s
  · exact .refl s
  · exact .of_views (by simp) (by simp) (by simp)
  · exact .refl s

theorem machineSecond_roomMoves (p : Pos) (s : State) : RoomMoves s (machineSecond p s) := by
  unfold machineSecond; dsimp only; split
  · split
    · exact .refl s
    · split
      · exact windowRunsOut_roomMoves p s
      · exact setLamp_roomMoves p _ (by rfl)
  · split
    · exact cooldownEnds_roomMoves p s
    · exact setLamp_roomMoves p _ (by rfl)
  · exact .of_views (by simp) (by simp) (by simp)
  all_goals exact .refl s

theorem lampsSecond_roomMoves (s : State) : RoomMoves s (lampsSecond s) :=
  .trans (.of_views (t := limitTest .b (limitTest .a (litSecond .b (litSecond .a s)))) (by simp) (by simp) (by simp))
    ((machineSecond_roomMoves .a _).trans (machineSecond_roomMoves .b _))

theorem takeThermal_roomMoves (x : Thermal) (s : State) : RoomMoves s (takeThermal x s) := .of_views (by simp) (by simp) (by simp)

/-! ## The hold table -/

/-- A change of a slot that is not the EXAM hold's. -/
theorem setSlot_roomMoves {i : Fin 16} (h : i ≠ examSlot) (x : Option Hold) (s : State) :
    RoomMoves s (s.setHolds (s.holds.set i x)) := by
  have hi : i.val ≠ examSlot.val := fun e => h (Fin.ext e)
  refine .same ?_
  simp [State.roomUse, Vector.getElem_set_ne, hi]

theorem placeHold_roomMoves {i : Fin 16} (hi : i ≠ examSlot) (h : Hold) (s : State) : RoomMoves s (placeHold i h s) := by
  have hs : RoomMoves s (holdPlacedNotice i.val h (s.setHolds (s.holds.set i (some h)))) :=
    (setSlot_roomMoves hi _ s).trans (raiseNotice_roomMoves _ _ _ _)
  unfold placeHold; dsimp only; split
  · exact hs.trans (holdDouseAll_roomMoves _)
  · exact hs

theorem liftOnly_roomMoves {i : Fin 16} (hi : i ≠ examSlot) (h : Hold) (s : State) : RoomMoves s (liftOnly i h s) :=
  (setSlot_roomMoves hi none s).trans (raiseNotice_roomMoves _ _ _ _)

theorem strikeTests_roomMoves (s : State) : RoomMoves s (strikeTests s) := .of_views (by simp) (by simp) (by simp)

theorem afterLift_roomMoves (h : Hold) (s : State) : RoomMoves s (afterLift h s) := .of_views (by simp) (by simp) (by simp)

theorem liftHold_roomMoves {i : Fin 16} (hi : i ≠ examSlot) (h : Hold) (s : State) : RoomMoves s (liftHold i h s) :=
  (liftOnly_roomMoves hi h s).trans (afterLift_roomMoves h _)

theorem reportOnly_roomMoves {i : Fin 16} (hi : i ≠ examSlot) (h : Hold) (r : Bool) (s : State) :
    RoomMoves s (reportOnly i h r s) := by
  unfold reportOnly; split
  · exact placeHold_roomMoves hi h s
  · exact liftOnly_roomMoves hi _ s
  all_goals exact .refl s

theorem reportHold_roomMoves {i : Fin 16} (hi : i ≠ examSlot) (h : Hold) (r : Bool) (s : State) :
    RoomMoves s (reportHold i h r s) := by
  unfold reportHold; split
  · exact (reportOnly_roomMoves hi h r s).trans (strikeTests_roomMoves _)
  · exact reportOnly_roomMoves hi h r s

theorem doorReport_roomMoves (o : Bool) (s : State) : RoomMoves s (doorReport o s) := reportHold_roomMoves (by decide) _ o s

theorem thermalReport_roomMoves (x : Thermal) (s : State) : RoomMoves s (thermalReport x s) :=
  (takeThermal_roomMoves x s).trans (reportHold_roomMoves (by decide) _ _ _)

theorem fireReport_roomMoves (a : Bool) (s : State) : RoomMoves s (fireReport a s) :=
  (reportHold_roomMoves (by decide) _ a (s.setFire { s.fire with seen := a })).after rfl

theorem RoomMoves.foldl {α : Type} {f : State → α → State} {l : List α} (h : ∀ s, ∀ x ∈ l, RoomMoves s (f s x)) (s : State) :
    RoomMoves s (l.foldl f s) := by
  induction l generalizing s with
  | nil => exact .refl s
  | cons x l ih =>
    exact (h s x (by simp)).trans (ih (fun s y hy => h s y (by simp [hy])) _)

theorem requestedSlots_ne_exam {i : Fin 16} (h : i ∈ requestedSlots) : i ≠ examSlot := by
  rintro rfl; exact absurd h (by decide)

theorem expireSlot_roomMoves {i : Fin 16} (hi : i ≠ examSlot) (m : Nat) (s : State) : RoomMoves s (expireSlot m s i) := by
  unfold expireSlot; split
  · split
    · exact (setSlot_roomMoves hi none s).trans (raiseNotice_roomMoves _ _ _ _)
    · exact .refl s
  · exact .refl s

theorem expireHolds_roomMoves (m : Nat) (s : State) : RoomMoves s (expireHolds m s) := by
  have h : RoomMoves s (requestedSlots.foldl (expireSlot m) s) :=
    .foldl (fun s i hi => expireSlot_roomMoves (requestedSlots_ne_exam hi) m s) s
  unfold expireHolds; dsimp only; split
  · exact h.trans (strikeTests_roomMoves _)
  · exact h

theorem arrivalLifts_roomMoves (h : Hold) (s : State) : RoomMoves s (arrivalLifts h s) := by
  unfold arrivalLifts; split
  · exact expireHolds_roomMoves _ s
  · exact .refl s

/-! ## Sources and geometry -/

theorem scheduleSeesShown_roomMoves (s : State) : RoomMoves s (scheduleSeesShown s) := by
  refine .shown ?_
  unfold scheduleSeesShown; dsimp only; split <;> rfl

theorem enterShown_roomMoves (s : State) : RoomMoves s (enterShown s) := by
  unfold enterShown; dsimp only; split
  · exact (scheduleSeesShown_roomMoves _).after (roomUse_of_views (by simp) (by simp) (by simp))
  · exact (scheduleSeesShown_roomMoves _).after rfl

theorem examinePending_roomMoves {exit : State → State} (h : ∀ s, RoomMoves s (exit s)) (s : State) :
    RoomMoves s (examinePending exit s) := by
  unfold examinePending; split
  · exact h s
  · dsimp only; split
    · exact (h _).after rfl
    · exact .same rfl

theorem stableReport_roomMoves (s : State) : RoomMoves s (stableReport s) := by
  unfold stableReport; split
  · exact examinePending_roomMoves enterShown_roomMoves s
  · exact enterShown_roomMoves s
  all_goals exact .refl s

theorem stableTest_roomMoves (s : State) : RoomMoves s (stableTest s) := by
  unfold stableTest; split
  · split
    · exact (stableReport_roomMoves _).after rfl
    · exact .refl s
  · exact .refl s

theorem frameEdgeTaken_roomMoves (time : Nat) (s : State) : RoomMoves s (frameEdgeTaken time s) := by
  unfold frameEdgeTaken; dsimp only; split
  · exact .refl s
  all_goals
    split
    · exact .same rfl
    · split
      · exact (stableTest_roomMoves _).after rfl
      · exact .of_views (by simp) (by simp) (by simp)

theorem computeIfChanged_roomMoves (before : Option PresetNo) (s : State) : RoomMoves s (computeIfChanged before s) :=
  .of_views (by simp) (by simp) (by simp)

theorem autoSelection_roomMoves (i : Input) (k : SelKind) (s : State) : RoomMoves s (autoSelection i k s) :=
  .of_views (by simp) (by simp) (by simp)

/-! ## The table and the schedule -/

theorem changeTable_roomUse (bs : List Booking) (s : State) : (changeTable bs s).roomUse = s.roomUse.withTable bs := rfl

theorem markDirty_roomUse (n : Nat) (s : State) : (markDirty n s).roomUse = s.roomUse :=
  roomUse_of_views (by simp) (by simp) (by simp)

theorem testRisen_roomUse (b s : State) : (testRisen b s).roomUse = s.roomUse :=
  roomUse_of_views (by simp) (by simp) (by simp)

theorem departBooking_roomUse (b : Booking) (s : State) :
    (departBooking b s).roomUse = s.roomUse.withTable (tableWithout b s) := by
  rw [departBooking, testRisen_roomUse, markDirty_roomUse, changeTable_roomUse]

theorem endGapIfDue_roomMoves (s : State) : RoomMoves s (endGapIfDue s) := by
  unfold endGapIfDue; split
  · next hg =>
    split
    · split
      · exact .refl s
      · exact .gap _ hg (writeDemand_roomUse _ s)
    · exact .gap _ hg (writeDemand_roomUse _ s)
  · exact .refl s

theorem endSession_roomMoves {s : State} (h : s.sched.session = true) : RoomMoves s (endSession s) := by
  refine .trans (.sessionOff h ?_) (computeIfChanged_roomMoves _ _)
  rw [writeDemand_roomUse]; rfl

theorem sessionSecond_roomMoves (s : State) : RoomMoves s (sessionSecond s) := by
  unfold sessionSecond; split
  · split
    · exact (endSession_roomMoves ‹_›).trans (raiseNotice_roomMoves _ _ _ _)
    · exact .same rfl
  · exact .refl s

theorem startSession_roomMoves (s : State) : RoomMoves s (startSession s) := by
  unfold startSession; split
  · exact .refl s
  · next h =>
    refine .finished (.sessionOn (sessionDemand s) (by simp at h; exact h.1) ?_)
    rw [writeDemand_roomUse]; rfl

theorem absorbSession_roomUse (tag : Nat) (s : State) :
    (absorbSession tag s).roomUse = { s.roomUse with session := false } := by
  unfold absorbSession; split
  · rfl
  · next h =>
    have h : s.sched.session = false := by simpa using h
    simp only [State.roomUse, h]

theorem setActive_roomUse (tag : Option Nat) (s : State) :
    (s.setSched { s.sched with active := tag }).roomUse = { s.roomUse with active := tag } := rfl

theorem leadWarm_roomUse (b : Booking) (s : State) : (leadWarm b s).roomUse =
    { s.roomUse.withTable (updateBooking b.given.tag (fun x => { x with state := .warming }) s.bookings) with
      active := some b.given.tag, session := false, demand := bookingDemand b } := by
  simp only [leadWarm, writeDemand_roomUse, absorbSession_roomUse, setActive_roomUse, changeTable_roomUse]

theorem openingSelection_roomMoves (g : Given) (s : State) : RoomMoves s (openingSelection g s) := by
  unfold openingSelection; split
  · exact autoSelection_roomMoves _ _ _
  · exact .refl _

theorem leadArrival_roomMoves {b : Booking} {s : State} (before : Option PresetNo) (h : leadDue s = some b) :
    RoomMoves s (leadArrival before b s) := by
  refine .trans (.lead b h (leadWarm_roomUse b s)) ((computeIfChanged_roomMoves before _).trans (openingSelection_roomMoves _ _))

theorem startPhase_roomMoves (s : State) : RoomMoves s (startPhase s) := by
  unfold startPhase; split
  · next b hb =>
    refine .start b (s.switch.state == .shown) s.clock.minute hb ?_
    unfold startArrival; dsimp only; split
    · next he => simp [State.roomUse, placeHold, HoldKind.douses, examHold, examSlot, changeTable, ViewRoomUse.withTable, recommit]
    · next he => rfl
  · exact .refl s

/-! ## The end of a booking -/

theorem liftExam_roomUse (b : Booking) (s : State) :
    (liftExam b s).roomUse = { s.roomUse with exam := examAfterEnd b s.holds[examSlot] } := by
  unfold liftExam; split
  · next h hh =>
    split
    · next hb =>
      rw [roomUse_of_views (s := s.setHolds (s.holds.set examSlot none)) (by simp [liftHold, liftOnly]) (by simp [liftHold, liftOnly])
        (by simp [liftHold, liftOnly, clearSlot])]
      simp [State.roomUse, examAfterEnd, hh, hb, Option.filter]
    · next hb => simp [State.roomUse, examAfterEnd, hh, hb, Option.filter]
  · next hh => simp [State.roomUse, examAfterEnd, hh]

theorem dropBooking_roomUse (b : Booking) (s : State) :
    (dropBooking b s).roomUse = s.roomUse.withTable (removeTag b.given.tag s.bookings) := by
  rw [dropBooking, markDirty_roomUse, changeTable_roomUse]

theorem setEnded_roomUse (s : State) : (s.setSched { s.sched with active := none, startedAt := none }).roomUse =
    { s.roomUse with active := none, startedAt := none } := rfl

theorem bookings_of_roomUse {s t : State} {v : ViewRoomUse} (h : t.roomUse = v) (hv : v.bookings = s.bookings) :
    t.bookings = s.bookings := (congrArg ViewRoomUse.bookings h).trans hv

theorem endBooking_roomUse (b : Booking) (s : State) : ∃ d, (endBooking b s).roomUse =
    { s.roomUse.withTable (removeTag b.given.tag s.bookings) with
      active := none, startedAt := none, demand := d, exam := examAfterEnd b s.holds[examSlot] } := by
  have h : ∀ (t u : State) (d : Demand), t.roomUse = (liftExam b s).roomUse →
      u = dropBooking b (writeDemand d t) → (u.setSched { u.sched with active := none, startedAt := none }).roomUse =
      { s.roomUse.withTable (removeTag b.given.tag s.bookings) with
        active := none, startedAt := none, demand := d, exam := examAfterEnd b s.holds[examSlot] } := by
    rintro t _ d ht rfl
    have hw := writeDemand_roomUse d t
    rw [ht, liftExam_roomUse] at hw
    rw [setEnded_roomUse, dropBooking_roomUse, bookings_of_roomUse hw rfl, hw]
    rfl
  unfold endBooking
  exact ⟨_, h (endOverride ((liftExam b s).setGate { (liftExam b s).gate with mute := false })) _ _ rfl rfl⟩

theorem endBooking_roomMoves {b : Booking} {s : State} (hb : b ∈ s.bookings) (hp : b.state ≠ .pending) :
    RoomMoves s (endBooking b s) := by
  obtain ⟨d, h⟩ := endBooking_roomUse b s
  exact .ended b d hb hp h

theorem endArrival_roomMoves {b : Booking} {s : State} (hb : b ∈ s.bookings) (hp : b.state ≠ .pending) :
    RoomMoves s (endArrival b s) := (endBooking_roomMoves hb hp).trans (raiseNotice_roomMoves _ _ _ _)

theorem noShowRelease_roomMoves {b : Booking} {s : State} (hb : b ∈ s.bookings) (hp : b.state ≠ .pending) :
    RoomMoves s (noShowRelease b s) := (endBooking_roomMoves hb hp).trans (raiseNotice_roomMoves _ _ _ _)

/-! ## The bookings that depart -/

/-- A PENDING booking has the tag, or none has it: what a departure finds. -/
def Departable (tag : Nat) (bs : List Booking) : Prop :=
  (∃ x ∈ bs, x.given.tag = tag ∧ x.state = .pending) ∨ ∀ x ∈ bs, x.given.tag ≠ tag

theorem departable_congr {tag : Nat} {bs cs : List Booking} (e : bs.map Booking.lasting = cs.map Booking.lasting)
    (h : Departable tag bs) : Departable tag cs := by
  rcases h with ⟨x, hx, ht, hp⟩ | h
  · obtain ⟨c, hc, hg, -, -, hs, -, -⟩ := exists_lasting e hx
    exact Or.inl ⟨c, hc, by rw [hg, ht], by rw [hs, hp]⟩
  · refine Or.inr fun c hc => ?_
    obtain ⟨x, hx, hg, -⟩ := exists_lasting e.symm hc
    exact hg ▸ h x hx

theorem departable_removeTag {tag : Nat} {bs : List Booking} (t : Nat) (h : Departable tag bs) :
    Departable tag (removeTag t bs) := by
  by_cases ht : t = tag
  · exact Or.inr fun x hx => by simpa [removeTag, ht] using (List.mem_filter.mp hx).2
  · rcases h with ⟨x, hx, hg, hp⟩ | h
    · exact Or.inl ⟨x, List.mem_filter.mpr ⟨hx, by simpa [hg] using fun e => ht e.symm⟩, hg, hp⟩
    · exact Or.inr fun x hx => h x (List.mem_filter.mp hx).1

theorem departBooking_bookings (b : Booking) (s : State) : (departBooking b s).bookings = tableWithout b s :=
  congrArg ViewRoomUse.bookings (departBooking_roomUse b s)

theorem retireMissed_bookings (s : State) (b : Booking) : (retireMissed s b).bookings = tableWithout b s := by
  have h : (endGapIfDue (departBooking b s)).bookings = (departBooking b s).bookings :=
    congrArg ViewTable.bookings (endGapIfDue_table _)
  exact h.trans (departBooking_bookings b s)

theorem retireMissed_roomMoves {b : Booking} {s : State} (h : Departable b.given.tag s.bookings) :
    RoomMoves s (retireMissed s b) :=
  .trans (.departed b h (departBooking_roomUse b s)) ((endGapIfDue_roomMoves _).trans (raiseNotice_roomMoves _ _ _ _))

theorem retireAll_roomMoves (l : List Booking) (s : State) (h : ∀ b ∈ l, Departable b.given.tag s.bookings) :
    RoomMoves s (l.foldl retireMissed s) := by
  induction l generalizing s with
  | nil => exact .refl s
  | cons b l ih =>
    refine .trans (retireMissed_roomMoves (h b (by simp))) (ih _ fun c hc => ?_)
    rw [retireMissed_bookings]
    exact departable_congr (evaluateTags_lasting _ _ _ _).symm (departable_removeTag _ (h c (by simp [hc])))

theorem missedPhase_roomMoves (s : State) : RoomMoves s (missedPhase s) := by
  refine retireAll_roomMoves _ s fun b hb => Or.inl ⟨b, ?_⟩
  simp only [List.mem_filter, Bool.and_eq_true, beq_iff_eq] at hb
  exact ⟨hb.1, rfl, hb.2.1⟩

/-! ## The schedule check -/

theorem endPhase_roomMoves (s : State) : RoomMoves s (endPhase s) := by
  unfold endPhase; split
  · next h =>
    split
    · exact endArrival_roomMoves (activeBooking_eq h).1 (activeBooking_eq h).2
    · exact .refl s
  · exact .refl s

theorem leadAndStart_roomMoves (before : Option PresetNo) (s : State) : RoomMoves s (leadAndStart before s) := by
  unfold leadAndStart; split
  · next h => exact (leadArrival_roomMoves before h).trans (startPhase_roomMoves _)
  · exact (computeIfChanged_roomMoves before s).trans (startPhase_roomMoves _)

theorem noShowDue_active {s : State} {b : Booking} (h : noShowDue s = some b) : b ∈ s.bookings ∧ b.state ≠ .pending := by
  unfold noShowDue at h; split at h
  · next ha _ =>
    split at h
    · cases h; exact activeBooking_eq ha
    · cases h
  · cases h

theorem noShowPhase_roomMoves (s : State) : RoomMoves s (noShowPhase s) := by
  unfold noShowPhase; split
  · next h =>
    exact (noShowRelease_roomMoves (noShowDue_active h).1 (noShowDue_active h).2).trans (leadAndStart_roomMoves _ _)
  · exact .refl s

theorem scheduleCheckFrom_roomMoves (before : Option PresetNo) (s : State) : RoomMoves s (scheduleCheckFrom before s) := by
  unfold scheduleCheckFrom; split
  · exact (endPhase_roomMoves s).trans ((missedPhase_roomMoves _).trans
      ((leadAndStart_roomMoves before _).trans (noShowPhase_roomMoves _)))
  · exact .refl s

theorem scheduleCheck_roomMoves (s : State) : RoomMoves s (scheduleCheck s) := scheduleCheckFrom_roomMoves _ s

theorem reexamine_roomMoves (s : State) : RoomMoves s (reexamine s) := by
  unfold reexamine; split
  · split
    · exact scheduleCheck_roomMoves s
    · exact .refl s
  · exact .refl s

theorem endByRequest_roomMoves {b : Booking} {s : State} (hb : b ∈ s.bookings) (hp : b.state ≠ .pending) :
    RoomMoves s (endByRequest b s) := by
  unfold endByRequest; dsimp only; split
  · exact (endArrival_roomMoves hb hp).trans (scheduleCheckFrom_roomMoves _ _)
  · exact (endArrival_roomMoves hb hp).trans (computeIfChanged_roomMoves _ _)

/-- What follows an admission, an amendment or a removal (R21, R43). -/
theorem tableEventEnd_roomMoves (s : State) : RoomMoves s (finish (reexamine (endGapIfDue s))) :=
  ((endGapIfDue_roomMoves s).trans (reexamine_roomMoves _)).finished

/-! ## The events -/

theorem minuteHanded_roomMoves (s : State) : RoomMoves s (minuteHanded s) :=
  ((scheduleCheck_roomMoves s).trans (expireHolds_roomMoves _ _)).finished

theorem sourceSecond_roomMoves (s : State) : RoomMoves s (sourceSecond s) := .of_views (by simp) (by simp) (by simp)

theorem secondHanded_roomMoves (s : State) : RoomMoves s (secondHanded s) :=
  ((lampsSecond_roomMoves s).trans ((sourceSecond_roomMoves _).trans (sessionSecond_roomMoves _))).finished

theorem statusTaken_roomMoves (a b : Bool) (x : Thermal) (o : Bool) (s : State) : RoomMoves s (statusTaken a b x o s) :=
  (doorReport_roomMoves o s).trans ((thermalReport_roomMoves x _).trans
    ((lampReport_roomMoves .a a _).trans (lampReport_roomMoves .b b _)))

theorem recoveryHolds_roomMoves (x : Thermal) (o : Bool) (s : State) : RoomMoves s (recoveryHolds x o s) :=
  (takeThermal_roomMoves x s).trans ((reportOnly_roomMoves (by decide) _ _ _).trans
    ((reportOnly_roomMoves (by decide) _ o _).trans (strikeTests_roomMoves _)))

theorem computeIfShown_roomMoves (s : State) : RoomMoves s (computeIfShown s) := by
  unfold computeIfShown; split
  · split
    · exact .of_views (by simp) (by simp) (by simp)
    · exact .refl s
  · exact .refl s

theorem offerGate_roomMoves (s : State) : RoomMoves s (offerGate s) :=
  .of_views (by simp [offerGate]) (by simp [offerGate]) (by simp [offerGate])

theorem recover_roomMoves (a b : Bool) (x : Thermal) (o : Bool) (s : State) : RoomMoves s (recover a b x o s) := by
  have h : RoomMoves s (lampReport .b b (lampReport .a a (s.setEngine { s.engine with state := .ready }))) :=
    ((lampReport_roomMoves .a a _).trans (lampReport_roomMoves .b b _)).after rfl
  exact h.trans ((recoveryHolds_roomMoves x o _).trans ((computeIfShown_roomMoves _).trans
    ((offerGate_roomMoves _).trans (raiseNotice_roomMoves _ _ _ _))))

theorem deliver_roomMoves (m : Option OutMsg) (s : State) : RoomMoves s (deliver m s) := by
  unfold deliver; split
  · unfold strikeDelivered; split
    · exact setLamp_roomMoves _ _ (by rfl)
    · exact .refl s
  · exact .of_views (by simp) (by simp) (by simp)
  all_goals exact .refl s

theorem messageDelivered_roomMoves (s : State) : RoomMoves s (messageDelivered s) := (deliver_roomMoves _ _).after rfl

theorem geometryFault_roomMoves (s : State) : RoomMoves s (geometryFault s) := .of_views (by simp) (by simp) (by simp)

theorem channelFaults_roomMoves (s : State) : RoomMoves s (channelFaults s) :=
  ((faultCoolAll_roomMoves _).trans (geometryFault_roomMoves _)).after rfl

theorem endStartUp_roomMoves (s : State) : RoomMoves s (endStartUp s) := by
  have h : RoomMoves s (sampleFire s) := by
    unfold sampleFire; dsimp only; split
    · exact (placeHold_roomMoves (by decide) _ _).after rfl
    · exact .same rfl
  exact h.trans ((scheduleCheck_roomMoves _).finished.after rfl)

theorem startWrite_roomMoves (s : State) : RoomMoves s (startWrite s) := .of_views (by simp) (by simp) (by simp)

theorem startFlushWrite_roomMoves (s : State) : RoomMoves s (startFlushWrite s) := by
  unfold startFlushWrite; split <;> exact .same rfl

end Sys2Proof.Machine
end

section
/-! PROOF. Every command moves the room's use by `RoomMoves`: the requests, the keys, the arrivals, the channels and the store read
again, command by command. -/

namespace Sys2Proof.Machine

/-! ## The requests that change the table, the schedule or the holds -/

theorem admitBooking_roomMoves {c : Class} {g : Given} {a : Admission} {s : State} (hg : g.inRange = true)
    (ht : bookingAt g.tag s.bookings = none) (hf : fitsTable g s.bookings = true) (hl : s.bookings.length < 48) :
    RoomMoves s (admitBooking c g a s) := by
  refine .trans (.book c g a hg ht hf hl ?_) (tableEventEnd_roomMoves _)
  rw [markDirty_roomUse, testRisen_roomUse, changeTable_roomUse]; rfl

theorem amendPendingTable_roomMoves {b : Booking} {g : Given} {a : Admission} {s : State}
    (hb : bookingAt g.tag s.bookings = some b) (hp : b.state = .pending) (hg : g.inRange = true)
    (hf : fitsTable g (removeTag g.tag s.bookings) = true) : RoomMoves s (amendPendingTable b g a s) := by
  refine .trans (.amend b g a hb hp hg hf ?_) (tableEventEnd_roomMoves _)
  split
  · rw [testRisen_roomUse, changeTable_roomUse]; rfl
  · rw [markDirty_roomUse, testRisen_roomUse, changeTable_roomUse]; rfl

theorem amendActiveTable_roomMoves {b : Booking} {fin : Nat} {s : State} (hb : bookingAt b.given.tag s.bookings = some b)
    (hp : b.state ≠ .pending) (hr : newEndInRange s.clock.minute b fin = true)
    (hs : (successorAt b.given.start s.bookings).any (fun n => n.given.start < fin) = false) :
    RoomMoves s (amendActiveTable b fin s) := by
  refine .finished (.extend b fin hb hp hr hs ?_)
  rw [markDirty_roomUse, testRisen_roomUse, changeTable_roomUse]; rfl

theorem removeBooking_roomMoves {b : Booking} {s : State} (hb : b ∈ s.bookings) (hp : b.state = .pending) :
    RoomMoves s (removeBooking b s) :=
  .trans (.departed b (Or.inl ⟨b, hb, rfl, hp⟩) (departBooking_roomUse b s)) (tableEventEnd_roomMoves _)

/-- What a request moves in the room. -/
def AnswerMoves (s : State) (a : Answer) : Prop := RoomMoves s a.state

theorem answerMoves_refuse (o : ReqOutcome) (s : State) : AnswerMoves s (refuse o s) := .refl s

theorem answerMoves_doneWith {params : List Byte} {s t : State} (h : RoomMoves s t) : AnswerMoves s (doneWith params t) := h

theorem answerMoves_done {s t : State} (h : RoomMoves s t) : AnswerMoves s (done t) := h

theorem answerMoves_needClass {c need : Class} {act : State → Answer} {s : State} (h : AnswerMoves s (act s)) :
    AnswerMoves s (needClass c need act s) := by
  unfold needClass; split
  · exact h
  · exact .refl s

theorem answerMoves_needScope {c : Class} {sc : Scope} {target : Option Input} {act : State → Answer} {s : State}
    (h : AnswerMoves s (act s)) : AnswerMoves s (needScope c sc target act s) := by
  unfold needScope; apply answerMoves_needClass; split
  · exact .refl s
  · exact h

theorem answerMoves_withOwnBooking {c : Class} {tag : BitVec 16} {act : Booking → State → Answer} {s : State}
    (h : ∀ b, bookingAt tag.toNat s.bookings = some b → AnswerMoves s (act b s)) :
    AnswerMoves s (withOwnBooking c tag act s) := by
  unfold withOwnBooking; split
  · exact .refl s
  · split
    · exact .refl s
    · split
      · exact h _ ‹_›
      · exact .refl s

theorem answerMoves_book (c : Class) (r : GivenRaw) (s : State) : AnswerMoves s (bookRequest c r s) := by
  unfold bookRequest; apply answerMoves_needScope
  split; · exact answerMoves_refuse _ _
  split; · exact answerMoves_refuse _ _
  next g hg =>
    split; · exact answerMoves_refuse _ _
    next ht =>
      split; · exact answerMoves_refuse _ _
      next hf =>
        split; · exact answerMoves_refuse _ _
        next hl =>
          split; · exact answerMoves_refuse _ _
          exact answerMoves_doneWith (admitBooking_roomMoves (givenOf_inRange (check4_some hg).1) (by simpa using ht)
            (by simpa using hf) (by simpa [Config.tableCapacity] using hl))

theorem answerMoves_rebk (c : Class) (r : GivenRaw) (s : State) : AnswerMoves s (rebkRequest c r s) := by
  unfold rebkRequest; apply answerMoves_needScope
  split; · exact answerMoves_refuse _ _
  apply answerMoves_withOwnBooking; intro b hb
  split
  · next hp =>
    unfold amendPending
    split; · exact answerMoves_refuse _ _
    next g hg =>
      have ht := givenOf_tag (check4_some hg).1
      dsimp only
      split; · exact answerMoves_refuse _ _
      next hf =>
        split; · exact answerMoves_refuse _ _
        exact answerMoves_doneWith
          (amendPendingTable_roomMoves (ht ▸ hb) hp (givenOf_inRange (check4_some hg).1) (by simpa using hf))
  · next hp =>
    unfold amendActive
    split; · exact answerMoves_refuse _ _
    split; · exact answerMoves_refuse _ _
    next hr =>
      split; · exact answerMoves_refuse _ _
      next hs =>
        exact answerMoves_doneWith
          (amendActiveTable_roomMoves ((bookingAt_tag hb).symm ▸ hb) hp (by simpa using hr) (by simpa using hs))

theorem answerMoves_unbk (c : Class) (tag : BitVec 16) (s : State) : AnswerMoves s (unbkRequest c tag s) := by
  unfold unbkRequest; apply answerMoves_needScope; apply answerMoves_withOwnBooking; intro b hb
  split
  · next hp => exact answerMoves_done (removeBooking_roomMoves (bookingAt_mem hb) hp)
  · exact answerMoves_refuse _ _

theorem answerMoves_endn (c : Class) (tag : BitVec 16) (s : State) : AnswerMoves s (endnRequest c tag s) := by
  unfold endnRequest; apply answerMoves_needScope; apply answerMoves_withOwnBooking; intro b hb
  split
  · exact answerMoves_refuse _ _
  · next hp => exact answerMoves_done (endByRequest_roomMoves (bookingAt_mem hb) hp).finished

theorem answerMoves_time (c : Class) (m : BitVec 32) (sec : Byte) (s : State) : AnswerMoves s (timeRequest c m sec s) := by
  unfold timeRequest; apply answerMoves_needClass; split
  · exact answerMoves_refuse _ _
  · exact answerMoves_done ((scheduleCheck_roomMoves _).finished.after rfl)

theorem answerMoves_sesn (c : Class) (s : State) : AnswerMoves s (sesnRequest c s) := by
  unfold sesnRequest; apply answerMoves_needClass; split
  · exact answerMoves_refuse _ _
  · exact startSession_roomMoves s

theorem answerMoves_sesf (c : Class) (s : State) : AnswerMoves s (sesfRequest c s) := by
  unfold sesfRequest; apply answerMoves_needScope
  show RoomMoves s (stopSession s)
  unfold stopSession; split
  · next h => exact (endSession_roomMoves h).finished
  · exact .refl s

/-! ## The requests for the lamps and the holds -/

theorem strikeTest_roomMoves (p : Pos) (s : State) : RoomMoves s (strikeTest p s) := .of_views (by simp) (by simp) (by simp)

theorem evalPower_roomMoves (p : Pos) (s : State) : RoomMoves s (evalPower p s) := .of_views (by simp) (by simp) (by simp)

theorem usabilityAfter_roomMoves (was : Bool) (p : Pos) (s : State) : RoomMoves s (usabilityAfter was p s) := by
  unfold usabilityAfter; split
  · exact .refl s
  · exact usabilityChanged_roomMoves s

theorem markLampDirty_roomMoves (p : Pos) (s : State) : RoomMoves s (markLampDirty p s) :=
  .of_views (by simp) (by simp) (by simp)

theorem fitLamp_roomMoves (p : Pos) (serial rated : Nat) (s : State) : RoomMoves s (fitLamp p serial rated s) :=
  ((setLamp_roomMoves p (fittedLamp serial rated (s.lamp p)) rfl).trans ((markLampDirty_roomMoves p _).trans
    ((raiseNotice_roomMoves _ _ _ _).trans ((strikeTest_roomMoves p _).trans ((usabilityAfter_roomMoves _ p _).trans
      (evalPower_roomMoves p _)))))).finished

theorem removeLamp_roomMoves (p : Pos) (s : State) : RoomMoves s (removeLamp p s) :=
  ((setLamp_roomMoves p (removedLamp (s.lamp p)) rfl).trans ((markLampDirty_roomMoves p _).trans
    ((raiseNotice_roomMoves _ _ _ _).trans (usabilityAfter_roomMoves _ p _)))).finished

theorem enterCold_roomMoves (p : Pos) (s : State) : RoomMoves s (enterCold p s) := .of_views (by simp) (by simp) (by simp)

theorem clearFailure_roomMoves (p : Pos) (s : State) : RoomMoves s (clearFailure p s) := by
  refine .finished (.trans ?_ ((raiseNotice_roomMoves _ _ _ _).trans (usabilityAfter_roomMoves _ p _)))
  dsimp only
  split
  · exact setLamp_roomMoves p _ (by rfl)
  · exact (setLamp_roomMoves p _ (by rfl)).trans (enterCold_roomMoves p _)

theorem answerMoves_fitl (c : Class) (b : Byte) (ser : BitVec 32) (rated : BitVec 16) (s : State) :
    AnswerMoves s (fitlRequest c b ser rated s) := by
  unfold fitlRequest; apply answerMoves_needClass
  split; · exact answerMoves_refuse _ _
  split; · exact answerMoves_refuse _ _
  split; · exact answerMoves_refuse _ _
  split; · exact answerMoves_refuse _ _
  exact answerMoves_done (fitLamp_roomMoves ..)

theorem answerMoves_reml (c : Class) (b : Byte) (s : State) : AnswerMoves s (remlRequest c b s) := by
  unfold remlRequest; apply answerMoves_needClass
  split; · exact answerMoves_refuse _ _
  split; · exact answerMoves_refuse _ _
  split; · exact answerMoves_refuse _ _
  exact answerMoves_done (removeLamp_roomMoves ..)

theorem answerMoves_clrf (c : Class) (b : Byte) (s : State) : AnswerMoves s (clrfRequest c b s) := by
  unfold clrfRequest; apply answerMoves_needClass
  split; · exact answerMoves_refuse _ _
  split
  · exact answerMoves_done (clearFailure_roomMoves ..)
  · exact answerMoves_refuse _ _

theorem freeRequestedSlot_mem {s : State} {i : Fin 16} (h : freeRequestedSlot s = some i) : i ∈ requestedSlots :=
  List.mem_of_find?_eq_some h

theorem requestedHoldAt_mem {tag : Nat} {s : State} {i : Fin 16} (h : requestedHoldAt tag s = some i) : i ∈ requestedSlots :=
  List.mem_of_find?_eq_some h

theorem answerMoves_hold (c : Class) (r : HoldRaw) (m : Meeting) (s : State) : AnswerMoves s (holdRequest c r m s) := by
  unfold holdRequest; apply answerMoves_needClass
  split; · exact answerMoves_refuse _ _
  split; · exact answerMoves_refuse _ _
  unfold placeRequested
  split; · exact answerMoves_refuse _ _
  split; · exact answerMoves_refuse _ _
  split; · exact answerMoves_refuse _ _
  split; · exact answerMoves_refuse _ _
  next slot hs =>
    exact answerMoves_doneWith ((placeHold_roomMoves (requestedSlots_ne_exam (freeRequestedSlot_mem hs)) _ s).trans
      (arrivalLifts_roomMoves _ _)).finished

theorem answerMoves_lift (c : Class) (tag : BitVec 16) (s : State) : AnswerMoves s (liftRequest c tag s) := by
  unfold liftRequest; apply answerMoves_needClass
  split; · exact answerMoves_refuse _ _
  unfold liftRequested
  split; · exact answerMoves_refuse _ _
  next slot hs =>
    split; · exact answerMoves_refuse _ _
    split
    · exact answerMoves_done (liftHold_roomMoves (requestedSlots_ne_exam (requestedHoldAt_mem hs)) _ s).finished
    · exact answerMoves_refuse _ _

/-! ## The requests that the room does not see -/

theorem makeSelection_roomMoves (sel : Selection) (s : State) : RoomMoves s (makeSelection sel s) := by
  unfold makeSelection; split
  · exact .refl s
  · exact .of_views (by simp) (by simp) (by simp)

theorem computeFor_roomMoves (i : Input) (s : State) : RoomMoves s (computeFor i s) := by
  unfold computeFor; split
  · exact .of_views (by simp) (by simp) (by simp)
  · exact .refl s

theorem markDirty_roomMoves (n : Nat) (s : State) : RoomMoves s (markDirty n s) := .same (markDirty_roomUse n s)

theorem writeProfile_roomMoves (i : Input) (p : Profile) (s : State) : RoomMoves s (writeProfile i p s) :=
  ((markDirty_roomMoves (profileNo i) (s.setProfiles (s.profiles.set i p))).trans (computeFor_roomMoves i _)).finished.after rfl

theorem writePreset_roomMoves (n : PresetNo) (p : Preset) (s : State) : RoomMoves s (writePreset n p s) := by
  have h : RoomMoves s (markDirty (presetNo n) (s.setGeom { s.geom with presets := s.geom.presets.set n p })) :=
    (markDirty_roomMoves _ _).after rfl
  unfold writePreset; dsimp only; split
  · exact (h.trans (.of_views (by simp) (by simp) (by simp))).finished
  · exact h.finished

theorem applyOverride_roomMoves (p : Option PresetNo) (s : State) : RoomMoves s (applyOverride p s) :=
  (computeIfChanged_roomMoves _ _).finished.after rfl

theorem setMute_roomMoves (on : Bool) (s : State) : RoomMoves s (setMute on s) := (finish_roomMoves _).after rfl

theorem writeConfig_roomMoves (cfg : ConfigRecord) (s : State) : RoomMoves s (writeConfig cfg s) :=
  (markDirty_roomMoves configNo (s.setConfig cfg)).finished.after rfl

theorem beginFlush_roomMoves (s : State) : RoomMoves s (beginFlush s) := (startFlushWrite_roomMoves _).after rfl

theorem answerMoves_srce (c : Class) (b : Byte) (s : State) : AnswerMoves s (srceRequest c b s) := by
  unfold srceRequest; apply answerMoves_needScope
  split; · exact answerMoves_refuse _ _
  exact makeSelection_roomMoves _ s

theorem answerMoves_prof (c : Class) (b : Byte) (r : ProfileRaw) (s : State) : AnswerMoves s (profRequest c b r s) := by
  unfold profRequest; apply answerMoves_needScope
  split; · exact answerMoves_refuse _ _
  split; · exact answerMoves_refuse _ _
  exact writeProfile_roomMoves _ _ s

theorem answerMoves_prst (c : Class) (b : Byte) (r : PresetRaw) (s : State) : AnswerMoves s (prstRequest c b r s) := by
  unfold prstRequest; apply answerMoves_needScope
  split; · exact answerMoves_refuse _ _
  exact writePreset_roomMoves _ _ s

theorem answerMoves_appl (c : Class) (b : Byte) (s : State) : AnswerMoves s (applRequest c b s) := by
  unfold applRequest; apply answerMoves_needScope
  split; · exact answerMoves_refuse _ _
  split
  · exact applyOverride_roomMoves _ s
  · exact answerMoves_refuse _ _

theorem answerMoves_mute (c : Class) (s : State) : AnswerMoves s (muteRequest c s) := by
  unfold muteRequest; apply answerMoves_needClass; exact setMute_roomMoves true s

theorem answerMoves_unmt (c : Class) (s : State) : AnswerMoves s (unmtRequest c s) := by
  unfold unmtRequest; apply answerMoves_needClass; exact setMute_roomMoves false s

theorem answerMoves_summ (c : Class) (s : State) : AnswerMoves s (summRequest c s) := by
  unfold summRequest; apply answerMoves_needClass
  exact RoomMoves.foldl (f := clearPending) (fun _ _ _ => .same rfl) s

theorem answerMoves_nlvl (c : Class) (p l : Byte) (s : State) : AnswerMoves s (nlvlRequest c p l s) := by
  unfold nlvlRequest; apply answerMoves_needClass
  split; · exact answerMoves_refuse _ _
  exact writeConfig_roomMoves _ s

theorem answerMoves_conf (c : Class) (r : ConfigRaw) (s : State) : AnswerMoves s (confRequest c r s) := by
  unfold confRequest; apply answerMoves_needClass; exact writeConfig_roomMoves _ s

theorem answerMoves_rstr (c : Class) (s : State) : AnswerMoves s (rstrRequest c s) := by
  unfold rstrRequest; apply answerMoves_needClass; exact beginFlush_roomMoves s

/-! ## The readings -/

theorem answerMoves_find (c : Class) (tag : BitVec 16) (s : State) : AnswerMoves s (findRequest c tag s) := by
  unfold findRequest; apply answerMoves_needClass; (repeat' split) <;> exact .refl s

theorem answerMoves_next (c : Class) (m : BitVec 32) (s : State) : AnswerMoves s (nextRequest c m s) := by
  unfold nextRequest; apply answerMoves_needClass; (repeat' split) <;> exact .refl s

theorem answerMoves_clck (c : Class) (s : State) : AnswerMoves s (clckRequest c s) := by
  unfold clckRequest; apply answerMoves_needClass; exact .refl s

theorem answerMoves_lamp (c : Class) (s : State) : AnswerMoves s (lampRequest c s) := by
  unfold lampRequest; apply answerMoves_needClass; exact .refl s

theorem answerMoves_hlds (c : Class) (s : State) : AnswerMoves s (hldsRequest c s) := by
  unfold hldsRequest; apply answerMoves_needClass; exact .refl s

theorem answerMoves_prfr (c : Class) (b : Byte) (s : State) : AnswerMoves s (prfrRequest c b s) := by
  unfold prfrRequest; apply answerMoves_needClass; split <;> exact .refl s

theorem answerMoves_sigs (c : Class) (s : State) : AnswerMoves s (sigsRequest c s) := by
  unfold sigsRequest; apply answerMoves_needClass; exact .same rfl

theorem answerMoves_prsr (c : Class) (b : Byte) (s : State) : AnswerMoves s (prsrRequest c b s) := by
  unfold prsrRequest; apply answerMoves_needClass; split <;> exact .refl s

theorem answerMoves_crnr (c : Class) (s : State) : AnswerMoves s (crnrRequest c s) := by
  unfold crnrRequest; apply answerMoves_needClass; exact .same rfl

theorem answerMoves_cnfr (c : Class) (s : State) : AnswerMoves s (cnfrRequest c s) := by
  unfold cnfrRequest; apply answerMoves_needClass; exact .refl s

/-- Whatever request a frame hands over, what it moves in the room. -/
theorem answerMoves_handRequest (n : ReqName) (c : Class) (m : Meeting) (ps : List Byte) (s : State) :
    AnswerMoves s (handRequest n c m ps s) := by
  cases n with
  | book => exact answerMoves_book ..
  | rebk => exact answerMoves_rebk ..
  | unbk => exact answerMoves_unbk ..
  | find => exact answerMoves_find ..
  | next => exact answerMoves_next ..
  | endn => exact answerMoves_endn ..
  | time => exact answerMoves_time ..
  | clck => exact answerMoves_clck ..
  | sesn => exact answerMoves_sesn ..
  | sesf => exact answerMoves_sesf ..
  | lamp => exact answerMoves_lamp ..
  | fitl => exact answerMoves_fitl ..
  | reml => exact answerMoves_reml ..
  | clrf => exact answerMoves_clrf ..
  | hold => exact answerMoves_hold ..
  | lift => exact answerMoves_lift ..
  | hlds => exact answerMoves_hlds ..
  | srce => exact answerMoves_srce ..
  | prof => exact answerMoves_prof ..
  | prfr => exact answerMoves_prfr ..
  | sigs => exact answerMoves_sigs ..
  | prst => exact answerMoves_prst ..
  | prsr => exact answerMoves_prsr ..
  | appl => exact answerMoves_appl ..
  | crnr => exact answerMoves_crnr ..
  | mute => exact answerMoves_mute ..
  | unmt => exact answerMoves_unmt ..
  | summ => exact answerMoves_summ ..
  | nlvl => exact answerMoves_nlvl ..
  | conf => exact answerMoves_conf ..
  | cnfr => exact answerMoves_cnfr ..
  | rstr => exact answerMoves_rstr ..

/-- The reply that the decoder takes moves nothing. -/
theorem reply_roomMoves {n : ReqName} {a : Answer} {s : State} (h : AnswerMoves s a) : RoomMoves s (reply n a) :=
  .trans h (.same rfl)

theorem whenRunning_roomMoves {f : State → State} {s : State} (h : RoomMoves s (f s)) : RoomMoves s (whenRunning f s) := by
  unfold whenRunning; split
  · exact h
  · exact .refl s

/-! ## Keys, arrivals and channels -/

theorem takeKey_roomMoves {takes : Byte → Bool} {act : Byte → State → State} (h : ∀ code s, RoomMoves s (act code s))
    (s : State) : RoomMoves s (takeKey takes act s) := by
  unfold takeKey; split
  · exact (h _ s).trans (.same rfl)
  · exact .refl s

theorem keyChecks_roomMoves (code : Byte) (own : Option (Scope × Option Input)) (test : Bool) {act : State → State} {s : State}
    (h : RoomMoves s (act s)) : RoomMoves s (keyChecks code own test act s) := by
  unfold keyChecks; split
  · exact raiseNotice_roomMoves ..
  · split
    · exact raiseNotice_roomMoves ..
    · split
      · exact h
      · exact raiseNotice_roomMoves ..

theorem powerOffAct_roomMoves (s : State) : RoomMoves s (powerOffAct s) := by
  unfold powerOffAct; split
  · next h => exact (endSession_roomMoves h).finished
  · split
    · next hb => exact (endByRequest_roomMoves (activeBooking_eq hb).1 (activeBooking_eq hb).2).finished
    · exact .refl s

theorem muteToggle_roomMoves (code : Byte) (s : State) : RoomMoves s (muteToggle code s) :=
  keyChecks_roomMoves code none true (act := fun s => setMute (!s.gate.mute) s) (setMute_roomMoves _ s)

theorem keyStrobed_roomMoves (code : Byte) (s : State) : RoomMoves s (keyStrobed code s) := by
  unfold keyStrobed; split
  · exact .same rfl
  · exact raiseNotice_roomMoves ..

theorem dueEvent_roomMoves {due : State → Bool} {act : State → State} {s : State}
    (h : due s = true → RoomMoves s (act s)) : RoomMoves s (dueEvent due act s) := by
  unfold dueEvent; apply whenRunning_roomMoves; split
  · next hd => exact (h hd).finished
  · exact .refl s

theorem stepClock_roomMoves (s : State) : RoomMoves s (stepClock s) := .same rfl

theorem secondArrival_roomMoves (s : State) : RoomMoves s (secondArrival s) := by
  have h : RoomMoves s (whenRunning secondHanded (stepClock s)) :=
    (stepClock_roomMoves s).trans (whenRunning_roomMoves (secondHanded_roomMoves _))
  unfold secondArrival; dsimp only; split
  · exact h.trans (whenRunning_roomMoves (minuteHanded_roomMoves _))
  · exact h

theorem minuteArrival_roomMoves (s : State) : RoomMoves s (minuteArrival s) := by
  unfold minuteArrival; split
  · exact (stepClock_roomMoves s).trans (whenRunning_roomMoves (minuteHanded_roomMoves _))
  · exact .refl s

theorem unattendedEnds_roomMoves {s : State} (h : unattendedDue s = true) : RoomMoves s (unattendedEnds s) := by
  have hs : s.sched.session = true ∧ unattendedLimit s ≤ unattendedNext s := by simpa [unattendedDue] using h
  exact (endSession_roomMoves hs.1).trans (raiseNotice_roomMoves _ _ _ _)

theorem acknowledged_roomMoves (s : State) : RoomMoves s (acknowledged s) := by
  unfold acknowledged; split
  · exact (messageDelivered_roomMoves s).finished
  · exact raiseNotice_roomMoves ..

theorem engineStrobed_roomMoves (m : EngineMsg) (s : State) : RoomMoves s (engineStrobed m s) := by
  unfold engineStrobed; split
  · exact .same rfl
  · exact raiseNotice_roomMoves ..

theorem matrixStrobed_roomMoves (m : MatrixMsg) (s : State) : RoomMoves s (matrixStrobed m s) := by
  unfold matrixStrobed; split
  · exact .same rfl
  · exact raiseNotice_roomMoves ..

theorem statusReportTaken_roomMoves (s : State) : RoomMoves s (statusReportTaken s) := by
  unfold statusReportTaken; split
  · split
    · exact (recover_roomMoves _ _ _ _ _).finished.after rfl
    · exact (statusTaken_roomMoves _ _ _ _ _).finished.after rfl
  · exact .refl s

theorem lampSenseTaken_roomMoves (s : State) : RoomMoves s (lampSenseTaken s) := by
  unfold lampSenseTaken; split
  · exact (lampReport_roomMoves _ _ _).finished.after rfl
  · exact .refl s

theorem thermalTaken_roomMoves (s : State) : RoomMoves s (thermalTaken s) := by
  unfold thermalTaken; split
  · exact (thermalReport_roomMoves _ _).finished.after rfl
  · exact .refl s

theorem doorTaken_roomMoves (s : State) : RoomMoves s (doorTaken s) := by
  unfold doorTaken; split
  · exact (doorReport_roomMoves _ _).finished.after rfl
  · exact .refl s

theorem takeAckRow_roomMoves (s : State) : RoomMoves s (takeAckRow s) := by
  have h : ∀ i t, RoomMoves t (takeAckTaken i t) := fun i t => .of_views (by simp) (by simp) (by simp)
  unfold takeAckRow; split
  · exact (h _ _).finished.after rfl
  · exact .refl s

theorem presenceRow_roomMoves (s : State) : RoomMoves s (presenceRow s) := by
  have h : ∀ set t, RoomMoves t (presenceTaken set t) := fun set t => .of_views (by simp) (by simp) (by simp)
  unfold presenceRow; split
  · exact (h _ _).finished.after rfl
  · exact .refl s

theorem fireLineSeen_roomMoves (active : Bool) (s : State) : RoomMoves s (fireLineSeen active s) := by
  unfold fireLineSeen; split
  · exact .refl s
  · exact (fireReport_roomMoves active s).finished

/-! ## The link and the store -/

theorem setLink_roomMoves (s : State) (l : Link) : RoomMoves s (s.setLink l) := .same rfl

theorem frameEnds_roomMoves {takes : FrameSort → Bool} {act : FrameSort → State → State} (h : ∀ f s, RoomMoves s (act f s))
    (s : State) : RoomMoves s (frameEnds takes act s) := by
  unfold frameEnds; split; · exact setLink_roomMoves s _
  split; · exact setLink_roomMoves s _
  dsimp only
  split; · exact setLink_roomMoves s _
  split
  · exact (setLink_roomMoves s _).trans (h _ _)
  · exact .refl s

theorem requestTaken_roomMoves (k : Bool) (m : Meeting) (f : FrameSort) (s : State) : RoomMoves s (requestTaken k m f s) := by
  unfold requestTaken; split
  · exact reply_roomMoves (answerMoves_handRequest ..)
  all_goals exact .refl s

theorem malformedTaken_roomMoves (f : FrameSort) (s : State) : RoomMoves s (malformedTaken f s) := by
  unfold malformedTaken; split
  · exact (setLink_roomMoves s _).trans (raiseNotice_roomMoves _ _ _ _)
  all_goals exact .refl s

theorem endWrite_roomMoves (r : ReadBack) (w : Writing) (s : State) : RoomMoves s (endWrite r w s) := .same rfl

theorem writeEndTaken_roomMoves (r : ReadBack) (s : State) : RoomMoves s (writeEndTaken r s) := by
  unfold writeEndTaken; split
  · exact .refl s
  · split
    · exact (endWrite_roomMoves r _ s).trans (startFlushWrite_roomMoves _)
    · unfold writeEnds; dsimp only; split
      · exact (endWrite_roomMoves r _ s).trans (startWrite_roomMoves _)
      · exact (startWrite_roomMoves _).after rfl

theorem retryWaitEnds_roomMoves (n : Nat) (s : State) : RoomMoves s (retryWaitEnds n s) := by
  unfold retryWaitEnds; split
  · exact (startWrite_roomMoves _).after rfl
  · exact .refl s

/-! ## The command -/

theorem takeRequest_roomMoves {n : ReqName} {request : State → Answer} {s : State} (h : AnswerMoves s (request s)) :
    RoomMoves s (takeRequest n request s) := whenRunning_roomMoves (reply_roomMoves h)

/-- Every command moves the room's use so. -/
theorem exec_roomMoves {c : Instr} {s t : State} (h : exec c s = .next t) : RoomMoves s t := by
  cases c <;> simp only [exec] at h
  case book => cases h; exact takeRequest_roomMoves (answerMoves_book ..)
  case rebk => cases h; exact takeRequest_roomMoves (answerMoves_rebk ..)
  case unbk => cases h; exact takeRequest_roomMoves (answerMoves_unbk ..)
  case find => cases h; exact takeRequest_roomMoves (answerMoves_find ..)
  case next => cases h; exact takeRequest_roomMoves (answerMoves_next ..)
  case endn => cases h; exact takeRequest_roomMoves (answerMoves_endn ..)
  case time => cases h; exact takeRequest_roomMoves (answerMoves_time ..)
  case clck => cases h; exact takeRequest_roomMoves (answerMoves_clck ..)
  case sesn => cases h; exact takeRequest_roomMoves (answerMoves_sesn ..)
  case sesf => cases h; exact takeRequest_roomMoves (answerMoves_sesf ..)
  case lamp => cases h; exact takeRequest_roomMoves (answerMoves_lamp ..)
  case fitl => cases h; exact takeRequest_roomMoves (answerMoves_fitl ..)
  case reml => cases h; exact takeRequest_roomMoves (answerMoves_reml ..)
  case clrf => cases h; exact takeRequest_roomMoves (answerMoves_clrf ..)
  case hold => cases h; exact takeRequest_roomMoves (answerMoves_hold ..)
  case lift => cases h; exact takeRequest_roomMoves (answerMoves_lift ..)
  case hlds => cases h; exact takeRequest_roomMoves (answerMoves_hlds ..)
  case srce => cases h; exact takeRequest_roomMoves (answerMoves_srce ..)
  case prof => cases h; exact takeRequest_roomMoves (answerMoves_prof ..)
  case prfr => cases h; exact takeRequest_roomMoves (answerMoves_prfr ..)
  case sigs => cases h; exact takeRequest_roomMoves (answerMoves_sigs ..)
  case prst => cases h; exact takeRequest_roomMoves (answerMoves_prst ..)
  case prsr => cases h; exact takeRequest_roomMoves (answerMoves_prsr ..)
  case appl => cases h; exact takeRequest_roomMoves (answerMoves_appl ..)
  case crnr => cases h; exact takeRequest_roomMoves (answerMoves_crnr ..)
  case mute => cases h; exact takeRequest_roomMoves (answerMoves_mute ..)
  case unmt => cases h; exact takeRequest_roomMoves (answerMoves_unmt ..)
  case summ => cases h; exact takeRequest_roomMoves (answerMoves_summ ..)
  case nlvl => cases h; exact takeRequest_roomMoves (answerMoves_nlvl ..)
  case conf => cases h; exact takeRequest_roomMoves (answerMoves_conf ..)
  case cnfr => cases h; exact takeRequest_roomMoves (answerMoves_cnfr ..)
  case rstr => cases h; exact takeRequest_roomMoves (answerMoves_rstr ..)
  case restartFlushEnd f =>
    cases h; split
    · exact .boot _ _
    · exact .refl s
  case keyStrobe => cases h; exact whenRunning_roomMoves (keyStrobed_roomMoves ..)
  case powerOn =>
    cases h
    exact whenRunning_roomMoves (takeKey_roomMoves (fun _ s => keyChecks_roomMoves _ _ _ (startSession_roomMoves s)) s)
  case powerOff =>
    cases h
    exact whenRunning_roomMoves (takeKey_roomMoves (fun _ s => keyChecks_roomMoves _ _ _ (powerOffAct_roomMoves s)) s)
  case muteKey => cases h; exact whenRunning_roomMoves (takeKey_roomMoves muteToggle_roomMoves s)
  case sourceKey =>
    cases h
    exact whenRunning_roomMoves (takeKey_roomMoves (fun _ s => keyChecks_roomMoves _ _ _ (makeSelection_roomMoves _ s)) s)
  case presetKey =>
    cases h
    exact whenRunning_roomMoves (takeKey_roomMoves (fun _ s => keyChecks_roomMoves _ _ _ (applyOverride_roomMoves _ s)) s)
  case unknownKey => cases h; exact whenRunning_roomMoves (takeKey_roomMoves (fun _ _ => raiseNotice_roomMoves ..) s)
  case secondArrival => cases h; exact secondArrival_roomMoves s
  case minuteArrival => cases h; exact minuteArrival_roomMoves s
  case unstoredLitSecondsWrap p => cases h; exact dueEvent_roomMoves (fun _ => .of_views (by simp) (by simp) (by simp))
  case continuousLit600 p => cases h; exact dueEvent_roomMoves (fun _ => .of_views (by simp) (by simp) (by simp))
  case strikeWindowRunsOut p => cases h; exact dueEvent_roomMoves (fun _ => windowRunsOut_roomMoves p s)
  case cooldownEnd p => cases h; exact dueEvent_roomMoves (fun _ => cooldownEnds_roomMoves p s)
  case unattendedEnd => cases h; exact dueEvent_roomMoves unattendedEnds_roomMoves
  case graceRunsOut => cases h; exact dueEvent_roomMoves (fun _ => .of_views (by simp) (by simp) (by simp))
  case takeTimeout => cases h; exact dueEvent_roomMoves (fun _ => .of_views (by simp) (by simp) (by simp))
  case settleTimeout => cases h; exact dueEvent_roomMoves (fun _ => .of_views (by simp) (by simp) (by simp))
  case lossTimerRunsOut => cases h; exact dueEvent_roomMoves (fun _ => .of_views (by simp) (by simp) (by simp))
  case frameEdge => cases h; exact whenRunning_roomMoves (frameEdgeTaken_roomMoves _ s).finished
  case lineEdge => cases h; exact whenRunning_roomMoves (.of_views (by simp) (by simp) (by simp))
  case acknowledgeTimeout =>
    cases h; apply whenRunning_roomMoves; split
    · exact (channelFaults_roomMoves s).finished
    · exact .refl s
  case engineAcknowledge =>
    cases h; split
    · exact .refl s
    · exact acknowledged_roomMoves s
  case engineInboundStrobe => cases h; exact engineStrobed_roomMoves ..
  case lampSense => cases h; exact whenRunning_roomMoves (lampSenseTaken_roomMoves s)
  case thermal => cases h; exact whenRunning_roomMoves (thermalTaken_roomMoves s)
  case door => cases h; exact whenRunning_roomMoves (doorTaken_roomMoves s)
  case statusReport => cases h; exact whenRunning_roomMoves (statusReportTaken_roomMoves s)
  case matrixInboundStrobe => cases h; exact matrixStrobed_roomMoves ..
  case takeAck => cases h; exact whenRunning_roomMoves (takeAckRow_roomMoves s)
  case presence => cases h; exact whenRunning_roomMoves (presenceRow_roomMoves s)
  case fireLineChange a => cases h; exact (whenRunning_roomMoves (fireLineSeen_roomMoves a _)).after rfl
  case frameBegin =>
    cases h; split
    · exact .refl s
    · exact setLink_roomMoves s _
  case requestFrameEnd => cases h; exact frameEnds_roomMoves (fun f s => requestTaken_roomMoves _ _ f s) s
  case fetchFrame => cases h; exact frameEnds_roomMoves (fun _ s => .refl s) s
  case malformedFrame => cases h; exact frameEnds_roomMoves malformedTaken_roomMoves s
  case overrunFrame => cases h; exact frameEnds_roomMoves (fun _ _ => raiseNotice_roomMoves ..) s
  case replyStaging => cases h; exact whenRunning_roomMoves (setLink_roomMoves s _)
  case writeEnd => cases h; exact writeEndTaken_roomMoves ..
  case retryWaitEnd n => cases h; exact retryWaitEnds_roomMoves n s
  case powerReset d => cases h; exact .boot _ _
  case startUpEnd =>
    cases h; split
    · exact endStartUp_roomMoves s
    · exact .refl s
  case byteCompletion b => cases h; exact setLink_roomMoves s _

/-- A property of the room's use that every change keeps is kept by every step. -/
theorem kept_of_roomMoves {P : State → Prop} (hq : ∀ s q, P s → P { s with pending := q })
    (hm : ∀ s t, RoomMoves s t → P s → P t) : KeptByStep P := by
  intro s t hs h
  unfold step at h
  split at h
  · cases h; exact hs
  · exact hm _ _ (exec_roomMoves h) (hq s _ hs)

end Sys2Proof.Machine
end

section
/-! PROOF. The invariants of the booking table and the schedule (`Obligations.CommittedWearIsTheSum`,
`Obligations.TableAndSessionKeepShape`): each says something of the room's use, and every change of `RoomMoves` keeps it. -/

namespace Sys2Proof.Machine

/-! ## Lists without repeats (the package's modules stand on core Lean alone, so Mathlib's lemmas are not at hand) -/

theorem eq_of_nodup_map {α β : Type} {f : α → β} {l : List α} (h : (l.map f).Nodup) {x y : α} (hx : x ∈ l) (hy : y ∈ l)
    (e : f x = f y) : x = y := by
  induction l with
  | nil => cases hx
  | cons a l ih =>
    obtain ⟨hfirst, hrest⟩ := List.nodup_cons.mp h
    rcases List.mem_cons.mp hx with hxa | hxl
    · rcases List.mem_cons.mp hy with hya | hyl
      · exact hxa.trans hya.symm
      · exact absurd (hxa ▸ e ▸ List.mem_map_of_mem hyl) hfirst
    · rcases List.mem_cons.mp hy with hya | hyl
      · exact absurd (hya ▸ e ▸ List.mem_map_of_mem hxl) hfirst
      · exact ih hrest hxl hyl

theorem length_le_of_nodup {l m : List Nat} (hn : l.Nodup) (h : ∀ n ∈ l, n ∈ m) : l.length ≤ m.length := by
  induction l generalizing m with
  | nil => exact Nat.zero_le _
  | cons a l ih =>
    obtain ⟨ha, hl⟩ := List.nodup_cons.mp hn
    have ham : a ∈ m := h a (List.mem_cons_self ..)
    have hrest : ∀ n ∈ l, n ∈ m.erase a := fun n hnl =>
      (List.mem_erase_of_ne (fun e : n = a => ha (e ▸ hnl))).mpr (h n (List.mem_cons_of_mem a hnl))
    have hle := ih hl hrest
    have hlen := List.length_erase_of_mem ham
    have hpos := List.length_pos_of_mem ham
    rw [List.length_cons]
    omega

/-! ## The start of start-up -/

theorem AtStartUp.tableRebuilt {s t : State} (h : AtStartUp s t) : TableRebuilt t.store.records t := by
  obtain ⟨-, -, -, -, -, -, -, -, -, -, -, -, -, -, -, -, -, -, hl, -⟩ := h
  exact hl.2

/-- At the start of start-up no booking is active, no hold stands and the schedule unit has its reset values (R34, R116). -/
theorem AtStartUp.idleRoom {s t : State} (h : AtStartUp s t) :
    (∀ b ∈ t.bookings, b.state = .pending) ∧ t.holds[examSlot] = none ∧ t.sched = Schedule.reset := by
  obtain ⟨-, hb, hh, hs, -⟩ := h
  exact ⟨fun b m => (hb b m).1, hh examSlot, hs⟩

/-! ## The committed wear -/

/-- The committed wear is the sum of the planned wear of the PENDING bookings (R94). -/
def ViewRoomUse.WearAgrees (v : ViewRoomUse) : Prop := v.cA = pendingWear .a v.bookings ∧ v.cB = pendingWear .b v.bookings

theorem committedAgrees_iff (s : State) : CommittedAgrees s ↔ s.roomUse.WearAgrees := by
  simp only [CommittedAgrees, ViewRoomUse.WearAgrees, pendingWear_eq]; exact Iff.rfl

/-- The table's change moves the committed wear to the new table's sum (R13). -/
theorem ViewRoomUse.WearAgrees.withTable {v : ViewRoomUse} (h : v.WearAgrees) (bs : List Booking) :
    (v.withTable bs).WearAgrees := by
  obtain ⟨ha, hb⟩ := h
  refine ⟨?_, ?_⟩
  · show v.cA + pendingWear .a bs - pendingWear .a v.bookings = pendingWear .a bs
    omega
  · show v.cB + pendingWear .b bs - pendingWear .b v.bookings = pendingWear .b bs
    omega

theorem pendingWear_seenShown (p : Pos) (bs : List Booking) : pendingWear p (bs.map Booking.seenShown) = pendingWear p bs := by
  induction bs with
  | nil => rfl
  | cons b rest ih =>
    have hb : b.seenShown.state = b.state ∧ b.seenShown.planned p = b.planned p := by
      unfold Booking.seenShown; split
      · exact ⟨rfl, by cases p <;> rfl⟩
      · exact ⟨rfl, rfl⟩
    simp only [List.map_cons, pendingWear, ih, hb.1, hb.2]

theorem RoomMoves.keeps_wear {s t : State} (m : RoomMoves s t) : s.roomUse.WearAgrees → t.roomUse.WearAgrees := by
  induction m with
  | same h => exact fun hs => h ▸ hs
  | trans _ _ ih1 ih2 => exact fun hs => ih2 (ih1 hs)
  | gap _ _ h | sessionOn _ _ h | sessionOff _ h => exact fun hs => h ▸ hs
  | shown h =>
    rintro ⟨ha, hb⟩
    rw [h]
    exact ⟨ha.trans (pendingWear_seenShown .a _).symm, hb.trans (pendingWear_seenShown .b _).symm⟩
  | lead _ _ h | start _ _ _ _ h | ended _ _ _ _ h | departed _ _ h | book _ _ _ _ _ _ _ h | amend _ _ _ _ _ _ _ h
  | extend _ _ _ _ _ _ h => exact fun hs => h ▸ hs.withTable _
  | boot clock records =>
    intro _
    obtain ⟨-, -, -, -, -, hA, hB⟩ := (boot_spec clock records _).1.tableRebuilt
    exact (committedAgrees_iff _).mp ⟨hA, hB⟩

/-- Settles O53: every change of the table moves the committed wear with it. -/
theorem committedWearIsTheSum : Obligations.CommittedWearIsTheSum :=
  kept_of_roomMoves (fun _ _ h => h)
    (fun _ _ m h => (committedAgrees_iff _).mpr (m.keeps_wear ((committedAgrees_iff _).mp h)))

/-! ## The table's shape -/

/-- What the shape of the table sees of a booking: its given fields and its state. -/
def Booking.outline (b : Booking) : Given × BookingState := (b.given, b.state)

/-- `TableShape` of a list of bookings. -/
def TableOrdered (bs : List Booking) : Prop :=
  bs.Pairwise Apart ∧ (∀ b ∈ bs, b.given.inRange = true) ∧ bs.length ≤ 48 ∧ ∀ b ∈ bs.tail, b.state = .pending

theorem tableShape_iff (s : State) : TableShape s ↔ TableOrdered s.roomUse.bookings := Iff.rfl

theorem outline_of_lasting {bs cs : List Booking} (e : bs.map Booking.lasting = cs.map Booking.lasting) :
    bs.map Booking.outline = cs.map Booking.outline := by
  have := congrArg (List.map fun x : Given × Class × LampSet × BookingState × Bool × Nat => (x.1, x.2.2.2.1)) e
  rwa [List.map_map, List.map_map] at this

theorem tableOrdered_congr {bs cs : List Booking} (e : bs.map Booking.outline = cs.map Booking.outline)
    (h : TableOrdered bs) : TableOrdered cs := by
  obtain ⟨hpair, hrange, hlen, htail⟩ := h
  have hmem : ∀ {l m : List Booking}, l.map Booking.outline = m.map Booking.outline → ∀ c ∈ m, ∃ b ∈ l,
      b.given = c.given ∧ b.state = c.state := by
    intro l m e c hc
    obtain ⟨b, hb, hbc⟩ := List.mem_map.mp (e ▸ List.mem_map_of_mem (f := Booking.outline) hc)
    exact ⟨b, hb, congrArg Prod.fst hbc, congrArg Prod.snd hbc⟩
  refine ⟨?_, fun c hc => ?_, ?_, fun c hc => ?_⟩
  · let R (x y : Given × BookingState) : Prop := x.1.fin ≤ y.1.start ∧ x.1.tag ≠ y.1.tag
    have hR : (bs.map Booking.outline).Pairwise R := List.pairwise_map.mpr hpair
    have hR' : (cs.map Booking.outline).Pairwise R := e ▸ hR
    have hcs := List.pairwise_map.mp hR'
    exact hcs
  · obtain ⟨b, hb, hg, -⟩ := hmem e c hc
    exact hg ▸ hrange b hb
  · have := congrArg List.length e
    simp only [List.length_map] at this
    omega
  · have et : bs.tail.map Booking.outline = cs.tail.map Booking.outline := by
      rw [List.map_tail, List.map_tail, e]
    obtain ⟨b, hb, -, hs⟩ := hmem et c hc
    exact hs ▸ htail b hb

/-- An active booking is the first of the table, and the others are PENDING (R34). -/
theorem TableOrdered.active_first {bs : List Booking} (h : TableOrdered bs) {b : Booking} (hb : b ∈ bs)
    (hs : b.state ≠ .pending) : ∃ rest, bs = b :: rest ∧ ∀ x ∈ rest, x.state = .pending := by
  obtain ⟨-, -, -, htail⟩ := h
  cases bs with
  | nil => cases hb
  | cons c rest =>
    rcases List.mem_cons.mp hb with rfl | hr
    · exact ⟨rest, rfl, htail⟩
    · exact absurd (htail b hr) hs

/-- The booking that a tag names is alone with it. -/
theorem TableOrdered.tag_ne {b : Booking} {rest : List Booking} (h : TableOrdered (b :: rest)) :
    ∀ x ∈ rest, x.given.tag ≠ b.given.tag := fun _ hx => ((List.rel_of_pairwise_cons h.1 hx).2).symm

theorem TableOrdered.tag_inj {bs : List Booking} (h : TableOrdered bs) {b c : Booking} (hb : b ∈ bs) (hc : c ∈ bs)
    (e : b.given.tag = c.given.tag) : b = c := by
  have hn : (bs.map (·.given.tag)).Nodup := List.pairwise_map.mpr (h.1.imp And.right)
  exact eq_of_nodup_map hn hb hc e

/-- A table with some bookings taken out keeps its shape. -/
theorem TableOrdered.filter {bs : List Booking} (h : TableOrdered bs) (p : Booking → Bool) : TableOrdered (bs.filter p) := by
  obtain ⟨hpair, hrange, hlen, htail⟩ := h
  refine ⟨hpair.filter p, fun b hb => hrange b (List.mem_filter.mp hb).1, Nat.le_trans (List.length_filter_le p bs) hlen, ?_⟩
  cases bs with
  | nil => simp
  | cons b rest =>
    intro x hx
    rw [List.filter_cons] at hx
    split at hx
    · exact htail x (List.mem_filter.mp hx).1
    · exact htail x (List.mem_filter.mp (List.mem_of_mem_tail hx)).1

theorem span_of_inRange {g : Given} (h : g.inRange = true) : g.start < g.fin := by
  obtain ⟨-, -, h, -⟩ := (inRange_iff g).mp h
  omega

theorem fitsTable_iff (g : Given) (bs : List Booking) : fitsTable g bs = true ↔ ∀ b ∈ bs,
    (g.fin ≤ b.given.start ∨ b.given.fin ≤ g.start) ∧ (b.state ≠ .pending → b.given.start < g.start) := by
  simp only [fitsTable, overlaps, List.all_eq_true, Bool.and_eq_true, Bool.not_eq_true', Bool.or_eq_true, beq_iff_eq,
    decide_eq_true_eq, Bool.and_eq_false_iff, decide_eq_false_iff_not, Nat.not_lt]
  refine forall_congr' fun b => imp_congr_right fun _ => and_congr Iff.rfl ?_
  by_cases hb : b.state = .pending <;> simp [hb]

/-- A PENDING booking that fits is placed without spoiling the table's shape (R6, R18). -/
theorem TableOrdered.insert {bs : List Booking} (h : TableOrdered bs) {b : Booking} (hp : b.state = .pending)
    (hr : b.given.inRange = true) (ht : ∀ x ∈ bs, x.given.tag ≠ b.given.tag) (hf : fitsTable b.given bs = true)
    (hl : bs.length < 48) : TableOrdered (insertBooking b bs) := by
  have hfit := (fitsTable_iff _ _).mp hf
  obtain ⟨hpair, hrange, -, htail⟩ := h
  refine ⟨insertBooking_apart b bs hpair (span_of_inRange hr) (fun x hx => span_of_inRange (hrange x hx))
    (fun x hx => ⟨ht x hx, (hfit x hx).1⟩), fun x hx => ?_, ?_, ?_⟩
  · rcases (mem_insertBooking b x bs).mp hx with rfl | hx
    · exact hr
    · exact hrange x hx
  · obtain ⟨pre, post, h1, h2, -⟩ := insertBooking_spec b bs
    have := congrArg List.length h1
    have := congrArg List.length h2
    simp only [List.length_append, List.length_cons] at *
    omega
  · cases bs with
    | nil => simp [insertBooking]
    | cons c rest =>
      intro x hx
      unfold insertBooking at hx
      split at hx
      · next hle =>
        have hc : c.state = .pending := by
          refine Decidable.byContradiction fun hn => ?_
          have := (hfit c (by simp)).2 hn
          omega
        rcases List.mem_cons.mp hx with rfl | hx
        · exact hc
        · exact htail x hx
      · rcases (mem_insertBooking b x rest).mp hx with rfl | hx
        · exact hp
        · exact htail x hx

theorem updateBooking_first {b : Booking} {rest : List Booking} (f : Booking → Booking)
    (ht : ∀ x ∈ rest, x.given.tag ≠ b.given.tag) : updateBooking b.given.tag f (b :: rest) = f b :: rest := by
  simp only [updateBooking, List.map_cons, if_true, List.cons.injEq, true_and]
  exact (List.map_congr_left fun x hx => if_neg (ht x hx)).trans (List.map_id' rest)

theorem removeTag_first {b : Booking} {rest : List Booking} (ht : ∀ x ∈ rest, x.given.tag ≠ b.given.tag) :
    removeTag b.given.tag (b :: rest) = rest := by
  simp only [removeTag, List.filter_cons, bne_self_eq_false, Bool.false_eq_true, if_false]
  exact List.filter_eq_self.mpr fun x hx => by simpa using ht x hx

/-- The first booking may change its state, and its end up to the next start. -/
theorem TableOrdered.change_first {b c : Booking} {rest : List Booking} (h : TableOrdered (b :: rest))
    (ht : c.given.tag = b.given.tag) (hr : c.given.inRange = true) (hf : ∀ x ∈ rest, c.given.fin ≤ x.given.start) :
    TableOrdered (c :: rest) := by
  obtain ⟨hpair, hrange, hlen, htail⟩ := h
  rw [List.pairwise_cons] at hpair
  refine ⟨List.pairwise_cons.mpr ⟨fun x hx => ⟨hf x hx, ht ▸ (hpair.1 x hx).2⟩, hpair.2⟩, fun x hx => ?_, hlen, htail⟩
  rcases List.mem_cons.mp hx with rfl | hx
  · exact hr
  · exact hrange x (by simp [hx])

theorem TableOrdered.rest {b : Booking} {rest : List Booking} (h : TableOrdered (b :: rest)) : TableOrdered rest := by
  have := h.filter (fun x => x.given.tag != b.given.tag)
  rwa [← removeTag, removeTag_first h.tag_ne] at this

/-- The booking whose lead arrival is due is the first, and all are PENDING. -/
theorem leadDue_first {s : State} {b : Booking} (h : leadDue s = some b) :
    (∃ rest, s.bookings = b :: rest) ∧ ∀ x ∈ s.bookings, x.state = .pending := by
  unfold leadDue at h; split at h
  · next ha hb =>
    split at h
    · cases h; exact ⟨⟨_, hb⟩, activeBooking_eq_none ha⟩
    · cases h
  · cases h

theorem startDue_warming {s : State} {b : Booking} (h : startDue s = some b) : b ∈ s.bookings ∧ b.state = .warming := by
  unfold startDue at h; split at h
  · next ha =>
    split at h
    · next hw => cases h; exact ⟨(activeBooking_eq ha).1, hw.1⟩
    · cases h
  · cases h

/-- A new end that no successor's start comes before is before every later start (R24). -/
theorem TableOrdered.end_le_starts {b : Booking} {rest : List Booking} (h : TableOrdered (b :: rest)) {fin : Nat}
    (hs : (successorAt b.given.start (b :: rest)).any (fun n => n.given.start < fin) = false) :
    ∀ x ∈ rest, fin ≤ x.given.start := by
  have hspan : ∀ x ∈ b :: rest, x.given.start < x.given.fin := fun x hx => span_of_inRange (h.2.1 x hx)
  have hpair := List.pairwise_cons.mp h.1
  cases rest with
  | nil => simp
  | cons n rest =>
    have hb := hspan b (by simp)
    have hn := (hpair.1 n (by simp)).1
    have hsucc : successorAt b.given.start (b :: n :: rest) = some n := by
      simp only [successorAt, List.find?_cons, Nat.lt_irrefl, decide_false]
      rw [decide_eq_true (by omega : b.given.start < n.given.start)]
    rw [hsucc] at hs
    have hfin : fin ≤ n.given.start := by simpa using hs
    intro x hx
    rcases List.mem_cons.mp hx with rfl | hx
    · exact hfin
    · have hx := (List.rel_of_pairwise_cons hpair.2 hx).1
      have := hspan n (by simp)
      omega

theorem newEnd_inRange {now fin : Nat} {b : Booking} (h : newEndInRange now b fin = true) (hb : b.given.inRange = true) :
    ({ b.given with fin := fin } : Given).inRange = true := by
  simp only [newEndInRange, Bool.and_eq_true, decide_eq_true_iff] at h
  obtain ⟨⟨⟨-, hmin⟩, hmax⟩, htop⟩ := h
  obtain ⟨h1, h2, -, -, -, h6⟩ := (inRange_iff b.given).mp hb
  exact (inRange_iff _).mpr ⟨h1, h2, hmin, hmax, htop, h6⟩

theorem mem_removeTag {tag : Nat} {bs : List Booking} {x : Booking} : x ∈ removeTag tag bs ↔ x ∈ bs ∧ x.given.tag ≠ tag := by
  simp [removeTag]

/-- The table that an amendment of a PENDING booking places the booking in has room for it. -/
theorem removeTag_length_lt {tag : Nat} {bs : List Booking} {b : Booking} (hb : b ∈ bs) (ht : b.given.tag = tag) :
    (removeTag tag bs).length < bs.length :=
  List.length_filter_lt_length_iff_exists.mpr ⟨b, hb, by simp [ht]⟩

theorem RoomMoves.keeps_table {s t : State} (m : RoomMoves s t) :
    TableOrdered s.roomUse.bookings → TableOrdered t.roomUse.bookings := by
  induction m with
  | same h => exact fun hs => h ▸ hs
  | trans _ _ ih1 ih2 => exact fun hs => ih2 (ih1 hs)
  | gap _ _ h | sessionOn _ _ h | sessionOff _ h => exact fun hs => h ▸ hs
  | shown h =>
    intro hs
    rw [h]
    refine tableOrdered_congr ?_ hs
    rw [List.map_map]
    refine List.map_congr_left fun b _ => ?_
    unfold Function.comp Booking.seenShown; split <;> rfl
  | lead b hb h =>
    intro hs
    obtain ⟨⟨rest, hbs⟩, -⟩ := leadDue_first hb
    rw [h]
    change TableOrdered (updateBooking _ _ _)
    have hs : TableOrdered (b :: rest) := hbs ▸ hs
    rw [hbs, updateBooking_first _ hs.tag_ne]
    exact hs.change_first rfl (hs.2.1 b (by simp)) (fun x hx => (List.rel_of_pairwise_cons hs.1 hx).1)
  | @start s _ b shown m hb h =>
    intro hs
    obtain ⟨hmem, hw⟩ := startDue_warming hb
    obtain ⟨rest, hbs, -⟩ := hs.active_first hmem (by simp [hw])
    rw [h]
    change TableOrdered (updateBooking _ _ _)
    have hbs : s.bookings = b :: rest := hbs
    have hs : TableOrdered (b :: rest) := hbs ▸ hs
    rw [hbs, updateBooking_first _ hs.tag_ne]
    exact hs.change_first rfl (hs.2.1 b (by simp)) (fun x hx => (List.rel_of_pairwise_cons hs.1 hx).1)
  | ended b _ _ _ h => exact fun hs => h ▸ hs.filter _
  | departed b _ h =>
    intro hs
    rw [h]
    exact tableOrdered_congr (outline_of_lasting (evaluateTags_lasting _ _ _ _)).symm (hs.filter _)
  | book c g a hg ht hf hl h =>
    intro hs
    rw [h]
    refine tableOrdered_congr (outline_of_lasting (evaluateTags_lasting _ _ _ _)).symm (hs.insert rfl hg ?_ hf hl)
    exact bookingAt_eq_none_iff.mp ht
  | amend b g a hb hp hg hf h =>
    intro hs
    rw [h]
    refine tableOrdered_congr (outline_of_lasting (evaluateTags_lasting _ _ _ _)).symm
      ((hs.filter _).insert hp hg (fun x hx => (mem_removeTag.mp hx).2) hf ?_)
    exact Nat.lt_of_lt_of_le (removeTag_length_lt (bookingAt_mem hb) (bookingAt_tag hb)) hs.2.2.1
  | @extend s _ b fin hb hp hr hsucc h =>
    intro hs
    obtain ⟨rest, hbs, -⟩ := hs.active_first (bookingAt_mem hb) hp
    have hbs : s.bookings = b :: rest := hbs
    rw [h]
    refine tableOrdered_congr (outline_of_lasting (evaluateTags_lasting _ _ _ _)).symm ?_
    have hs : TableOrdered (b :: rest) := hbs ▸ hs
    rw [hbs] at hsucc ⊢
    rw [updateBooking_first _ hs.tag_ne]
    exact hs.change_first rfl (newEnd_inRange hr (hs.2.1 b (by simp))) (hs.end_le_starts hsucc)
  | @boot s clock records =>
    intro _
    have hb := (boot_spec clock records s).1
    obtain ⟨hslot, hnodup, hpair, -⟩ := hb.tableRebuilt
    refine ⟨hpair, fun x hx => (hslot x hx).2.2.1, ?_, fun x hx => hb.idleRoom.1 x (List.mem_of_mem_tail hx)⟩
    rw [← List.length_map (f := (·.slot)), ← List.length_range (n := 48)]
    refine length_le_of_nodup hnodup fun n hn => ?_
    obtain ⟨x, hx, rfl⟩ := List.mem_map.mp hn
    exact List.mem_range.mpr (hslot x hx).1

/-! ## The session and an active booking -/

/-- `SessionAlone` of the room's use. -/
def ViewRoomUse.Alone (v : ViewRoomUse) : Prop := v.session = true → ∀ b ∈ v.bookings, b.state = .pending

theorem pending_of_lasting {bs cs : List Booking} (e : bs.map Booking.lasting = cs.map Booking.lasting)
    (h : ∀ b ∈ bs, b.state = .pending) : ∀ c ∈ cs, c.state = .pending := by
  intro c hc
  obtain ⟨b, hb, -, -, -, hs, -⟩ := exists_lasting e.symm hc
  exact hs ▸ h b hb

theorem seenShown_state (b : Booking) : b.seenShown.state = b.state := by
  unfold Booking.seenShown; split <;> rfl

theorem pending_removeTag {tag : Nat} {bs : List Booking} (h : ∀ b ∈ bs, b.state = .pending) :
    ∀ b ∈ removeTag tag bs, b.state = .pending := fun b hb => h b (mem_removeTag.mp hb).1

theorem pending_insertBooking {b : Booking} {bs : List Booking} (hb : b.state = .pending)
    (h : ∀ x ∈ bs, x.state = .pending) : ∀ x ∈ insertBooking b bs, x.state = .pending := by
  intro x hx
  rcases (mem_insertBooking b x bs).mp hx with rfl | hx
  · exact hb
  · exact h x hx

theorem RoomMoves.keeps_alone {s t : State} (m : RoomMoves s t) : s.roomUse.Alone → t.roomUse.Alone := by
  induction m with
  | same h => exact fun hs => h ▸ hs
  | trans _ _ ih1 ih2 => exact fun hs => ih2 (ih1 hs)
  | gap _ _ h => exact fun hs => h ▸ hs
  | sessionOn _ ha h => exact fun _ => h ▸ fun _ => activeBooking_eq_none ha
  | sessionOff _ h => exact fun _ => h ▸ fun he => absurd he (by simp)
  | shown h =>
    intro hs
    rw [h]
    intro he b hb
    obtain ⟨x, hx, rfl⟩ := List.mem_map.mp hb
    exact (seenShown_state x).trans (hs he x hx)
  | lead _ _ h => exact fun _ => h ▸ fun he => absurd he (by simp)
  | start b _ _ hb h =>
    intro hs
    rw [h]
    obtain ⟨hmem, hw⟩ := startDue_warming hb
    intro he
    exact absurd (hs he b hmem) (by simp [hw])
  | ended _ _ _ _ h => exact fun hs => h ▸ fun he => pending_removeTag (hs he)
  | departed b _ h =>
    exact fun hs => h ▸ fun he => pending_of_lasting (evaluateTags_lasting _ _ _ _).symm (pending_removeTag (hs he))
  | book c g a _ _ _ _ h =>
    exact fun hs => h ▸ fun he => pending_of_lasting (evaluateTags_lasting _ _ _ _).symm (pending_insertBooking rfl (hs he))
  | amend b g a _ hp _ _ h =>
    exact fun hs => h ▸ fun he =>
      pending_of_lasting (evaluateTags_lasting _ _ _ _).symm (pending_insertBooking hp (pending_removeTag (hs he)))
  | extend b _ hb hp _ _ h =>
    intro hs
    rw [h]
    intro he
    exact absurd (hs he b (bookingAt_mem hb)) hp
  | boot clock records =>
    intro _ _
    exact (boot_spec clock records _).1.idleRoom.1

/-! ## The active booking and the EXAM hold -/

/-- What the EXAM hold, the demand and the active booking see of a booking. -/
def Booking.use (b : Booking) : BookingState × Nat × Bool × Option InputSet × Plan × LampSet :=
  (b.state, b.given.tag, b.given.exam, b.given.examInputs, b.given.plan, b.assignment)

/-- The bookings that are WARMING or RUNNING, as the rest of the room sees them. -/
def actives (bs : List Booking) : List (BookingState × Nat × Bool × Option InputSet × Plan × LampSet) :=
  (bs.filter (fun b => b.state != .pending)).map Booking.use

theorem mem_of_actives_eq {bs cs : List Booking} (e : actives bs = actives cs) {b : Booking} (hb : b ∈ bs)
    (hs : b.state ≠ .pending) : ∃ c ∈ cs, c.use = b.use := by
  have hm : b.use ∈ actives bs := List.mem_map_of_mem (List.mem_filter.mpr ⟨hb, by simpa using hs⟩)
  obtain ⟨c, hc, he⟩ := List.mem_map.mp (e ▸ hm : b.use ∈ actives cs)
  exact ⟨c, (List.mem_filter.mp hc).1, he⟩

/-- The active bookings are read off the booking's uses. -/
theorem actives_eq (bs : List Booking) : actives bs = (bs.map Booking.use).filter (fun u => u.1 != .pending) := by
  rw [List.filter_map]; rfl

theorem actives_of_uses {bs cs : List Booking} (e : bs.map Booking.use = cs.map Booking.use) : actives bs = actives cs := by
  rw [actives_eq, actives_eq, e]

theorem actives_of_lasting {bs cs : List Booking} (e : bs.map Booking.lasting = cs.map Booking.lasting) :
    actives bs = actives cs := by
  have := congrArg (List.map fun x : Given × Class × LampSet × BookingState × Bool × Nat =>
    (x.2.2.2.1, x.1.tag, x.1.exam, x.1.examInputs, x.1.plan, x.2.2.1)) e
  rw [List.map_map, List.map_map] at this
  exact actives_of_uses this

theorem actives_evaluateTags (cfg : ConfigRecord) (tags : List Nat) (pred : Option Booking) (bs : List Booking) :
    actives (evaluateTags cfg tags pred bs) = actives bs := actives_of_lasting (evaluateTags_lasting ..)

theorem actives_seenShown (bs : List Booking) : actives (bs.map Booking.seenShown) = actives bs := by
  refine actives_of_uses ?_
  rw [List.map_map]
  refine List.map_congr_left fun b _ => ?_
  unfold Function.comp Booking.seenShown; split <;> rfl

theorem actives_insertBooking {b : Booking} (hb : b.state = .pending) (bs : List Booking) :
    actives (insertBooking b bs) = actives bs := by
  induction bs with
  | nil => simp [insertBooking, actives, hb]
  | cons x rest ih =>
    unfold insertBooking; split
    · simp [actives, hb]
    · simp only [actives, List.filter_cons] at ih ⊢
      split <;> simp [ih]

/-- Taking out a PENDING booking, or none, leaves the active ones. -/
theorem actives_removeTag {tag : Nat} {bs : List Booking} (h : TableOrdered bs) (hd : Departable tag bs) :
    actives (removeTag tag bs) = actives bs := by
  unfold actives removeTag
  rw [List.filter_filter]
  refine congrArg _ (List.filter_congr fun b hb => ?_)
  by_cases hs : b.state = .pending
  · simp [hs]
  · have ht : b.given.tag ≠ tag := by
      rcases hd with ⟨x, hx, hxt, hxp⟩ | hn
      · intro e
        exact hs (h.tag_inj hb hx (e.trans hxt.symm) ▸ hxp)
      · exact hn b hb
    simp [hs, ht]

theorem actives_pending {bs : List Booking} (h : ∀ b ∈ bs, b.state = .pending) : actives bs = [] := by
  unfold actives
  rw [List.map_eq_nil_iff, List.filter_eq_nil_iff]
  intro b hb
  simp [h b hb]

/-- The table changes whose active bookings stay as they were: evaluation, admission, amendment, departure. -/
theorem actives_tableWithout {b : Booking} {s : State} (h : TableOrdered s.bookings) (hd : Departable b.given.tag s.bookings) :
    actives (tableWithout b s) = actives s.bookings := (actives_evaluateTags ..).trans (actives_removeTag h hd)

theorem actives_admittedTable (c : Class) (g : Given) (a : Admission) (s : State) :
    actives (admittedTable c g a s) = actives s.bookings := (actives_evaluateTags ..).trans (actives_insertBooking rfl _)

theorem actives_amendedTable {b : Booking} {g : Given} {s : State} (a : Admission) (h : TableOrdered s.bookings)
    (hb : bookingAt g.tag s.bookings = some b) (hp : b.state = .pending) :
    actives (amendedTable b g a s) = actives s.bookings :=
  (actives_evaluateTags ..).trans ((actives_insertBooking (by exact hp) _).trans
    (actives_removeTag h (Or.inl ⟨b, bookingAt_mem hb, bookingAt_tag hb, hp⟩)))

theorem actives_extendedTable (b : Booking) (fin : Nat) (s : State) :
    actives (extendedTable b fin s) = actives s.bookings := by
  refine (actives_evaluateTags ..).trans (actives_of_uses ?_)
  rw [updateBooking, List.map_map]
  refine List.map_congr_left fun x _ => ?_
  simp only [Function.comp]; split <;> rfl

/-- The EXAM hold stands exactly while a RUNNING booking is an exam (R107). -/
def ViewRoomUse.Exam (v : ViewRoomUse) : Prop :=
  (∀ b ∈ v.bookings, b.state = .running → b.given.exam = true → v.exam = some (examHoldOf b))
    ∧ ∀ h, v.exam = some h → ∃ b ∈ v.bookings, b.state = .running ∧ b.given.exam = true ∧ h = examHoldOf b

theorem use_eq {b c : Booking} (h : c.use = b.use) :
    c.state = b.state ∧ c.given.tag = b.given.tag ∧ c.given.exam = b.given.exam ∧ examHoldOf c = examHoldOf b
      ∧ demandFor c = demandFor b := by
  simp only [Booking.use, Prod.mk.injEq] at h
  obtain ⟨h1, h2, h3, h4, h5, h6⟩ := h
  exact ⟨h1, h2, h3, by simp only [examHoldOf, h2, h4], by simp only [demandFor, h5, h6]⟩

theorem ViewRoomUse.Exam.congr {v w : ViewRoomUse} (h : v.Exam) (ha : actives w.bookings = actives v.bookings)
    (he : w.exam = v.exam) : w.Exam := by
  refine ⟨fun b hb hr hx => ?_, fun k hk => ?_⟩
  · obtain ⟨c, hc, hu⟩ := mem_of_actives_eq ha hb (by simp [hr])
    obtain ⟨h1, -, h3, h4, -⟩ := use_eq hu
    rw [he, ← h4]
    exact h.1 c hc (h1.trans hr) (h3.trans hx)
  · obtain ⟨b, hb, hr, hx, rfl⟩ := h.2 k (he ▸ hk)
    obtain ⟨c, hc, hu⟩ := mem_of_actives_eq ha.symm hb (by simp [hr])
    obtain ⟨h1, -, h3, h4, -⟩ := use_eq hu
    exact ⟨c, hc, h1.trans hr, h3.trans hx, h4.symm⟩

/-- With no RUNNING booking the EXAM hold does not stand. -/
theorem ViewRoomUse.Exam.eq_none {v : ViewRoomUse} (h : v.Exam) (hn : ∀ b ∈ v.bookings, b.state ≠ .running) : v.exam = none := by
  cases he : v.exam with
  | none => rfl
  | some k =>
    obtain ⟨b, hb, hr, -⟩ := h.2 k he
    exact absurd hr (hn b hb)

/-- A room with no RUNNING booking and no EXAM hold agrees. -/
theorem exam_of_none {v : ViewRoomUse} (hn : ∀ b ∈ v.bookings, b.state ≠ .running) (he : v.exam = none) : v.Exam :=
  ⟨fun b hb hr => absurd hr (hn b hb), fun k hk => by rw [he] at hk; cases hk⟩

/-- What the lead arrival makes of a table whose bookings are all PENDING. -/
theorem lead_table {b : Booking} {s : State} (h : TableOrdered s.bookings) (hb : leadDue s = some b) :
    ∃ rest, s.bookings = b :: rest ∧ (∀ x ∈ b :: rest, x.state = .pending)
      ∧ updateBooking b.given.tag (fun x => { x with state := .warming }) s.bookings = { b with state := .warming } :: rest := by
  obtain ⟨⟨rest, hbs⟩, hp⟩ := leadDue_first hb
  rw [hbs] at h hp ⊢
  exact ⟨rest, rfl, hp, updateBooking_first _ h.tag_ne⟩

/-- What the start arrival makes of a table. -/
theorem start_table {b : Booking} {s : State} (shown : Bool) (h : TableOrdered s.bookings) (hb : startDue s = some b) :
    ∃ rest, s.bookings = b :: rest ∧ b.state = .warming ∧ (∀ x ∈ rest, x.state = .pending)
      ∧ updateBooking b.given.tag (fun x => { x with state := .running, shownSinceStart := shown }) s.bookings =
        { b with state := .running, shownSinceStart := shown } :: rest := by
  obtain ⟨hmem, hw⟩ := startDue_warming hb
  obtain ⟨rest, hbs, hp⟩ := h.active_first hmem (by simp [hw])
  rw [hbs] at h ⊢
  exact ⟨rest, rfl, hw, hp, updateBooking_first _ h.tag_ne⟩

/-- What the end of an active booking makes of a table. -/
theorem ended_table {b : Booking} {s : State} (h : TableOrdered s.bookings) (hb : b ∈ s.bookings) (hs : b.state ≠ .pending) :
    (∀ x ∈ s.bookings, x.state ≠ .pending → x = b) ∧ ∀ x ∈ removeTag b.given.tag s.bookings, x.state = .pending := by
  obtain ⟨rest, hbs, hp⟩ := h.active_first hb hs
  rw [hbs] at h ⊢
  refine ⟨fun x hx hn => ?_, ?_⟩
  · rcases List.mem_cons.mp hx with rfl | hx
    · rfl
    · exact absurd (hp x hx) hn
  · rw [removeTag_first h.tag_ne]; exact hp

theorem not_running_of_pending {bs : List Booking} (h : ∀ b ∈ bs, b.state = .pending) : ∀ b ∈ bs, b.state ≠ .running :=
  fun b hb e => by rw [h b hb] at e; cases e

theorem RoomMoves.keeps_exam {s t : State} (m : RoomMoves s t) :
    TableOrdered s.roomUse.bookings → s.roomUse.Exam → t.roomUse.Exam := by
  induction m with
  | same h => exact fun _ hs => h ▸ hs
  | trans m _ ih1 ih2 => exact fun ht hs => ih2 (m.keeps_table ht) (ih1 ht hs)
  | gap _ _ h | sessionOn _ _ h | sessionOff _ h => exact fun _ hs => h ▸ hs
  | shown h => exact fun _ hs => h ▸ hs.congr (actives_seenShown _) rfl
  | @lead s _ b hb h =>
    intro ht hs
    obtain ⟨rest, hbs, hp, hnew⟩ := lead_table ht hb
    have hold : s.roomUse.exam = none := hs.eq_none (not_running_of_pending (hbs ▸ hp : ∀ x ∈ s.bookings, x.state = .pending))
    rw [h]
    refine exam_of_none (fun x hx => ?_) hold
    have hx : x ∈ { b with state := .warming } :: rest := hnew ▸ hx
    rcases List.mem_cons.mp hx with rfl | hx
    · simp
    · exact not_running_of_pending (fun y hy => hp y (List.mem_cons_of_mem _ hy)) x hx
  | @start s _ b shown m hb h =>
    intro ht hs
    obtain ⟨rest, hbs, hw, hp, hnew⟩ := start_table shown ht hb
    have hnone : ∀ x ∈ s.bookings, x.state ≠ .running := by
      rw [hbs]
      intro x hx
      rcases List.mem_cons.mp hx with rfl | hx
      · simp [hw]
      · exact not_running_of_pending hp x hx
    have hold : s.holds[examSlot] = none := hs.eq_none hnone
    rw [h, hold]
    refine ⟨fun x hx hr hxe => ?_, fun k hk => ?_⟩
    · have hx : x ∈ { b with state := .running, shownSinceStart := shown } :: rest := hnew ▸ hx
      rcases List.mem_cons.mp hx with rfl | hx
      · exact if_pos hxe
      · exact absurd hr (not_running_of_pending hp x hx)
    · have hk : (if b.given.exam = true then some (examHold b) else none) = some k := hk
      split at hk
      · next he =>
        refine ⟨{ b with state := .running, shownSinceStart := shown }, ?_, rfl, he, (Option.some.inj hk).symm⟩
        exact hnew ▸ List.mem_cons_self
      · cases hk
  | @ended s _ b d hb hp h =>
    intro ht hs
    obtain ⟨honly, hrest⟩ := ended_table ht hb hp
    rw [h]
    refine exam_of_none (not_running_of_pending hrest) ?_
    show examAfterEnd b s.holds[examSlot] = none
    cases he : s.holds[examSlot] with
    | none => rfl
    | some k =>
      obtain ⟨x, hx, hr, -, rfl⟩ := hs.2 k he
      obtain rfl := honly x hx (by simp [hr])
      simp [examAfterEnd, examHoldOf, Option.filter]
  | departed b hd h => exact fun ht hs => h ▸ hs.congr (actives_tableWithout ht hd) rfl
  | book c g a _ _ _ _ h => exact fun _ hs => h ▸ hs.congr (actives_admittedTable c g a _) rfl
  | amend b g a hb hp _ _ h => exact fun ht hs => h ▸ hs.congr (actives_amendedTable a ht hb hp) rfl
  | extend b fin _ _ _ _ h => exact fun _ hs => h ▸ hs.congr (actives_extendedTable b fin _) rfl
  | @boot s clock records =>
    intro _ _
    obtain ⟨hp, hh, -⟩ := (boot_spec clock records s).1.idleRoom
    exact exam_of_none (not_running_of_pending hp) hh

/-- The active booking's tag, its demand and the started-at minute are those of the booking that is WARMING or RUNNING (R34,
R35). -/
def ViewRoomUse.Active (v : ViewRoomUse) : Prop :=
  (∀ b ∈ v.bookings, b.state ≠ .pending → v.active = some b.given.tag ∧ v.demand = demandFor b)
    ∧ (∀ tag, v.active = some tag → ∃ b ∈ v.bookings, b.given.tag = tag ∧ b.state ≠ .pending)
    ∧ (v.startedAt ≠ none ↔ ∃ b ∈ v.bookings, b.state = .running)

theorem ViewRoomUse.Active.congr {v w : ViewRoomUse} (h : v.Active) (ha : actives w.bookings = actives v.bookings)
    (h1 : w.active = v.active) (h2 : w.demand = v.demand) (h3 : w.startedAt = v.startedAt) : w.Active := by
  obtain ⟨hd, ht, hr⟩ := h
  refine ⟨fun b hb hs => ?_, fun tag hk => ?_, ?_⟩
  · obtain ⟨c, hc, hu⟩ := mem_of_actives_eq ha hb hs
    obtain ⟨k1, k2, -, -, k5⟩ := use_eq hu
    rw [h1, h2, ← k2, ← k5]
    exact hd c hc (k1 ▸ hs)
  · obtain ⟨b, hb, hbt, hs⟩ := ht tag (h1 ▸ hk)
    obtain ⟨c, hc, hu⟩ := mem_of_actives_eq ha.symm hb hs
    obtain ⟨k1, k2, -⟩ := use_eq hu
    exact ⟨c, hc, k2.trans hbt, k1 ▸ hs⟩
  · rw [h3, hr]
    constructor
    · rintro ⟨b, hb, hs⟩
      obtain ⟨c, hc, hu⟩ := mem_of_actives_eq ha.symm hb (by simp [hs])
      exact ⟨c, hc, (use_eq hu).1.trans hs⟩
    · rintro ⟨b, hb, hs⟩
      obtain ⟨c, hc, hu⟩ := mem_of_actives_eq ha hb (by simp [hs])
      exact ⟨c, hc, (use_eq hu).1.trans hs⟩

/-- A room whose bookings are all PENDING agrees with no active booking, whatever the demand is. -/
theorem active_of_pending {v : ViewRoomUse} (hp : ∀ b ∈ v.bookings, b.state = .pending) (h1 : v.active = none)
    (h2 : v.startedAt = none) : v.Active :=
  ⟨fun b hb hs => absurd (hp b hb) hs, fun tag hk => absurd (h1.symm.trans hk) (by simp),
    ⟨fun h => absurd h2 h, fun ⟨b, hb, hr⟩ => absurd hr (not_running_of_pending hp b hb)⟩⟩

theorem ViewRoomUse.Active.idle {v : ViewRoomUse} (h : v.Active) (hp : ∀ b ∈ v.bookings, b.state = .pending) :
    v.active = none ∧ v.startedAt = none := by
  obtain ⟨-, ht, hr⟩ := h
  refine ⟨?_, ?_⟩
  · cases ha : v.active with
    | none => rfl
    | some tag =>
      obtain ⟨b, hb, -, hs⟩ := ht tag ha
      exact absurd (hp b hb) hs
  · refine Decidable.byContradiction fun hn => ?_
    obtain ⟨b, hb, hs⟩ := hr.mp hn
    exact absurd hs (not_running_of_pending hp b hb)

/-- While all bookings are PENDING, a demand and a session agree as well as any other. -/
theorem ViewRoomUse.Active.of_pending {v w : ViewRoomUse} (h : v.Active) (hp : ∀ b ∈ v.bookings, b.state = .pending)
    (hb : w.bookings = v.bookings) (h1 : w.active = v.active) (h2 : w.startedAt = v.startedAt) : w.Active :=
  active_of_pending (hb ▸ hp) (h1.trans (h.idle hp).1) (h2.trans (h.idle hp).2)

theorem RoomMoves.keeps_active {s t : State} (m : RoomMoves s t) :
    TableOrdered s.roomUse.bookings → s.roomUse.Alone → s.roomUse.Active → t.roomUse.Active := by
  induction m with
  | same h => exact fun _ _ hs => h ▸ hs
  | trans m _ ih1 ih2 => exact fun ht ha hs => ih2 (m.keeps_table ht) (m.keeps_alone ha) (ih1 ht ha hs)
  | @gap s _ d hg h =>
    intro _ _ hs
    have hp : ∀ b ∈ s.bookings, b.state = .pending := by
      intro b hb
      refine Decidable.byContradiction fun hn => ?_
      have hd : s.sched.demand = demandFor b := (hs.1 b hb hn).2
      rw [hd] at hg
      cases hg
    exact h ▸ hs.of_pending hp rfl rfl rfl
  | sessionOn _ hn h => exact fun _ _ hs => h ▸ hs.of_pending (activeBooking_eq_none hn) rfl rfl rfl
  | sessionOff hon h => exact fun _ ha hs => h ▸ hs.of_pending (ha hon) rfl rfl rfl
  | shown h => exact fun _ _ hs => h ▸ hs.congr (actives_seenShown _) rfl rfl rfl
  | @lead s _ b hb h =>
    intro ht _ hs
    obtain ⟨rest, hbs, hp, hnew⟩ := lead_table ht hb
    have hrest : ∀ x ∈ rest, x.state = .pending := fun y hy => hp y (List.mem_cons_of_mem _ hy)
    have hstart : s.sched.startedAt = none := (hs.idle (hbs ▸ hp : ∀ x ∈ s.bookings, x.state = .pending)).2
    rw [h]
    refine ⟨fun x hx hn => ?_, fun tag hk => ?_, fun hn => absurd hstart hn, ?_⟩
    · have hx : x ∈ { b with state := .warming } :: rest := hnew ▸ hx
      rcases List.mem_cons.mp hx with rfl | hx
      · exact ⟨rfl, demandFor_eq b⟩
      · exact absurd (hrest x hx) hn
    · exact ⟨{ b with state := .warming }, hnew ▸ List.mem_cons_self, Option.some.inj hk, by simp⟩
    · rintro ⟨x, hx, hr⟩
      have hx : x ∈ { b with state := .warming } :: rest := hnew ▸ hx
      rcases List.mem_cons.mp hx with rfl | hx
      · cases hr
      · exact absurd hr (not_running_of_pending hrest x hx)
  | @start s _ b shown m hb h =>
    intro ht _ hs
    obtain ⟨rest, hbs, hw, hrest, hnew⟩ := start_table shown ht hb
    have hmem : b ∈ s.bookings := hbs ▸ List.mem_cons_self
    obtain ⟨hact, hdem⟩ := hs.1 b hmem (by simp [hw])
    have hfirst : { b with state := .running, shownSinceStart := shown } ∈
        updateBooking b.given.tag (fun x => { x with state := .running, shownSinceStart := shown }) s.bookings :=
      hnew ▸ List.mem_cons_self
    rw [h]
    refine ⟨fun x hx hn => ?_, fun tag hk => ?_, fun _ => ?_, fun _ => by simp⟩
    · have hx : x ∈ { b with state := .running, shownSinceStart := shown } :: rest := hnew ▸ hx
      rcases List.mem_cons.mp hx with rfl | hx
      · exact ⟨hact, hdem⟩
      · exact absurd (hrest x hx) hn
    · exact ⟨_, hfirst, Option.some.inj (hact.symm.trans hk), by simp⟩
    · exact ⟨_, hfirst, rfl⟩
  | @ended s _ b d hb hp h =>
    intro ht _ _
    rw [h]
    exact active_of_pending (ended_table ht hb hp).2 rfl rfl
  | departed b hd h => exact fun ht _ hs => h ▸ hs.congr (actives_tableWithout ht hd) rfl rfl rfl
  | book c g a _ _ _ _ h => exact fun _ _ hs => h ▸ hs.congr (actives_admittedTable c g a _) rfl rfl rfl
  | amend b g a hb hp _ _ h => exact fun ht _ hs => h ▸ hs.congr (actives_amendedTable a ht hb hp) rfl rfl rfl
  | extend b fin _ _ _ _ h => exact fun _ _ hs => h ▸ hs.congr (actives_extendedTable b fin _) rfl rfl rfl
  | @boot s clock records =>
    intro _ _ _
    obtain ⟨hp, -, hs⟩ := (boot_spec clock records s).1.idleRoom
    exact active_of_pending hp (congrArg Schedule.active hs) (congrArg Schedule.startedAt hs)

/-- Settles O58: the first booking alone can be active, and each arrival changes the session, the demand and the EXAM hold with
it. -/
theorem tableAndSessionKeepShape : Obligations.TableAndSessionKeepShape :=
  ⟨kept_of_roomMoves (fun _ _ h => h) (fun _ _ m h => m.keeps_table h),
    kept_of_roomMoves (fun _ _ h => h) (fun _ _ m h => m.keeps_alone h),
    kept_of_roomMoves (fun _ _ h => h) (fun _ _ m h => ⟨m.keeps_table h.1, m.keeps_exam h.1 h.2⟩),
    kept_of_roomMoves (fun _ _ h => h)
      (fun _ _ m ⟨ht, ha, hs⟩ => ⟨m.keeps_table ht, m.keeps_alone ha, m.keeps_active ht ha hs⟩)⟩

end Sys2Proof.Machine
end

section
/-! PROOF. The channel and the corners (`Obligations.ChannelAndCornersKeepShape`): within an event the channel keeps its state, its
flight and its timer, and the arbiter at its end empties the slots of a READY channel; a WARP message carries corners in the raster
from the computation to its delivery. -/

namespace Sys2Proof.Machine

/-! ## What a part of an event does to the channel and the corners -/

/-- The channel keeps all but its slots, and the corners stay in the raster. -/
structure ChannelMoves (s t : State) : Prop where
  engine : EngineMoves s.engine t.engine
  corners : CornersInRaster s → CornersInRaster t

theorem ChannelMoves.refl (s : State) : ChannelMoves s s := ⟨.refl _, id⟩

theorem ChannelMoves.trans {s t u : State} (h : ChannelMoves s t) (k : ChannelMoves t u) : ChannelMoves s u :=
  ⟨h.engine.trans k.engine, k.corners ∘ h.corners⟩

theorem Moves.channel {s t : State} (h : Moves s t) : ChannelMoves s t := ⟨h.engine, h.corners⟩

theorem ChannelMoves.of_same {s t : State} (he : t.engine = s.engine) (hg : t.geom = s.geom) : ChannelMoves s t := by
  refine ⟨he ▸ .refl _, ?_⟩
  unfold CornersInRaster; rw [he, hg]; exact id

theorem channel_setLamp (s : State) (p : Pos) (l : Lamp) : ChannelMoves s (s.setLamp p l) := by
  cases p <;> exact .of_same rfl rfl

theorem channel_raiseNotice (c : NoticeClass) (k : Nat) (a : BitVec 32) (s : State) : ChannelMoves s (raiseNotice c k a s) :=
  .of_same rfl rfl

theorem channel_markLampDirty (p : Pos) (s : State) : ChannelMoves s (markLampDirty p s) :=
  .of_same (by simp) (by simp)

theorem channel_cool (p : Pos) (n : Nat) (s : State) : ChannelMoves s (cool p n s) := by
  refine .of_same ?_ (by simp)
  unfold cool markIfLit; dsimp only
  split <;> simp

/-! ## The lamp machine's own changes -/

theorem channel_enterFailed (p : Pos) (s : State) : ChannelMoves s (enterFailed p s) :=
  (channel_setLamp s p _).trans ((channel_raiseNotice _ _ _ _).trans
    ((moves_gapExit p _).channel.trans (moves_usabilityChanged _).channel))

theorem channel_windowRunsOut (p : Pos) (s : State) : ChannelMoves s (windowRunsOut p s) := by
  have h : ∀ l, ChannelMoves s (offerLamp p .douse (markLampDirty p (s.setLamp p l))) := fun l =>
    (channel_setLamp s p l).trans ((channel_markLampDirty p _).trans (moves_offerLamp p _ _).channel)
  unfold windowRunsOut; dsimp only; split
  · exact (h _).trans ((channel_cool p _ _).trans ((channel_raiseNotice _ _ _ _).trans (moves_gapExit p _).channel))
  · exact (h _).trans (channel_enterFailed p _)

theorem channel_dropLamp (p : Pos) (s : State) : ChannelMoves s (dropLamp p s) := by
  have h : ∀ l, ChannelMoves s (markLampDirty p (s.setLamp p l)) := fun l =>
    (channel_setLamp s p l).trans (channel_markLampDirty p _)
  unfold dropLamp; dsimp only; split
  · exact (h _).trans ((channel_cool p _ _).trans ((channel_raiseNotice _ _ _ _).trans (moves_gapExit p _).channel))
  · exact (h _).trans (channel_enterFailed p _)

theorem channel_enterCold (p : Pos) (s : State) : ChannelMoves s (enterCold p s) :=
  (channel_setLamp s p _).trans (moves_strikeTest p _).channel

theorem channel_cooldownEnds (p : Pos) (s : State) : ChannelMoves s (cooldownEnds p s) := by
  unfold cooldownEnds; split
  · exact (channel_setLamp s p _).trans ((channel_raiseNotice _ _ _ _).trans (moves_usabilityChanged _).channel)
  · exact channel_enterCold p s

theorem channel_enterLit (p : Pos) (s : State) : ChannelMoves s (enterLit p s) :=
  (channel_setLamp s p _).trans ((channel_markLampDirty p _).trans
    ((channel_raiseNotice _ _ _ _).trans (moves_evalPower p _).channel))

theorem channel_strayLit (p : Pos) (s : State) : ChannelMoves s (strayLit p s) := by
  unfold strayLit; split
  · exact .refl s
  · exact (moves_offerLamp p _ s).channel.trans (channel_raiseNotice _ _ _ _)

theorem channel_lampReport (p : Pos) (lit : Bool) (s : State) : ChannelMoves s (lampReport p lit s) := by
  unfold lampReport; split
  · exact channel_enterLit p s
  · exact channel_dropLamp p s
  · exact .refl s
  · exact channel_strayLit p s
  · exact .refl s

theorem channel_machineSecond (p : Pos) (s : State) : ChannelMoves s (machineSecond p s) := by
  unfold machineSecond; dsimp only; split
  · split
    · exact .refl s
    · split
      · exact channel_windowRunsOut p s
      · exact channel_setLamp s p _
  · split
    · exact channel_cooldownEnds p s
    · exact channel_setLamp s p _
  · exact .of_same (by simp) (by simp)
  all_goals exact .refl s

theorem channel_litSecond (p : Pos) (s : State) : ChannelMoves s (litSecond p s) := by
  unfold litSecond; split
  · unfold countUnstored; split
    · exact (channel_setLamp s p _).trans (channel_markLampDirty p _)
    · exact (channel_setLamp s p _).trans (channel_setLamp _ p _)
  · exact .refl s

theorem channel_limitTest (p : Pos) (s : State) : ChannelMoves s (limitTest p s) := by
  have h : ChannelMoves s (warnTest p s) := .of_same (by simp) (by simp)
  unfold limitTest derateTest; dsimp only; split
  · split
    · exact h.trans ((channel_setLamp _ p _).trans ((channel_raiseNotice _ _ _ _).trans (moves_evalPower p _).channel))
    · exact h
  · exact .refl s

theorem channel_lampsSecond (s : State) : ChannelMoves s (lampsSecond s) :=
  (channel_litSecond .a s).trans ((channel_litSecond .b _).trans ((channel_limitTest .a _).trans
    ((channel_limitTest .b _).trans ((channel_machineSecond .a _).trans (channel_machineSecond .b _)))))

theorem channel_usabilityAfter (was : Bool) (p : Pos) (s : State) : ChannelMoves s (usabilityAfter was p s) := by
  unfold usabilityAfter; split
  · exact .refl s
  · exact (moves_usabilityChanged s).channel

/-! ## The end of an event -/

/-- What `ChannelShape` says but for the slots of a READY channel, which the event's end empties. -/
def Engine.FlightShape (e : Engine) : Prop :=
  (e.state = .sending → e.ackTimer = true ∧ e.inFlight ≠ none) ∧ (e.state ≠ .sending → e.ackTimer = false ∧ e.inFlight = none)
    ∧ (e.state = .fault → e.SlotsEmpty)

theorem ChannelShape.flight {s : State} (h : ChannelShape s) : s.engine.FlightShape := by
  unfold ChannelShape at h
  split at h
  · next hs => exact ⟨fun k => (by rw [hs] at k; cases k), fun _ => ⟨h.1, h.2.1⟩, fun k => (by rw [hs] at k; cases k)⟩
  · next hs => exact ⟨fun _ => h, fun k => absurd hs k, fun k => (by rw [hs] at k; cases k)⟩
  · next hs => exact ⟨fun k => (by rw [hs] at k; cases k), fun _ => ⟨h.1, h.2.1⟩, fun _ => h.2.2⟩

theorem Engine.FlightShape.moved {e f : Engine} (h : e.FlightShape) (m : EngineMoves e f) : f.FlightShape := by
  obtain ⟨hsend, hrest, hfault⟩ := h
  refine ⟨fun k => ?_, fun k => ?_, fun k => ?_⟩
  · rw [m.ackTimer, m.inFlight]; exact hsend (m.state ▸ k)
  · rw [m.ackTimer, m.inFlight]; exact hrest (m.state ▸ k)
  · have k := m.state ▸ k
    rw [m.fault k]; exact hfault k

/-- What the arbiter makes of a channel: it sends the first message, or there is none (R163). -/
theorem arbitrate_shape {e : Engine} (h : e.FlightShape) :
    (e.arbitrate.state = .sending ∧ e.arbitrate.ackTimer = true ∧ e.arbitrate.inFlight ≠ none)
    ∨ (e.arbitrate.state ≠ .sending ∧ e.arbitrate.ackTimer = false ∧ e.arbitrate.inFlight = none ∧ e.arbitrate.SlotsEmpty) := by
  obtain ⟨hsend, hrest, hfault⟩ := h
  unfold Engine.arbitrate
  split
  · next hr =>
    split
    · exact .inl ⟨rfl, rfl, by simp [Engine.send]⟩
    · exact .inl ⟨rfl, rfl, by simp [Engine.send]⟩
    · exact .inl ⟨rfl, rfl, by simp [Engine.send]⟩
    · exact .inl ⟨rfl, rfl, by simp [Engine.send]⟩
    · next h1 h2 h3 h4 =>
      obtain ⟨k1, k2⟩ := hrest (by simp [hr])
      exact .inr ⟨by simp [hr], k1, k2, h1, h2, h3, h4⟩
  · next hr =>
    cases hs : e.state with
    | ready => exact absurd hs hr
    | sending => exact .inl ⟨rfl, hsend hs⟩
    | fault =>
      obtain ⟨k1, k2⟩ := hrest (by simp [hs])
      exact .inr ⟨by simp, k1, k2, hfault hs⟩

theorem moves_evalGate (s : State) : Moves s (evalGate s) := by
  unfold evalGate; dsimp only; split
  · exact .refl s
  · exact (moves_setGate s _).trans (moves_offer (fun _ h => nomatch h))

theorem finish_engine (s : State) : (finish s).engine = (evalGate s).engine.arbitrate := by
  unfold finish; rw [startWrite_engine]; rfl

theorem finish_geom_eq (s : State) : (finish s).geom = s.geom := by simp

theorem finish_channelShape {s : State} (h : s.engine.FlightShape) : ChannelShape (finish s) := by
  have hg := arbitrate_shape (h.moved (moves_evalGate s).engine)
  rw [← finish_engine] at hg
  unfold ChannelShape
  rcases hg with ⟨hs, h1, h2⟩ | ⟨hs, h1, h2, h3⟩
  · rw [hs]; exact ⟨h1, h2⟩
  · cases he : (finish s).engine.state with
    | ready => exact ⟨h1, h2, h3⟩
    | sending => exact absurd he hs
    | fault => exact ⟨h1, h2, h3⟩

theorem arbitrate_warp (e : Engine) : (∀ w, e.arbitrate.warpSlot = some w → e.warpSlot = some w)
    ∧ ∀ w, e.arbitrate.inFlight = some (.warp w) → e.inFlight = some (.warp w) ∨ e.warpSlot = some w := by
  unfold Engine.arbitrate
  split
  · split
    · exact ⟨fun w h => h, fun w h => by cases h⟩
    · exact ⟨fun w h => h, fun w h => by cases h⟩
    · exact ⟨fun w h => h, fun w h => by cases h⟩
    · next hw =>
      refine ⟨fun w h => (by cases h), fun w h => ?_⟩
      cases h
      exact .inr hw
    · exact ⟨fun w h => h, fun w h => .inl h⟩
  · exact ⟨fun w h => h, fun w h => .inl h⟩

theorem finish_corners {s : State} (h : CornersInRaster s) : CornersInRaster (finish s) := by
  obtain ⟨h1, h2, h3, h4⟩ := (moves_evalGate s).corners h
  obtain ⟨k1, k2⟩ := arbitrate_warp (evalGate s).engine
  unfold CornersInRaster
  rw [finish_engine, finish_geom_eq, ← evalGate_geom]
  exact ⟨h1, h2, fun w hw => h3 w (k1 w hw), fun w hw => (k2 w hw).elim (h4 w) (h3 w)⟩

/-- The channel and the corners together, as every effect keeps them. -/
def ChannelKept (s t : State) : Prop := (ChannelShape s → ChannelShape t) ∧ (CornersInRaster s → CornersInRaster t)

theorem ChannelMoves.finished {s t : State} (h : ChannelMoves s t) : ChannelKept s (finish t) :=
  ⟨fun hs => finish_channelShape (hs.flight.moved h.engine), fun hc => finish_corners (h.corners hc)⟩

/-- An event whose first change of the channel is its own, and whose others are those of a part of an event. -/
theorem ChannelMoves.finished_after {s u t : State} (h : ChannelMoves u t)
    (hs : s.engine.FlightShape → u.engine.FlightShape) (hc : CornersInRaster s → CornersInRaster u) :
    ChannelKept s (finish t) :=
  ⟨fun k => finish_channelShape ((hs k.flight).moved h.engine), fun k => finish_corners (h.corners (hc k))⟩

theorem ChannelKept.of_same {s t : State} (he : t.engine = s.engine) (hg : t.geom = s.geom) : ChannelKept s t := by
  refine ⟨?_, ?_⟩
  · unfold ChannelShape; rw [he]; exact id
  · unfold CornersInRaster; rw [he, hg]; exact id

/-- An event whose parts move the lamps and the channel as `Moves` says, up to its end; or no event at all. -/
def EventMoves (s t : State) : Prop := t = s ∨ ∃ u, Moves s u ∧ t = finish u

theorem EventMoves.refl (s : State) : EventMoves s s := .inl rfl

theorem Moves.event {s t : State} (h : Moves s t) : EventMoves s (finish t) := .inr ⟨t, h, rfl⟩

theorem EventMoves.kept {s t : State} (h : EventMoves s t) : ChannelKept s t := by
  rcases h with rfl | ⟨u, h, rfl⟩
  · exact .of_same rfl rfl
  · exact h.channel.finished

/-! ## The events -/

theorem startSession_moves (s : State) : EventMoves s (startSession s) := by
  unfold startSession; split
  · exact .refl s
  · exact ((moves_setSched s _).trans (moves_writeDemand _ _)).event

theorem makeSelection_moves (sel : Selection) (s : State) : EventMoves s (makeSelection sel s) := by
  unfold makeSelection; split
  · exact .refl s
  · exact (moves_dealSelection sel s).event

theorem tableEventEnd_moves (s : State) : Moves s (reexamine (endGapIfDue s)) :=
  (moves_endGapIfDue s).trans (moves_reexamine _)

theorem admitBooking_moves (c : Class) (g : Given) (a : Admission) (s : State) : EventMoves s (admitBooking c g a s) :=
  ((moves_changeTable _ s).trans ((moves_testRisen s _).trans ((moves_markDirty _ _).trans
    (tableEventEnd_moves _)))).event

theorem amendPendingTable_moves (b : Booking) (g : Given) (a : Admission) (s : State) :
    EventMoves s (amendPendingTable b g a s) := by
  have h : ∀ bs, Moves s (testRisen s (changeTable bs s)) := fun bs => (moves_changeTable bs s).trans (moves_testRisen s _)
  unfold amendPendingTable; dsimp only; split
  · exact ((h _).trans (tableEventEnd_moves _)).event
  · exact ((h _).trans ((moves_markDirty _ _).trans (tableEventEnd_moves _))).event

theorem amendActiveTable_moves (b : Booking) (fin : Nat) (s : State) : EventMoves s (amendActiveTable b fin s) :=
  ((moves_changeTable _ s).trans ((moves_testRisen s _).trans (moves_markDirty _ _))).event

theorem fitLamp_channel (p : Pos) (serial rated : Nat) (s : State) : ChannelKept s (fitLamp p serial rated s) :=
  ((channel_setLamp s p _).trans ((channel_markLampDirty p _).trans ((channel_raiseNotice _ _ _ _).trans
    ((moves_strikeTest p _).channel.trans ((channel_usabilityAfter _ p _).trans (moves_evalPower p _).channel))))).finished

theorem removeLamp_channel (p : Pos) (s : State) : ChannelKept s (removeLamp p s) :=
  ((channel_setLamp s p _).trans ((channel_markLampDirty p _).trans ((channel_raiseNotice _ _ _ _).trans
    (channel_usabilityAfter _ p _)))).finished

theorem clearFailure_channel (p : Pos) (s : State) : ChannelKept s (clearFailure p s) := by
  have h : ∀ t, ChannelMoves s t → ChannelKept s (finish (usabilityAfter (s.lamp p).usable p (lampClearedNotice p t))) :=
    fun t ht => (ht.trans ((channel_raiseNotice _ _ _ _).trans (channel_usabilityAfter _ p _))).finished
  unfold clearFailure; dsimp only; split
  · exact h _ (channel_setLamp s p _)
  · exact h _ ((channel_setLamp s p _).trans (channel_enterCold p _))

theorem computeFor_moves (i : Input) (s : State) : Moves s (computeFor i s) := by
  unfold computeFor; split
  · exact moves_compute i s
  · exact .refl s

theorem writeProfile_moves (i : Input) (p : Profile) (s : State) : EventMoves s (writeProfile i p s) :=
  ((Moves.of_same rfl rfl rfl rfl rfl : Moves s (s.setProfiles (s.profiles.set i p))).trans
    ((moves_markDirty _ _).trans (computeFor_moves i _))).event

theorem writePreset_moves (n : PresetNo) (p : Preset) (s : State) : EventMoves s (writePreset n p s) := by
  have h : Moves s (markDirty (presetNo n) (s.setGeom { s.geom with presets := s.geom.presets.set n p })) :=
    (moves_setGeom (g := { s.geom with presets := s.geom.presets.set n p }) rfl (.inl rfl)).trans (moves_markDirty _ _)
  unfold writePreset; dsimp only; split
  · exact (h.trans (moves_computeTarget _)).event
  · exact h.event

theorem applyOverride_moves (p : Option PresetNo) (s : State) : EventMoves s (applyOverride p s) :=
  ((moves_setGeom (g := { s.geom with override := p }) rfl (.inl rfl)).trans (moves_computeIfChanged _ _)).event

theorem writeConfig_moves (cfg : ConfigRecord) (s : State) : EventMoves s (writeConfig cfg s) :=
  ((Moves.of_same rfl rfl rfl rfl rfl : Moves s (s.setConfig cfg)).trans (moves_markDirty _ _)).event

theorem startFlushWrite_same (s : State) : (startFlushWrite s).engine = s.engine ∧ (startFlushWrite s).geom = s.geom := by
  unfold startFlushWrite; split <;> exact ⟨rfl, rfl⟩

theorem writeEnds_channel (r : ReadBack) (w : Writing) (s : State) : ChannelKept s (writeEnds r w s) := by
  refine .of_same ?_ ?_ <;> (unfold writeEnds; dsimp only; split <;> simp <;> rfl)

theorem minuteHanded_moves (s : State) : EventMoves s (minuteHanded s) :=
  ((moves_scheduleCheck s).trans (moves_expireHolds _ _)).event

theorem secondHanded_channel (s : State) : ChannelKept s (secondHanded s) :=
  ((channel_lampsSecond s).trans ((moves_sourceSecond _).channel.trans (moves_sessionSecond _).channel)).finished

theorem statusTaken_channel (a b : Bool) (x : Thermal) (o : Bool) (s : State) : ChannelMoves s (statusTaken a b x o s) :=
  (moves_doorReport o s).channel.trans ((moves_thermalReport x _).channel.trans
    ((channel_lampReport .a a _).trans (channel_lampReport .b b _)))

theorem moves_recoveryHolds (x : Thermal) (o : Bool) (s : State) : Moves s (recoveryHolds x o s) :=
  (moves_takeThermal x s).trans ((moves_reportOnly _ _ _ _).trans ((moves_reportOnly _ _ _ _).trans (moves_strikeTests _)))

theorem moves_computeIfShown (s : State) : Moves s (computeIfShown s) := by
  unfold computeIfShown; split
  · split
    · exact moves_compute _ s
    · exact .refl s
  · exact .refl s

theorem moves_offerGate (s : State) : Moves s (offerGate s) := (moves_evalGate s).trans (moves_offer (fun _ h => nomatch h))

/-- The changes of a recovering STATUS REPORT after the channel is READY again (R167). -/
theorem recover_channel (a b : Bool) (x : Thermal) (o : Bool) (s : State) :
    ChannelMoves (s.setEngine { s.engine with state := .ready }) (recover a b x o s) := by
  refine .trans ((channel_lampReport .a a _).trans (channel_lampReport .b b _)) ?_
  refine .trans ((moves_recoveryHolds x o _).trans ((moves_computeIfShown _).trans (moves_offerGate _))).channel ?_
  exact channel_raiseNotice .engine 4 0 _

theorem recovery_channel (a b : Bool) (x : Thermal) (o : Bool) {s : State} (h : s.engine.state = .fault) :
    ChannelKept s (finish (recover a b x o s)) := by
  refine (recover_channel a b x o s).finished_after (fun ⟨_, hrest, _⟩ => ?_) (fun ⟨h1, h2, h3, h4⟩ => ⟨h1, h2, h3, h4⟩)
  exact ⟨fun k => (by cases k), fun _ => hrest (by simp [h]), fun k => (by cases k)⟩

theorem faulted_channel (s : State) : ChannelKept s (finish (channelFaults s)) := by
  have m : ChannelMoves (s.setEngine s.engine.faulted) (channelFaults s) :=
    (channel_raiseNotice _ _ _ _).trans ((moves_faultCoolAll _).channel.trans (moves_geometryFault _).channel)
  refine m.finished_after (fun _ => ?_) (fun ⟨h1, h2, _, _⟩ => ?_)
  · exact ⟨fun k => (by cases k), fun _ => ⟨rfl, rfl⟩, fun _ => ⟨rfl, rfl, rfl, rfl⟩⟩
  · exact ⟨h1, h2, fun w hw => (by cases hw), fun w hw => (by cases hw)⟩

/-- The delivery of a message whose corners are in the raster (R164). -/
theorem deliver_channel {m : Option OutMsg} {s : State} (h : ∀ w, m = some (.warp w) → w.corners.InRaster) :
    ChannelMoves s (deliver m s) := by
  unfold deliver; split
  · unfold strikeDelivered; split
    · exact channel_setLamp s _ _
    · exact .refl s
  · next w =>
    refine ⟨.refl _, fun ⟨h1, _, h3, h4⟩ => ⟨h1, fun c hc => ?_, h3, h4⟩⟩
    cases hc
    exact h w rfl
  all_goals exact .refl s

theorem delivered_channel (s : State) : ChannelKept s (finish (messageDelivered s)) := by
  have hm : (messageDelivered s).engine = { s.engine with inFlight := none, ackTimer := false, state := .ready } := by
    unfold messageDelivered deliver; split
    · unfold strikeDelivered; split <;> simp
    all_goals rfl
  refine (ChannelMoves.refl (messageDelivered s)).finished_after (fun _ => ?_) (fun ⟨h1, h2, h3, h4⟩ => ?_)
  · rw [hm]
    exact ⟨fun k => (by cases k), fun _ => ⟨rfl, rfl⟩, fun k => (by cases k)⟩
  · exact (deliver_channel h4).corners ⟨h1, h2, h3, fun w hw => (by cases hw)⟩

theorem setTime_moves (m sec : Nat) (s : State) : EventMoves s (setTime m sec s) := by
  have ht : Moves s (s.setClock { minute := m, second := sec, isSet := true }) := .of_same rfl rfl rfl rfl rfl
  exact (ht.trans (moves_scheduleCheck _)).event

theorem endStartUp_moves (s : State) : EventMoves s (endStartUp s) := by
  have h : Moves s (sampleFire s) := by
    unfold sampleFire; dsimp only; split
    · exact (moves_setFire s _).trans (moves_placeHold _ _ _)
    · exact moves_setFire s _
  have ht : Moves (sampleFire s) { sampleFire s with phase := .running, link := s.link.started, panel := none } :=
    .of_same rfl rfl rfl rfl rfl
  exact (h.trans (ht.trans (moves_scheduleCheck _))).event

theorem boot_channel (clock : Clock) (records : List StoredRecord) (s : State) : ChannelKept s (boot clock records s) := by
  obtain ⟨-, -, -, -, -, -, -, -, hw, ha, -, -, -, he, -⟩ := (boot_spec clock records s).1
  refine ⟨fun _ => ?_, fun _ => ?_⟩
  · unfold ChannelShape; rw [he]; exact ⟨rfl, rfl, rfl, rfl, rfl, rfl⟩
  · unfold CornersInRaster; rw [he, hw, ha]
    exact ⟨fun _ h => (by cases h), fun _ h => (by cases h), fun _ h => (by cases h), fun _ h => (by cases h)⟩

/-- Every effect keeps the channel's shape and the corners. -/
theorem Effect.keeps_channel {s t : State} (h : Effect s t) : ChannelKept s t := by
  induction h with
  | refl => exact .of_same rfl rfl
  | trans _ _ ih₁ ih₂ => exact ⟨ih₂.1 ∘ ih₁.1, ih₂.2 ∘ ih₁.2⟩
  | link | panel | notice | noticesRead | freeValue | clock | matrixLatch | fireLevel => exact .of_same rfl rfl
  | engineLatch => exact ⟨id, id⟩
  | lineEdge s => exact .of_same (by simp) (by simp)
  | flush s => exact .of_same (startFlushWrite_same _).1 (startFlushWrite_same _).2
  | writeEnd s r w => exact writeEnds_channel r w s
  | flushWriteEnd s r w => exact .of_same (startFlushWrite_same _).1 (startFlushWrite_same _).2
  | retry => exact .of_same (by simp) (by simp)
  | sessionOn s => exact (startSession_moves s).kept
  | select s sel => exact (makeSelection_moves sel s).kept
  | powerReset | restart => exact boot_channel _ _ _
  | book => exact (admitBooking_moves ..).kept
  | amend => exact (amendPendingTable_moves ..).kept
  | extend => exact (amendActiveTable_moves ..).kept
  | remove => exact ((moves_departBooking _ _).trans (tableEventEnd_moves _)).channel.finished
  | endNow => exact (moves_endByRequest _ _).channel.finished
  | time => exact (setTime_moves ..).kept
  | sessionOff => exact (moves_endSession _).channel.finished
  | fit => exact fitLamp_channel ..
  | unfit => exact removeLamp_channel ..
  | clear => exact clearFailure_channel ..
  | hold => exact ((moves_placeHold _ _ _).trans (moves_arrivalLifts _ _)).channel.finished
  | lift => exact (moves_liftHold _ _ _).channel.finished
  | profile => exact (writeProfile_moves ..).kept
  | preset => exact (writePreset_moves ..).kept
  | override => exact (applyOverride_moves ..).kept
  | mute => exact (moves_setGate _ _).channel.finished
  | config => exact (writeConfig_moves ..).kept
  | second => exact secondHanded_channel _
  | minute => exact (minuteHanded_moves _).kept
  | unstored => exact (channel_markLampDirty _ _).finished
  | continuous => exact (channel_setLamp _ _ _).finished
  | window => exact (channel_windowRunsOut _ _).finished
  | cooldown => exact (channel_cooldownEnds _ _).finished
  | unattended => exact (moves_unattendedEnds _).channel.finished
  | grace => exact (moves_graceRanOut _).channel.finished
  | takeTimeout => exact (moves_takeTimesOut _).channel.finished
  | settleTimeout => exact (moves_settleTimesOut _).channel.finished
  | loss => exact (moves_lossTimesOut _).channel.finished
  | frameEdge => exact (moves_frameEdgeTaken _ _).channel.finished
  | delivered => exact delivered_channel _
  | faulted => exact faulted_channel _
  | lampSense => exact (channel_lampReport _ _ _).finished
  | thermal => exact (moves_thermalReport _ _).channel.finished
  | door => exact (moves_doorReport _ _).channel.finished
  | status => exact (statusTaken_channel _ _ _ _ _).finished
  | recovery _ _ _ _ _ h => exact recovery_channel _ _ _ _ h
  | takeAck => exact (moves_takeAckTaken _ _).channel.finished
  | presence => exact (moves_presenceTaken _ _).channel.finished
  | fire => exact (moves_fireReport _ _).channel.finished
  | startUpEnd => exact (endStartUp_moves _).kept

/-- Settles O54: the channel's own events and the end of an event alone change its flight, and only a computation makes corners. -/
theorem channelAndCornersKeepShape : Obligations.ChannelAndCornersKeepShape :=
  ⟨kept_of_effects (fun _ _ h => h) (fun _ _ h => h.keeps_channel.1),
    kept_of_effects (fun _ _ h => h) (fun _ _ h => h.keeps_channel.2)⟩

end Sys2Proof.Machine
end

section
/-! PROOF. The switch machine (`Obligations.SwitchKeepsShape`): its items agree with its state after each of its own moves, and
every other operation leaves the machine alone. -/

namespace Sys2Proof.Machine

/-! ## The shape and what leaves it alone -/

/-- `SwitchShape` of a switch machine. -/
def Switch.Shape (x : Switch) : Prop :=
  (x.current = none ↔ x.state = .idle) ∧ (x.reachedBy = none ↔ x.current = none) ∧ (x.takeTimer = true ↔ x.state = .taking)
    ∧ (x.takeInFlight ≠ none ↔ x.state = .taking) ∧ (x.settleTimer = true ↔ x.state = .settling)
    ∧ (x.pendingSel ≠ none → x.state = .taking ∨ x.state = .settling) ∧ (x.grace ≠ none → x.state = .noSignal)

theorem switchShape_iff (s : State) : SwitchShape s ↔ s.switch.Shape := Iff.rfl

/-- An operation keeps the switch machine's shape. -/
def SwitchKept (s t : State) : Prop := s.switch.Shape → t.switch.Shape

theorem SwitchKept.refl (s : State) : SwitchKept s s := id

theorem SwitchKept.trans {s t u : State} (h : SwitchKept s t) (k : SwitchKept t u) : SwitchKept s u := k ∘ h

theorem switch_of_sources {s t : State} (h : t.sources = s.sources) : t.switch = s.switch := congrArg ViewSources.switch h

theorem SwitchKept.of_sources {s t : State} (h : t.sources = s.sources) : SwitchKept s t := by
  unfold SwitchKept; rw [switch_of_sources h]; exact id

theorem SwitchKept.of_switch {s t : State} (h : t.switch = s.switch) : SwitchKept s t := by
  unfold SwitchKept; rw [h]; exact id

theorem SwitchKept.finished {s t : State} (h : SwitchKept s t) : SwitchKept s (finish t) := h.trans (.of_sources (by simp))

/-! ## The machine's own moves -/

/-- The switch machine in TAKING (R123). -/
theorem takeSelection_shape (sel : Selection) (s : State) : (takeSelection sel s).switch.Shape := by
  simp [Switch.Shape, takeSelection]

theorem placePending_kept (sel : Selection) {s : State} (h : s.switch.state = .taking ∨ s.switch.state = .settling) :
    SwitchKept s (placePending sel s) := by
  have hs : (supersede s).switch = s.switch := switch_of_sources (by simp)
  rintro ⟨h1, h2, h3, h4, h5, -, h7⟩
  unfold placePending
  simp only [hs, State.setSwitch_switch]
  exact ⟨h1, h2, h3, h4, h5, fun _ => h, h7⟩

theorem dealSelection_kept (sel : Selection) (s : State) : SwitchKept s (dealSelection sel s) := by
  unfold dealSelection; split
  · split
    · exact .refl s
    · exact fun _ => takeSelection_shape sel s
  · exact fun _ => takeSelection_shape sel s
  · exact fun _ => takeSelection_shape sel s
  · next h => exact placePending_kept sel (.inl h)
  · next h => exact placePending_kept sel (.inr h)

theorem autoSelection_kept (i : Input) (k : SelKind) (s : State) : SwitchKept s (autoSelection i k s) := by
  unfold autoSelection; dsimp only; split
  · exact .of_switch rfl
  · exact dealSelection_kept _ s

theorem makeSelection_kept (sel : Selection) (s : State) : SwitchKept s (makeSelection sel s) := by
  unfold makeSelection; split
  · exact .refl s
  · exact (dealSelection_kept sel s).finished

/-- The exits of TAKING and SETTLING with the pending slot empty, and the taking of the pending selection (R125). -/
theorem examinePending_shape {exit : State → State} {s : State}
    (h : ∀ t : State, t.switch = { s.switch with pendingSel := none } → (exit t).switch.Shape) :
    (examinePending exit s).switch.Shape := by
  unfold examinePending; split
  · next hp => exact h s (by rw [← hp])
  · dsimp only; split
    · exact h _ rfl
    · exact takeSelection_shape _ _

theorem enterShown_switch (s : State) :
    (enterShown s).switch = { s.switch with state := .shown, grace := none, settleTimer := false } := by
  unfold enterShown; dsimp only; split
  · rw [switch_of_sources (scheduleSeesShown_sources _), switch_of_sources (geometrySeesShown_sources _ _)]; rfl
  · rw [switch_of_sources (scheduleSeesShown_sources _)]; rfl

/-- SHOWN from SETTLING or NO SIGNAL, with no selection pending (R130, R131). -/
theorem enterShown_shape {s : State} (h : s.switch.Shape) (hs : s.switch.state = .settling ∨ s.switch.state = .noSignal) {t : State}
    (ht : t.switch = { s.switch with pendingSel := none }) : (enterShown t).switch.Shape := by
  rw [enterShown_switch, ht]
  obtain ⟨h1, h2, h3, h4, h5, h6, h7⟩ := h
  rcases hs with hs | hs <;> simp_all [Switch.Shape]

theorem enterNoSignal_shape {s : State} (h : s.switch.Shape) (hs : s.switch.state = .settling ∨ s.switch.state = .shown) {t : State}
    (ht : t.switch = { s.switch with pendingSel := none }) : (enterNoSignal t).switch.Shape := by
  have he : (enterNoSignal t).switch = { t.switch with state := .noSignal, settleTimer := false, grace := some t.config.grace } := rfl
  rw [he, ht]
  obtain ⟨h1, h2, h3, h4, h5, h6, h7⟩ := h
  rcases hs with hs | hs <;> simp_all [Switch.Shape]

/-- Outside TAKING and SETTLING no selection is pending. -/
theorem Switch.Shape.pending_none {x : Switch} (h : x.Shape) (ht : x.state ≠ .taking) (hs : x.state ≠ .settling) :
    { x with pendingSel := none } = x := by
  have hn : x.pendingSel = none := by
    refine Decidable.byContradiction fun hp => ?_
    exact (h.2.2.2.2.2.1 hp).elim ht hs
  rw [← hn]

theorem stableReport_kept (s : State) : SwitchKept s (stableReport s) := by
  intro h
  unfold stableReport; split
  · next hs => exact examinePending_shape fun t ht => enterShown_shape h (.inl hs) ht
  · next hs => exact enterShown_shape h (.inr hs) (h.pending_none (by simp [hs]) (by simp [hs])).symm
  all_goals exact h

theorem lostReport_kept (s : State) : SwitchKept s (lostReport s) := by
  intro h
  unfold lostReport; split
  · next hs => exact enterNoSignal_shape h (.inr hs) (h.pending_none (by simp [hs]) (by simp [hs])).symm
  · exact h

theorem takeAckTaken_kept (i : Input) (s : State) : SwitchKept s (takeAckTaken i s) := by
  intro h
  unfold takeAckTaken; split
  · next hs =>
    refine examinePending_shape fun t ht => ?_
    have he : (enterSettling t).switch = { t.switch with state := .settling, settleTimer := true } := rfl
    rw [he, ht]
    obtain ⟨h1, h2, h3, h4, h5, h6, h7⟩ := h
    obtain ⟨hs, -⟩ := hs
    simp_all [Switch.Shape]
  · exact h

theorem takeTimesOut_kept {s : State} (hs : s.switch.state = .taking) : SwitchKept s (takeTimesOut s) := by
  rintro ⟨h1, h2, h3, h4, h5, h6, h7⟩
  simp_all [Switch.Shape, takeTimesOut]

theorem settleTimesOut_kept {s : State} (hs : s.switch.state = .settling) : SwitchKept s (settleTimesOut s) :=
  fun h => examinePending_shape fun _ ht => enterNoSignal_shape h (.inl hs) ht

theorem graceRanOut_kept (s : State) : SwitchKept s (graceRanOut s) := by
  have h : SwitchKept s (s.setSwitch { s.switch with grace := none }) :=
    fun ⟨h1, h2, h3, h4, h5, h6, _⟩ => ⟨h1, h2, h3, h4, h5, h6, fun k => absurd rfl k⟩
  unfold graceRanOut; dsimp only; split
  · exact h.trans (.of_switch rfl)
  · split
    · exact h.trans (.of_switch rfl)
    · exact h.trans ((dealSelection_kept _ _).trans (.of_switch rfl))

theorem sourceSecond_kept (s : State) : SwitchKept s (sourceSecond s) := by
  unfold sourceSecond; split
  · next hn =>
    split
    · exact .refl s
    · split
      · exact graceRanOut_kept s
      · exact fun ⟨h1, h2, h3, h4, h5, h6, _⟩ => ⟨h1, h2, h3, h4, h5, h6, fun _ => hn⟩
  · exact .refl s

theorem presenceTaken_kept (set : InputSet) (s : State) : SwitchKept s (presenceTaken set s) := by
  have h : SwitchKept s (s.setSwitch { s.switch with presence := set }) := fun k => k
  unfold presenceTaken; dsimp only; split
  · exact h.trans (autoSelection_kept _ _ _)
  · exact h

theorem stableTest_kept (s : State) : SwitchKept s (stableTest s) := by
  unfold stableTest; split
  · split
    · exact .trans (t := s.setMeter { s.meter with state := .locked }) (.of_switch rfl) (stableReport_kept _)
    · exact .refl s
  · exact .refl s

theorem meterLoss_kept (m : Meter) (s : State) : SwitchKept s (meterLoss m s) := by
  have h : SwitchKept s (s.setMeter { m with state := .seeking }) := .of_switch rfl
  unfold meterLoss; dsimp only; split
  · exact h.trans (lostReport_kept _)
  · exact h

theorem frameEdgeTaken_kept (time : Nat) (s : State) : SwitchKept s (frameEdgeTaken time s) := by
  have h : ∀ m, SwitchKept s (stableTest (s.setMeter m)) := fun m =>
    .trans (t := s.setMeter m) (.of_switch rfl) (stableTest_kept _)
  unfold frameEdgeTaken; dsimp only; split
  · exact .refl s
  all_goals
    split
    · exact .of_switch rfl
    · split
      · exact h _
      · exact meterLoss_kept _ s

/-! ## The schedule check -/

theorem leadArrival_kept (before : Option PresetNo) (b : Booking) (s : State) : SwitchKept s (leadArrival before b s) := by
  have h : SwitchKept s (computeIfChanged before (leadWarm b s)) := .of_sources (by simp)
  unfold leadArrival openingSelection; split
  · exact h.trans (autoSelection_kept _ _ _)
  · exact h

theorem leadAndStart_kept (before : Option PresetNo) (s : State) : SwitchKept s (leadAndStart before s) := by
  unfold leadAndStart; split
  · exact (leadArrival_kept before _ s).trans (.of_sources (startPhase_sources _))
  · exact .of_sources (by simp)

theorem noShowPhase_kept (s : State) : SwitchKept s (noShowPhase s) := by
  unfold noShowPhase; split
  · exact .trans (t := noShowRelease _ s) (.of_sources (by simp)) (leadAndStart_kept _ _)
  · exact .refl s

theorem scheduleCheckFrom_kept (before : Option PresetNo) (s : State) : SwitchKept s (scheduleCheckFrom before s) := by
  unfold scheduleCheckFrom; split
  · exact .trans (t := missedPhase (endPhase s)) (.of_sources (by simp))
      ((leadAndStart_kept before _).trans (noShowPhase_kept _))
  · exact .refl s

theorem scheduleCheck_kept (s : State) : SwitchKept s (scheduleCheck s) := scheduleCheckFrom_kept _ s

theorem reexamine_kept (s : State) : SwitchKept s (reexamine s) := by
  unfold reexamine; split
  · split
    · exact scheduleCheck_kept s
    · exact .refl s
  · exact .refl s

theorem endByRequest_kept (b : Booking) (s : State) : SwitchKept s (endByRequest b s) := by
  have h : SwitchKept s (endArrival b s) := .of_sources (by simp)
  unfold endByRequest; dsimp only; split
  · exact h.trans (scheduleCheckFrom_kept _ _)
  · exact h.trans (.of_sources (by simp))

/-- A change of the table, and what follows it. -/
theorem tableEvent_kept {s t : State} (h : t.sources = s.sources) : SwitchKept s (finish (reexamine (endGapIfDue t))) :=
  .finished (.trans (.of_sources h) (.trans (.of_sources (by simp)) (reexamine_kept _)))

/-! ## Every effect, and every step -/

theorem amendPendingTable_kept (b : Booking) (g : Given) (a : Admission) (s : State) :
    SwitchKept s (amendPendingTable b g a s) := by
  unfold amendPendingTable; dsimp only; split <;> exact tableEvent_kept (by simp)

theorem recover_sources (a b : Bool) (x : Thermal) (o : Bool) (s : State) : (recover a b x o s).sources = s.sources := by
  have hc : ∀ t, (computeIfShown t).sources = t.sources := by
    intro t; unfold computeIfShown; split
    · split <;> simp
    · rfl
  have hg : ∀ t, (offerGate t).sources = t.sources := fun t => by simp [offerGate]
  simp [recover, hc, hg, recoveryHolds]

theorem messageDelivered_sources (s : State) : (messageDelivered s).sources = s.sources := by
  unfold messageDelivered deliver; split
  · unfold strikeDelivered; split <;> simp
  all_goals simp

theorem startFlushWrite_sources (s : State) : (startFlushWrite s).sources = s.sources := by
  unfold startFlushWrite; split <;> rfl

theorem sampleFire_sources (s : State) : (sampleFire s).sources = s.sources := by
  unfold sampleFire; dsimp only; split <;> simp

/-- At the start of start-up the switch machine has its reset values (R121). -/
theorem boot_switch (clock : Clock) (records : List StoredRecord) (s : State) : (boot clock records s).switch = Switch.reset := by
  obtain ⟨-, -, -, -, -, h, -⟩ := (boot_spec clock records s).1
  exact h

theorem reset_shape : Switch.reset.Shape := by simp [Switch.Shape, Switch.reset]

theorem computeFor_sources (i : Input) (s : State) : (computeFor i s).sources = s.sources := by
  unfold computeFor; split <;> simp

theorem writeProfile_kept (i : Input) (p : Profile) (s : State) : SwitchKept s (writeProfile i p s) := by
  refine .finished (.of_switch ?_)
  rw [switch_of_sources (computeFor_sources _ _), switch_of_sources (markDirty_sources _ _)]
  rfl

theorem startSession_kept (s : State) : SwitchKept s (startSession s) := by
  unfold startSession; split
  · exact .refl s
  · exact .finished (.of_sources (by simp))

theorem writePreset_kept (n : PresetNo) (p : Preset) (s : State) : SwitchKept s (writePreset n p s) := by
  unfold writePreset; dsimp only; split <;> exact .finished (.of_sources (by simp))

theorem clearFailure_kept (p : Pos) (s : State) : SwitchKept s (clearFailure p s) := by
  have hu : ∀ was t, (usabilityAfter was p t).sources = t.sources := by
    intro was t; unfold usabilityAfter; split <;> simp
  unfold clearFailure; dsimp only; split <;> exact .finished (.of_sources (by simp [hu]))

theorem usabilityAfter_sources (was : Bool) (p : Pos) (s : State) : (usabilityAfter was p s).sources = s.sources := by
  unfold usabilityAfter; split <;> simp

theorem writeEnds_sources (r : ReadBack) (w : Writing) (s : State) : (writeEnds r w s).sources = s.sources := by
  unfold writeEnds; dsimp only; split <;> (rw [startWrite_sources]; rfl)

/-- Every effect keeps the switch machine's shape. -/
theorem Effect.keeps_switch {s t : State} (h : Effect s t) : SwitchKept s t := by
  induction h with
  | refl s => exact .refl s
  | trans _ _ ih₁ ih₂ => exact ih₁.trans ih₂
  | link | panel | notice | noticesRead | freeValue | clock | engineLatch | fireLevel => exact .of_switch rfl
  | matrixLatch s m => exact fun k => k
  | lineEdge s => exact .of_switch (by unfold lineEdgeTaken; split <;> rfl)
  | flush s => exact .of_sources (startFlushWrite_sources _)
  | writeEnd s r w => exact .of_sources (writeEnds_sources r w s)
  | flushWriteEnd s r w => exact .of_sources (startFlushWrite_sources _)
  | retry => exact .of_sources (by simp)
  | powerReset | restart => exact fun _ => (boot_switch _ _ _).symm ▸ reset_shape
  | sessionOn s => exact startSession_kept s
  | select s sel => exact makeSelection_kept sel s
  | book | remove => exact tableEvent_kept (by simp)
  | amend => exact amendPendingTable_kept _ _ _ _
  | extend => exact .finished (.of_sources (by simp))
  | endNow => exact (endByRequest_kept _ _).finished
  | time s m sec =>
    exact .finished (.trans (t := s.setClock { minute := m, second := sec, isSet := true }) (.of_switch rfl)
      (scheduleCheck_kept _))
  | sessionOff | unattended => exact .finished (.of_sources (by simp))
  | fit | unfit => exact .finished (.of_sources (by simp [usabilityAfter_sources]))
  | clear => exact clearFailure_kept _ _
  | hold | lift | thermal | door | fire => exact .finished (.of_sources (by simp))
  | profile => exact writeProfile_kept _ _ _
  | preset => exact writePreset_kept _ _ _
  | override | mute | config => exact .finished (.of_sources (by simp))
  | unstored | continuous | window | cooldown | lampSense => exact .finished (.of_sources (by simp))
  | second s =>
    exact .finished (.trans (t := lampsSecond s) (.of_sources (by simp))
      ((sourceSecond_kept _).trans (.of_sources (by simp))))
  | minute s => exact .finished ((scheduleCheck_kept s).trans (.of_sources (by simp)))
  | grace => exact (graceRanOut_kept _).finished
  | takeTimeout s h => exact (takeTimesOut_kept (by simp [takeTimerDue] at h; exact h.1)).finished
  | settleTimeout s h => exact (settleTimesOut_kept (by simp [settleTimerDue] at h; exact h.1)).finished
  | loss => exact (meterLoss_kept _ _).finished
  | frameEdge => exact (frameEdgeTaken_kept _ _).finished
  | delivered => exact .finished (.of_sources (messageDelivered_sources _))
  | faulted => exact .finished (.of_sources (by simp [channelFaults]))
  | status => exact .finished (.of_sources (by simp [statusTaken]))
  | recovery => exact .finished (.of_sources (recover_sources ..))
  | takeAck => exact (takeAckTaken_kept _ _).finished
  | presence => exact (presenceTaken_kept _ _).finished
  | startUpEnd s =>
    have h : SwitchKept s { sampleFire s with phase := .running, link := s.link.started, panel := none } :=
      .of_switch (switch_of_sources (sampleFire_sources s))
    exact (h.trans (scheduleCheck_kept _)).finished

/-- Settles O55: the machine's own moves keep the shape, and every other effect leaves the machine alone. -/
theorem switchKeepsShape : Obligations.SwitchKeepsShape :=
  kept_of_effects (fun _ _ h => h) (fun _ _ h => h.keeps_switch)

end Sys2Proof.Machine
end

section
/-! PROOF. One pass over every operation, for any property that a short list of parts keeps: `PartsKeep ok K` says that `K` reads
the holds, which lamps burn, whether the channel is in FAULT, the store and the bookings' slots, and that it survives each way in
which an operation changes them; `PartsKeep.effect` says that then every effect keeps `K`. -/

namespace Sys2Proof.Machine

/-! ## The parts -/

/-- The holds, the lamps' states, whether the channel is in FAULT, the store and the bookings' slots. -/
structure ViewParts where
  holds : Vector (Option Hold) 16
  stateA : LampState
  stateB : LampState
  fault : Bool
  store : Store
  slots : List Nat

/-- The holds, the lamps' states, whether the channel is in FAULT, the store and the bookings' slots. -/
def State.parts (s : State) : ViewParts :=
  { holds := s.holds, stateA := s.lampA.state, stateB := s.lampB.state, fault := s.engine.state == .fault, store := s.store,
    slots := s.bookings.map (·.slot) }

/-- A FIRE, DOOR or THERMAL hold, in its slot. -/
def SystemPlace (i : Fin 16) (h : Hold) : Prop :=
  (i = fireSlot ∧ h = fireHold) ∨ (i = doorSlot ∧ h = lampHold .door) ∨ (i = thermalSlot ∧ h = lampHold .thermal)

/-- `K` reads the parts alone and survives each of their changes; `ok` names the records that may be marked dirty. -/
structure PartsKeep (ok : Nat → Prop) (K : State → Prop) : Prop where
  same : ∀ {s t : State}, t.parts = s.parts → K s → K t
  numbers : ∀ n, n < 19 → ok n
  slots : ∀ {s : State}, K s → ∀ b ∈ s.bookings, ok (slotNo b.slot)
  newSlot : ∀ {s : State}, K s → s.bookings.length < 48 → ok (slotNo (freeSlot s.bookings))
  table : ∀ {s : State} (bs : List Booking), (∀ b ∈ bs, ok (slotNo b.slot)) → K s → K (s.setTable bs)
  lamp : ∀ {s : State} (p : Pos) (l : Lamp), (l.burning = true → (s.lamp p).burning = true ∨ mayStrike p s = true) → K s →
    K (s.setLamp p l)
  mark : ∀ {s : State} (n : Nat), ok n → K s → K (markDirty n s)
  clear : ∀ {s : State} (i : Fin 16), K s → K (clearSlot i s)
  exam : ∀ {s : State} (b : Booking), K s → K (s.setHolds (s.holds.set examSlot (some (examHold b))))
  requested : ∀ {s : State} {slot : Fin 16} {c : Class} {r : HoldRaw} {h : Hold}, atLeast c .control = true →
    requestedHoldOf c r = some h → freeRequestedSlot s = some slot → requestedHoldAt r.tag.toNat s = none → K s →
    K (s.setHolds (s.holds.set slot (some h)))
  system : ∀ {s t : State} {i : Fin 16} {h : Hold}, SystemPlace i h →
    t.parts = { s.parts with holds := s.holds.set i (some h) } → K s → K (holdDouse .b (holdDouse .a t))
  faulted : ∀ {s t : State}, t.parts = { s.parts with fault := true } → K s → K (faultCool .b (faultCool .a t))
  ready : ∀ {s : State}, K s → K (s.setEngine { s.engine with state := .ready })
  write : ∀ {s : State}, K s → K (startWrite s)
  flushWrite : ∀ {s : State}, K s → K (startFlushWrite s)
  wrote : ∀ {s : State} (r : ReadBack) (w : Writing), s.store.writing = some w → K s → K (endWrite r w s)
  failed : ∀ {s : State} (r : ReadBack) (w : Writing), s.store.writing = some w → K s →
    K (queueRetry w.number (endWrite r w s))
  retry : ∀ {s : State} (n : Nat), K s → K (s.setStore { s.store with waiting := s.store.waiting.erase n })
  started : ∀ {s t : State} (clock : Clock) (records : List StoredRecord), records.length = s.store.records.length → K s →
    K (boot clock records t)

theorem parts_eq {s t : State} (hh : t.holds = s.holds) (hA : t.lampA.state = s.lampA.state) (hB : t.lampB.state = s.lampB.state)
    (he : t.engine.state = s.engine.state) (hs : t.store = s.store) (hb : t.bookings = s.bookings) : t.parts = s.parts := by
  simp only [State.parts, hh, hA, hB, he, hs, hb]

theorem bookings_of_table {s t : State} (h : t.table = s.table) : t.bookings = s.bookings := congrArg ViewTable.bookings h

theorem parts_setLamp {s : State} {p : Pos} {l : Lamp} (h : l.state = (s.lamp p).state) : (s.setLamp p l).parts = s.parts := by
  cases p <;> simp only [State.parts, State.setLamp] <;> simp only [State.lamp] at h <;> rw [h]

theorem parts_offer (m : OutMsg) (s : State) : (offer m s).parts = s.parts :=
  parts_eq rfl rfl rfl (offer_engine_state m s) rfl rfl

theorem slotNo_lampNo (p : Pos) : lampNo p < 19 := by cases p <;> decide

variable {ok : Nat → Prop} {K : State → Prop}

/-- An operation that changes none of the parts. -/
theorem PartsKeep.also (k : PartsKeep ok K) {s t : State} (h : K s) (e : t.parts = s.parts) : K t := k.same e h

/-! ## The lamp unit -/

theorem PartsKeep.offerLamp (k : PartsKeep ok K) (p : Pos) (m : LampMsg) {s : State} (h : K s) : K (offerLamp p m s) :=
  k.same (parts_offer _ s) h

theorem PartsKeep.notice (k : PartsKeep ok K) (c : NoticeClass) (n : Nat) (a : BitVec 32) {s : State} (h : K s) :
    K (raiseNotice c n a s) := k.also h rfl

/-- A lamp that keeps its state. -/
theorem PartsKeep.steady (k : PartsKeep ok K) {p : Pos} {l : Lamp} {s : State} (hl : l.state = (s.lamp p).state) (h : K s) :
    K (s.setLamp p l) := k.same (parts_setLamp hl) h

/-- A lamp that does not burn. -/
theorem PartsKeep.dark (k : PartsKeep ok K) {p : Pos} {l : Lamp} {s : State} (hl : l.burning = false) (h : K s) :
    K (s.setLamp p l) := k.lamp p l (fun hb => by rw [hl] at hb; cases hb) h

theorem PartsKeep.markLamp (k : PartsKeep ok K) (p : Pos) {s : State} (h : K s) : K (markLampDirty p s) := by
  unfold markLampDirty
  exact k.steady (by rw [markDirty_lamp]) (k.mark _ (k.numbers _ (slotNo_lampNo p)) h)

theorem mayStrike_offerLamp (p q : Pos) (m : LampMsg) (s : State) : mayStrike p (Machine.offerLamp q m s) = mayStrike p s := by
  simp [mayStrike, State.strikeHeld, Machine.offerLamp]

theorem PartsKeep.strikeTest (k : PartsKeep ok K) (p : Pos) {s : State} (h : K s) : K (strikeTest p s) := by
  unfold Machine.strikeTest; split
  · next hm => exact k.lamp p _ (fun _ => .inr ((mayStrike_offerLamp p p _ s).trans hm)) (k.offerLamp p _ h)
  · exact h

theorem PartsKeep.strikeTests (k : PartsKeep ok K) {s : State} (h : K s) : K (strikeTests s) :=
  k.strikeTest .b (k.strikeTest .a h)

theorem PartsKeep.evalPower (k : PartsKeep ok K) (p : Pos) {s : State} (h : K s) : K (evalPower p s) := by
  unfold Machine.evalPower; dsimp only
  split; · exact h
  split
  · exact k.steady rfl (k.offerLamp p _ h)
  · split
    · exact k.steady rfl (k.offerLamp p _ h)
    · exact h
  all_goals exact h

theorem PartsKeep.evalPowers (k : PartsKeep ok K) {s : State} (h : K s) : K (evalPowers s) :=
  k.evalPower .b (k.evalPower .a h)

theorem PartsKeep.cool (k : PartsKeep ok K) (p : Pos) (n : Nat) {s : State} (h : K s) : K (cool p n s) := by
  have hm : K (markIfLit p s) := by
    unfold markIfLit; split
    · exact k.markLamp p h
    · exact h
  exact k.dark rfl hm

theorem PartsKeep.douseUnwanted (k : PartsKeep ok K) (p : Pos) {s : State} (h : K s) : K (douseUnwanted p s) := by
  unfold Machine.douseUnwanted; split
  · exact k.cool p _ (k.offerLamp p _ h)
  · exact k.cool p _ (k.offerLamp p _ h)
  all_goals exact h

theorem PartsKeep.setWanted (k : PartsKeep ok K) (eff : LampSet) (p : Pos) {s : State} (h : K s) : K (setWanted eff p s) := by
  unfold Machine.setWanted; dsimp only; split
  · exact k.douseUnwanted p (k.steady rfl h)
  · exact k.steady rfl h

theorem PartsKeep.pursue (k : PartsKeep ok K) (eff : LampSet) {s : State} (h : K s) : K (pursue eff s) :=
  k.strikeTests (k.evalPowers (k.setWanted eff .b (k.setWanted eff .a h)))

theorem PartsKeep.writeDemand (k : PartsKeep ok K) (d : Demand) {s : State} (h : K s) : K (writeDemand d s) := by
  have hs : K (s.setSched { s.sched with demand := d }) := k.also h rfl
  unfold Machine.writeDemand; dsimp only; split
  · exact k.notice _ _ _ (k.pursue _ hs)
  · exact k.pursue _ hs

theorem PartsKeep.usabilityChanged (k : PartsKeep ok K) {s : State} (h : K s) : K (usabilityChanged s) := by
  unfold Machine.usabilityChanged; dsimp only; split
  · split
    · exact h
    · split
      · exact k.notice _ _ _ (k.pursue _ h)
      · exact k.pursue _ h
  · exact h

theorem PartsKeep.gapExit (k : PartsKeep ok K) (p : Pos) {s : State} (h : K s) : K (gapExit p s) := by
  unfold Machine.gapExit; dsimp only; split
  · split <;> exact k.writeDemand _ h
  · exact h

theorem PartsKeep.gapExits (k : PartsKeep ok K) (a b : Bool) {s : State} (h : K s) : K (gapExits a b s) := by
  have ha : K (if a then Machine.gapExit .a s else s) := by
    split
    · exact k.gapExit .a h
    · exact h
  unfold Machine.gapExits; dsimp only; split
  · exact k.gapExit .b ha
  · exact ha

theorem PartsKeep.takeThermal (k : PartsKeep ok K) (x : Thermal) {s : State} (h : K s) : K (takeThermal x s) :=
  k.evalPowers (k.also h rfl)

theorem PartsKeep.enterFailed (k : PartsKeep ok K) (p : Pos) {s : State} (h : K s) : K (enterFailed p s) :=
  k.usabilityChanged (k.gapExit p (k.notice _ _ _ (k.dark rfl h)))

theorem PartsKeep.windowRunsOut (k : PartsKeep ok K) (p : Pos) {s : State} (h : K s) : K (windowRunsOut p s) := by
  unfold Machine.windowRunsOut; dsimp only; split
  · exact k.gapExit p (k.notice _ _ _ (k.cool p _ (k.offerLamp p _ (k.markLamp p (k.steady rfl h)))))
  · exact k.enterFailed p (k.offerLamp p _ (k.markLamp p (k.steady rfl h)))

theorem PartsKeep.dropLamp (k : PartsKeep ok K) (p : Pos) {s : State} (h : K s) : K (dropLamp p s) := by
  unfold Machine.dropLamp; dsimp only; split
  · exact k.gapExit p (k.notice _ _ _ (k.cool p _ (k.markLamp p (k.steady rfl h))))
  · exact k.enterFailed p (k.markLamp p (k.steady rfl h))

theorem PartsKeep.enterCold (k : PartsKeep ok K) (p : Pos) {s : State} (h : K s) : K (enterCold p s) :=
  k.strikeTest p (k.dark rfl h)

theorem PartsKeep.cooldownEnds (k : PartsKeep ok K) (p : Pos) {s : State} (h : K s) : K (cooldownEnds p s) := by
  unfold Machine.cooldownEnds; split
  · exact k.usabilityChanged (k.notice _ _ _ (k.dark rfl h))
  · exact k.enterCold p h

theorem PartsKeep.enterLit (k : PartsKeep ok K) {p : Pos} {s : State} (hs : (s.lamp p).state = .striking) (h : K s) :
    K (enterLit p s) := by
  have hb : (s.lamp p).burning = true := by simp [Lamp.burning, hs]
  exact k.evalPower p (k.notice _ _ _ (k.markLamp p (k.lamp p _ (fun _ => .inl hb) h)))

theorem PartsKeep.lampReport (k : PartsKeep ok K) (p : Pos) (lit : Bool) {s : State} (h : K s) : K (lampReport p lit s) := by
  unfold Machine.lampReport; split
  · next hs => exact k.enterLit hs h
  · exact k.dropLamp p h
  · exact h
  · unfold strayLit; split
    · exact h
    · exact k.notice _ _ _ (k.offerLamp p _ h)
  · exact h

theorem PartsKeep.continuousReaches600 (k : PartsKeep ok K) (p : Pos) {s : State} (h : K s) : K (continuousReaches600 p s) :=
  k.steady rfl h

theorem PartsKeep.machineSecond (k : PartsKeep ok K) (p : Pos) {s : State} (h : K s) : K (machineSecond p s) := by
  unfold Machine.machineSecond; dsimp only; split
  · split
    · exact h
    · split
      · exact k.windowRunsOut p h
      · exact k.steady rfl h
  · split
    · exact k.cooldownEnds p h
    · exact k.steady rfl h
  · unfold countContinuous; dsimp only; split
    · exact h
    · split
      · exact k.continuousReaches600 p h
      · exact k.steady rfl h
  all_goals exact h

theorem PartsKeep.litSecond (k : PartsKeep ok K) (p : Pos) {s : State} (h : K s) : K (litSecond p s) := by
  have ha : K (accrue p s) := k.steady rfl h
  unfold Machine.litSecond; split
  · unfold countUnstored; split
    · exact k.markLamp p ha
    · exact k.steady rfl ha
  · exact h

theorem PartsKeep.limitTest (k : PartsKeep ok K) (p : Pos) {s : State} (h : K s) : K (limitTest p s) := by
  have hw : K (warnTest p s) := by
    unfold warnTest; dsimp only; split
    · exact k.notice _ _ _ (k.steady rfl h)
    · exact h
  unfold Machine.limitTest; split
  · unfold derateTest; dsimp only; split
    · exact k.evalPower p (k.notice _ _ _ (k.steady rfl hw))
    · exact hw
  · exact h

theorem PartsKeep.lampsSecond (k : PartsKeep ok K) {s : State} (h : K s) : K (lampsSecond s) :=
  k.machineSecond .b (k.machineSecond .a (k.limitTest .b (k.limitTest .a (k.litSecond .b (k.litSecond .a h)))))

/-! ## The hold table -/

theorem SystemPlace.douses {i : Fin 16} {h : Hold} (hp : SystemPlace i h) : h.kind.douses = true := by
  rcases hp with ⟨-, rfl⟩ | ⟨-, rfl⟩ | ⟨-, rfl⟩ <;> rfl

theorem PartsKeep.placeSystem (k : PartsKeep ok K) {i : Fin 16} {x : Hold} (hp : SystemPlace i x) {s : State} (h : K s) :
    K (placeHold i x s) := by
  unfold placeHold; dsimp only
  rw [if_pos hp.douses]
  exact k.gapExits _ _ (k.system hp (s := s) rfl h)

theorem PartsKeep.liftOnly (k : PartsKeep ok K) (i : Fin 16) (x : Hold) {s : State} (h : K s) : K (liftOnly i x s) :=
  k.notice _ _ _ (k.clear i h)

theorem PartsKeep.liftHold (k : PartsKeep ok K) (i : Fin 16) (x : Hold) {s : State} (h : K s) : K (liftHold i x s) := by
  unfold Machine.liftHold afterLift; split
  · exact k.strikeTests (k.liftOnly i x h)
  · exact k.liftOnly i x h

theorem PartsKeep.reportOnly (k : PartsKeep ok K) {i : Fin 16} {x : Hold} (hp : SystemPlace i x) (r : Bool) {s : State}
    (h : K s) : K (reportOnly i x r s) := by
  unfold Machine.reportOnly; split
  · exact k.placeSystem hp h
  · exact k.liftOnly i _ h
  all_goals exact h

theorem PartsKeep.reportHold (k : PartsKeep ok K) {i : Fin 16} {x : Hold} (hp : SystemPlace i x) (r : Bool) {s : State}
    (h : K s) : K (reportHold i x r s) := by
  unfold Machine.reportHold; split
  · exact k.strikeTests (k.reportOnly hp r h)
  · exact k.reportOnly hp r h

theorem systemPlace_fire : SystemPlace fireSlot fireHold := .inl ⟨rfl, rfl⟩
theorem systemPlace_door : SystemPlace doorSlot (lampHold .door) := .inr (.inl ⟨rfl, rfl⟩)
theorem systemPlace_thermal : SystemPlace thermalSlot (lampHold .thermal) := .inr (.inr ⟨rfl, rfl⟩)

theorem PartsKeep.doorReport (k : PartsKeep ok K) (o : Bool) {s : State} (h : K s) : K (doorReport o s) :=
  k.reportHold systemPlace_door o h

theorem PartsKeep.thermalReport (k : PartsKeep ok K) (x : Thermal) {s : State} (h : K s) : K (thermalReport x s) :=
  k.reportHold systemPlace_thermal _ (k.takeThermal x h)

theorem PartsKeep.fireReport (k : PartsKeep ok K) (a : Bool) {s : State} (h : K s) : K (fireReport a s) :=
  k.reportHold systemPlace_fire a (k.also h rfl)

theorem PartsKeep.expireHolds (k : PartsKeep ok K) (m : Nat) {s : State} (h : K s) : K (expireHolds m s) := by
  have hslot : ∀ {t : State} (i : Fin 16), K t → K (expireSlot m t i) := by
    intro t i ht
    unfold expireSlot; split
    · split
      · exact k.notice _ _ _ (k.clear i ht)
      · exact ht
    · exact ht
  have hfold : ∀ (l : List (Fin 16)) {t : State}, K t → K (l.foldl (expireSlot m) t) := by
    intro l
    induction l with
    | nil => exact id
    | cons i l ih => exact fun ht => ih (hslot i ht)
  unfold Machine.expireHolds; dsimp only; split
  · exact k.strikeTests (hfold _ h)
  · exact hfold _ h

theorem requestedHoldOf_kind {c : Class} {r : HoldRaw} {h : Hold} (hh : requestedHoldOf c r = some h) : h.kind = .requested := by
  simp only [requestedHoldOf, bind, Option.bind_eq_some_iff] at hh
  obtain ⟨_, _, _, _, hh⟩ := hh
  split at hh
  · cases hh; rfl
  · cases hh

theorem PartsKeep.placeRequested (k : PartsKeep ok K) {s : State} {slot : Fin 16} {c : Class} {r : HoldRaw} {x : Hold}
    (hc : atLeast c .control = true) (hh : requestedHoldOf c r = some x) (hs : freeRequestedSlot s = some slot)
    (ht : requestedHoldAt r.tag.toNat s = none) (h : K s) : K (placeHold slot x s) := by
  unfold placeHold; dsimp only
  rw [requestedHoldOf_kind hh]
  exact k.notice _ _ _ (k.requested hc hh hs ht h)

theorem PartsKeep.arrivalLifts (k : PartsKeep ok K) (x : Hold) {s : State} (h : K s) : K (arrivalLifts x s) := by
  unfold Machine.arrivalLifts; split
  · exact k.expireHolds _ h
  · exact h

/-! ## Sources and geometry -/

theorem PartsKeep.compute (k : PartsKeep ok K) (i : Input) {s : State} (h : K s) : K (compute i s) :=
  k.same (parts_eq (by simp) (by simp) (by simp) (moves_compute i s).engine.state (by simp) (bookings_of_table (by simp))) h

theorem PartsKeep.computeTarget (k : PartsKeep ok K) {s : State} (h : K s) : K (computeTarget s) := by
  unfold Machine.computeTarget; split
  · exact k.compute _ h
  · exact h

theorem PartsKeep.computeIfChanged (k : PartsKeep ok K) (b : Option PresetNo) {s : State} (h : K s) : K (computeIfChanged b s) := by
  unfold Machine.computeIfChanged; split
  · exact h
  · exact k.computeTarget h

/-- An operation of the source unit that leaves the lamps, the channel, the holds, the store and the table alone. -/
theorem PartsKeep.apart (k : PartsKeep ok K) {s t : State} (hh : t.holds = s.holds) (hA : t.lampA = s.lampA) (hB : t.lampB = s.lampB)
    (he : t.engine = s.engine) (hs : t.store = s.store) (hb : t.table = s.table) (h : K s) : K t :=
  k.same (parts_eq hh (hA ▸ rfl) (hB ▸ rfl) (he ▸ rfl) hs (bookings_of_table hb)) h

theorem PartsKeep.autoSelection (k : PartsKeep ok K) (i : Input) (x : SelKind) {s : State} (h : K s) : K (autoSelection i x s) :=
  k.apart (by simp) (by simp) (by simp) (by simp) (by simp) (by simp) h

theorem PartsKeep.scheduleSeesShown (k : PartsKeep ok K) {s : State} (h : K s) : K (scheduleSeesShown s) := by
  have hm : (s.bookings.map (fun b => if b.state = .running then { b with shownSinceStart := true } else b)).map (·.slot) =
      s.bookings.map (·.slot) := by
    rw [List.map_map]
    refine List.map_congr_left fun b _ => ?_
    simp only [Function.comp]; split <;> rfl
  refine k.same ?_ h
  unfold Machine.scheduleSeesShown; dsimp only
  split <;> simp [State.parts, hm]

theorem PartsKeep.enterShown (k : PartsKeep ok K) {s : State} (h : K s) : K (enterShown s) := by
  have hs : K (s.setSwitch { s.switch with state := .shown, grace := none, settleTimer := false }) := k.also h rfl
  unfold Machine.enterShown; dsimp only; split
  · refine k.scheduleSeesShown ?_
    unfold geometrySeesShown; split
    · exact k.notice _ _ _ hs
    · exact k.compute _ (k.notice _ _ _ hs)
  · exact k.scheduleSeesShown hs

theorem PartsKeep.examinePending (k : PartsKeep ok K) {exit : State → State} (hx : ∀ t : State, K t → K (exit t)) {s : State} (h : K s) :
    K (examinePending exit s) := by
  unfold Machine.examinePending; split
  · exact hx s h
  · dsimp only; split
    · exact hx _ (k.also h rfl)
    · exact k.also h rfl

theorem PartsKeep.stableTest (k : PartsKeep ok K) {s : State} (h : K s) : K (stableTest s) := by
  have hl : K (s.setMeter { s.meter with state := .locked }) := k.also h rfl
  unfold Machine.stableTest; split
  · split
    · unfold lockMeter stableReport; split
      · exact k.examinePending (fun _ => k.enterShown) hl
      · exact k.enterShown hl
      all_goals exact hl
    · exact h
  · exact h

theorem PartsKeep.frameEdgeTaken (k : PartsKeep ok K) (time : Nat) {s : State} (h : K s) : K (frameEdgeTaken time s) := by
  unfold Machine.frameEdgeTaken; dsimp only; split
  · exact h
  all_goals
    split
    · exact k.also h rfl
    · split
      · exact k.stableTest (k.also h rfl)
      · exact k.apart (by simp) (by simp) (by simp) (by simp) (by simp) (by simp) h

/-! ## The table -/

/-- Each booking of a table has a slot that another table has. -/
def SlotsFrom (cs bs : List Booking) : Prop := ∀ c ∈ cs, ∃ b ∈ bs, b.slot = c.slot

theorem SlotsFrom.evaluate (cfg : ConfigRecord) (tags : List Nat) (pred : Option Booking) (bs : List Booking) :
    SlotsFrom (evaluateTags cfg tags pred bs) bs := by
  intro c hc
  obtain ⟨b, hb, -, -, -, -, -, hs⟩ := exists_lasting (evaluateTags_lasting cfg tags pred bs) hc
  exact ⟨b, hb, hs⟩

theorem SlotsFrom.trans {bs cs ds : List Booking} (h : SlotsFrom ds cs) (j : SlotsFrom cs bs) : SlotsFrom ds bs := by
  intro d hd
  obtain ⟨c, hc, e⟩ := h d hd
  obtain ⟨b, hb, e'⟩ := j c hc
  exact ⟨b, hb, e'.trans e⟩

theorem SlotsFrom.remove (tag : Nat) (bs : List Booking) : SlotsFrom (removeTag tag bs) bs :=
  fun c hc => ⟨c, (mem_removeTag.mp hc).1, rfl⟩

theorem SlotsFrom.update {f : Booking → Booking} (hf : ∀ b, (f b).slot = b.slot) (tag : Nat) (bs : List Booking) :
    SlotsFrom (updateBooking tag f bs) bs := by
  intro c hc
  obtain ⟨b, hb, rfl⟩ := List.mem_map.mp hc
  refine ⟨b, hb, ?_⟩
  split
  · exact (hf b).symm
  · rfl

/-- A table whose slots may be marked. -/
theorem PartsKeep.changeTable (k : PartsKeep ok K) {s : State} {bs : List Booking} (hb : ∀ b ∈ bs, ok (slotNo b.slot)) (h : K s) :
    K (changeTable bs s) := k.same (s := s.setTable bs) rfl (k.table bs hb h)

theorem PartsKeep.changeTableFrom (k : PartsKeep ok K) {s : State} {bs : List Booking} (hb : SlotsFrom bs s.bookings) (h : K s) :
    K (Machine.changeTable bs s) := by
  refine k.changeTable (fun c hc => ?_) h
  obtain ⟨b, hm, e⟩ := hb c hc
  exact e ▸ k.slots h b hm

theorem PartsKeep.testRisen (k : PartsKeep ok K) (before : State) {s : State} (h : K s) : K (testRisen before s) :=
  k.apart (by simp) (by simp) (by simp) (by simp) (by simp) (by simp) h

theorem PartsKeep.endGapIfDue (k : PartsKeep ok K) {s : State} (h : K s) : K (endGapIfDue s) := by
  unfold Machine.endGapIfDue; split
  · split
    · split
      · exact h
      · exact k.writeDemand _ h
    · exact k.writeDemand _ h
  · exact h

theorem PartsKeep.departBooking (k : PartsKeep ok K) {b : Booking} {s : State} (hb : ok (slotNo b.slot)) (h : K s) :
    K (departBooking b s) :=
  k.testRisen s (k.mark _ hb (k.changeTableFrom ((SlotsFrom.evaluate _ _ _ _).trans (SlotsFrom.remove _ _)) h))

/-! ## The schedule -/

theorem PartsKeep.endSession (k : PartsKeep ok K) {s : State} (h : K s) : K (endSession s) :=
  k.computeIfChanged _ (k.writeDemand _ (k.also h rfl))

theorem PartsKeep.sessionSecond (k : PartsKeep ok K) {s : State} (h : K s) : K (sessionSecond s) := by
  unfold Machine.sessionSecond; split
  · split
    · exact k.notice _ _ _ (k.endSession h)
    · exact k.also h rfl
  · exact h

theorem PartsKeep.leadArrival (k : PartsKeep ok K) (before : Option PresetNo) (b : Booking) {s : State} (h : K s) :
    K (leadArrival before b s) := by
  have ht := k.changeTableFrom (SlotsFrom.update (f := fun x => { x with state := .warming }) (fun _ => rfl) b.given.tag _) h
  have hw : K (leadWarm b s) := by
    refine k.writeDemand _ ?_
    unfold absorbSession; split
    · exact k.also ht rfl
    · exact k.also ht rfl
  unfold Machine.leadArrival openingSelection; split
  · exact k.autoSelection _ _ (k.computeIfChanged before hw)
  · exact k.computeIfChanged before hw

theorem PartsKeep.startArrival (k : PartsKeep ok K) (b : Booking) {s : State} (h : K s) : K (startArrival b s) := by
  have ht := k.changeTableFrom (SlotsFrom.update
    (f := fun x => { x with state := .running, shownSinceStart := s.switch.state == .shown }) (fun _ => rfl) b.given.tag _) h
  unfold Machine.startArrival; dsimp only; split
  · unfold placeHold; dsimp only [examHold, HoldKind.douses]
    exact k.notice _ _ _ (k.exam b (k.also ht rfl))
  · exact k.also ht rfl

theorem PartsKeep.startPhase (k : PartsKeep ok K) {s : State} (h : K s) : K (startPhase s) := by
  unfold Machine.startPhase; split
  · exact k.startArrival _ h
  · exact h

theorem PartsKeep.leadAndStart (k : PartsKeep ok K) (before : Option PresetNo) {s : State} (h : K s) : K (leadAndStart before s) := by
  unfold Machine.leadAndStart; split
  · exact k.startPhase (k.leadArrival before _ h)
  · exact k.startPhase (k.computeIfChanged before h)

theorem PartsKeep.liftExam (k : PartsKeep ok K) (b : Booking) {s : State} (h : K s) : K (liftExam b s) := by
  unfold Machine.liftExam; split
  · split
    · exact k.liftHold _ _ h
    · exact h
  · exact h

theorem PartsKeep.endBooking (k : PartsKeep ok K) {b : Booking} {s : State} (hb : ok (slotNo b.slot)) (h : K s) :
    K (endBooking b s) := by
  have hl : K (endOverride ((Machine.liftExam b s).setGate { (Machine.liftExam b s).gate with mute := false })) :=
    k.also (k.liftExam b h) rfl
  exact k.also (k.mark _ hb (k.changeTableFrom (SlotsFrom.remove _ _) (k.writeDemand _ hl))) rfl

theorem PartsKeep.endArrival (k : PartsKeep ok K) {b : Booking} {s : State} (hb : ok (slotNo b.slot)) (h : K s) :
    K (endArrival b s) := k.notice _ _ _ (k.endBooking hb h)

theorem PartsKeep.active_slot (k : PartsKeep ok K) {b : Booking} {s : State} (ha : s.activeBooking = some b) (h : K s) :
    ok (slotNo b.slot) := k.slots h b (activeBooking_eq ha).1

theorem PartsKeep.endPhase (k : PartsKeep ok K) {s : State} (h : K s) : K (endPhase s) := by
  unfold Machine.endPhase; split
  · next ha =>
    split
    · exact k.endArrival (k.active_slot ha h) h
    · exact h
  · exact h

theorem PartsKeep.retireAll (k : PartsKeep ok K) (l : List Booking) (hl : ∀ b ∈ l, ok (slotNo b.slot)) {s : State} (h : K s) :
    K (l.foldl retireMissed s) := by
  induction l generalizing s with
  | nil => exact h
  | cons b l ih =>
    exact ih (fun c hc => hl c (by simp [hc])) (k.notice _ _ _ (k.endGapIfDue (k.departBooking (hl b (by simp)) h)))

theorem PartsKeep.missedPhase (k : PartsKeep ok K) {s : State} (h : K s) : K (missedPhase s) :=
  k.retireAll _ (fun b hb => k.slots h b (List.mem_filter.mp hb).1) h

theorem PartsKeep.noShowPhase (k : PartsKeep ok K) {s : State} (h : K s) : K (noShowPhase s) := by
  unfold Machine.noShowPhase; split
  · next hn =>
    exact k.leadAndStart _ (k.notice _ _ _ (k.endBooking (k.slots h _ (noShowDue_active hn).1) h))
  · exact h

theorem PartsKeep.scheduleCheckFrom (k : PartsKeep ok K) (before : Option PresetNo) {s : State} (h : K s) :
    K (scheduleCheckFrom before s) := by
  unfold Machine.scheduleCheckFrom; split
  · exact k.noShowPhase (k.leadAndStart before (k.missedPhase (k.endPhase h)))
  · exact h

theorem PartsKeep.scheduleCheck (k : PartsKeep ok K) {s : State} (h : K s) : K (scheduleCheck s) := k.scheduleCheckFrom _ h

theorem PartsKeep.endByRequest (k : PartsKeep ok K) {b : Booking} {s : State} (hb : b ∈ s.bookings) (h : K s) :
    K (endByRequest b s) := by
  unfold Machine.endByRequest; dsimp only; split
  · exact k.scheduleCheckFrom _ (k.endArrival (k.slots h b hb) h)
  · exact k.computeIfChanged _ (k.endArrival (k.slots h b hb) h)

/-! ## The end of an event, and the table's events -/

theorem PartsKeep.finish (k : PartsKeep ok K) {s : State} (h : K s) : K (finish s) := by
  have he : K (arbiter (evalGate s)) := by
    refine k.same ?_ h
    have hf : ((arbiter (evalGate s)).engine.state == .fault) = (s.engine.state == .fault) := by
      rw [Bool.eq_iff_iff, beq_iff_eq, beq_iff_eq, arbiter_fault, evalGate_engine_state]
    simp only [State.parts, hf, arbiter_holds, arbiter_lampA, arbiter_lampB, arbiter_store, evalGate_holds, evalGate_lampA,
      evalGate_lampB, evalGate_store, bookings_of_table (arbiter_table _), bookings_of_table (evalGate_table _)]
  exact k.write he

theorem PartsKeep.tableEvent (k : PartsKeep ok K) {s : State} (h : K s) : K (Machine.finish (reexamine (Machine.endGapIfDue s))) := by
  refine k.finish ?_
  unfold reexamine; split
  · split
    · exact k.scheduleCheck (k.endGapIfDue h)
    · exact k.endGapIfDue h
  · exact k.endGapIfDue h

theorem PartsKeep.admitBooking (k : PartsKeep ok K) (c : Class) (g : Given) (a : Admission) {s : State}
    (hl : s.bookings.length < 48) (h : K s) : K (admitBooking c g a s) := by
  have hn := k.newSlot h hl
  refine k.tableEvent (k.mark _ hn (k.testRisen s (k.changeTable (fun x hx => ?_) h)))
  obtain ⟨y, hy, e⟩ := SlotsFrom.evaluate _ _ _ _ x hx
  rcases (mem_insertBooking _ y _).mp hy with rfl | hy
  · exact e ▸ hn
  · exact e ▸ k.slots h y hy

theorem PartsKeep.amendPendingTable (k : PartsKeep ok K) {b : Booking} (g : Given) (a : Admission) {s : State}
    (hb : b ∈ s.bookings) (h : K s) : K (amendPendingTable b g a s) := by
  have ht : ∀ tags, K (Machine.testRisen s (Machine.changeTable (evaluateTags s.config tags none (insertBooking
      { b with given := g, assignment := a.assignment, bridged := a.bridged, plannedA := a.plannedA, plannedB := a.plannedB }
      (removeTag g.tag s.bookings))) s)) := by
    refine fun tags => k.testRisen s (k.changeTableFrom ((SlotsFrom.evaluate _ _ _ _).trans fun x hx => ?_) h)
    rcases (mem_insertBooking _ x _).mp hx with rfl | hx
    · exact ⟨b, hb, rfl⟩
    · exact ⟨x, (mem_removeTag.mp hx).1, rfl⟩
  unfold Machine.amendPendingTable; dsimp only; split
  · exact k.tableEvent (ht _)
  · exact k.tableEvent (k.mark _ (k.slots h b hb) (ht _))

theorem PartsKeep.amendActiveTable (k : PartsKeep ok K) {b : Booking} (fin : Nat) {s : State} (hb : b ∈ s.bookings) (h : K s) :
    K (amendActiveTable b fin s) :=
  k.finish (k.mark _ (k.slots h b hb) (k.testRisen s (k.changeTableFrom
    ((SlotsFrom.evaluate _ _ _ _).trans (SlotsFrom.update (f := fun x => { x with given := { x.given with fin := fin } }) (fun _ => rfl) _ _)) h)))

/-! ## Requests, channels and start-up -/

theorem PartsKeep.startSession (k : PartsKeep ok K) {s : State} (h : K s) : K (startSession s) := by
  unfold Machine.startSession; split
  · exact h
  · exact k.finish (k.writeDemand _ (k.also h rfl))

theorem PartsKeep.makeSelection (k : PartsKeep ok K) (sel : Selection) {s : State} (h : K s) : K (makeSelection sel s) := by
  unfold Machine.makeSelection; split
  · exact h
  · exact k.finish (k.apart (by simp) (by simp) (by simp) (by simp) (by simp) (by simp) h)

theorem PartsKeep.usabilityAfter (k : PartsKeep ok K) (was : Bool) (p : Pos) {s : State} (h : K s) : K (usabilityAfter was p s) := by
  unfold Machine.usabilityAfter; split
  · exact h
  · exact k.usabilityChanged h

theorem PartsKeep.fitLamp (k : PartsKeep ok K) (p : Pos) (serial rated : Nat) {s : State} (h : K s) : K (fitLamp p serial rated s) :=
  k.finish (k.evalPower p (k.usabilityAfter _ p (k.strikeTest p (k.notice _ _ _ (k.markLamp p (k.dark rfl h))))))

theorem PartsKeep.removeLamp (k : PartsKeep ok K) (p : Pos) {s : State} (h : K s) : K (removeLamp p s) :=
  k.finish (k.usabilityAfter _ p (k.notice _ _ _ (k.markLamp p (k.dark rfl h))))

theorem PartsKeep.clearFailure (k : PartsKeep ok K) (p : Pos) {s : State} (h : K s) : K (clearFailure p s) := by
  unfold Machine.clearFailure; dsimp only; split
  · exact k.finish (k.usabilityAfter _ p (k.notice _ _ _ (k.dark rfl h)))
  · exact k.finish (k.usabilityAfter _ p (k.notice _ _ _ (k.enterCold p (k.steady rfl h))))

theorem profileNo_lt (i : Input) : profileNo i < 19 := by unfold profileNo; omega

theorem presetNo_lt (n : PresetNo) : presetNo n < 19 := by unfold presetNo; omega

theorem PartsKeep.writeProfile (k : PartsKeep ok K) (i : Input) (p : Profile) {s : State} (h : K s) : K (writeProfile i p s) := by
  have hm : K (markDirty (profileNo i) (s.setProfiles (s.profiles.set i p))) :=
    k.mark _ (k.numbers _ (profileNo_lt i)) (k.also h rfl)
  refine k.finish ?_
  unfold computeFor; split
  · exact k.compute i hm
  · exact hm

theorem PartsKeep.writePreset (k : PartsKeep ok K) (n : PresetNo) (p : Preset) {s : State} (h : K s) : K (writePreset n p s) := by
  have hm : K (markDirty (presetNo n) (s.setGeom { s.geom with presets := s.geom.presets.set n p })) :=
    k.mark _ (k.numbers _ (presetNo_lt n)) (k.also h rfl)
  unfold Machine.writePreset; dsimp only; split
  · exact k.finish (k.computeTarget hm)
  · exact k.finish hm

theorem PartsKeep.applyOverride (k : PartsKeep ok K) (p : Option PresetNo) {s : State} (h : K s) : K (applyOverride p s) :=
  k.finish (k.computeIfChanged _ (k.also h rfl))

theorem PartsKeep.writeConfig (k : PartsKeep ok K) (cfg : ConfigRecord) {s : State} (h : K s) : K (writeConfig cfg s) :=
  k.finish (k.mark _ (k.numbers _ (by decide)) (k.also h rfl))

theorem PartsKeep.minuteHanded (k : PartsKeep ok K) {s : State} (h : K s) : K (minuteHanded s) :=
  k.finish (k.expireHolds _ (k.scheduleCheck h))

theorem PartsKeep.secondHanded (k : PartsKeep ok K) {s : State} (h : K s) : K (secondHanded s) := by
  have hs : K (sourceSecond (Machine.lampsSecond s)) :=
    k.apart (by simp) (by simp) (by simp) (by simp) (by simp) (by simp) (k.lampsSecond h)
  exact k.finish (k.sessionSecond hs)

theorem PartsKeep.deliver (k : PartsKeep ok K) (m : Option OutMsg) {s : State} (h : K s) : K (deliver m s) := by
  unfold Machine.deliver; split
  · unfold strikeDelivered; split
    · exact k.steady rfl h
    · exact h
  · exact k.also h rfl
  all_goals exact h

theorem PartsKeep.messageDelivered (k : PartsKeep ok K) {s : State} (hs : s.engine.state = .sending) (h : K s) :
    K (messageDelivered s) := by
  have hf : (ChannelState.ready == .fault) = (s.engine.state == .fault) := by rw [hs]; rfl
  exact k.deliver _ (k.same (s := s) (congrArg (fun f => { s.parts with fault := f }) hf) h)

theorem PartsKeep.channelFaults (k : PartsKeep ok K) {s : State} (h : K s) : K (channelFaults s) := by
  have hf : K (faultCoolAll (raiseNotice .engine 1 (outMsgArg s.engine.inFlight) (s.setEngine s.engine.faulted))) :=
    k.gapExits _ _ (k.faulted (s := s) rfl h)
  exact k.also hf rfl

theorem PartsKeep.statusTaken (k : PartsKeep ok K) (a b : Bool) (x : Thermal) (o : Bool) {s : State} (h : K s) :
    K (statusTaken a b x o s) := k.lampReport .b b (k.lampReport .a a (k.thermalReport x (k.doorReport o h)))

theorem PartsKeep.recover (k : PartsKeep ok K) (a b : Bool) (x : Thermal) (o : Bool) {s : State} (h : K s) :
    K (recover a b x o s) := by
  have hr := k.lampReport .b b (k.lampReport .a a (k.ready h))
  have hc : ∀ {t : State}, K t → K (computeIfShown t) := by
    intro t ht
    unfold computeIfShown; split
    · split
      · exact k.compute _ ht
      · exact ht
    · exact ht
  have hg : ∀ {t : State}, K t → K (offerGate t) := fun ht =>
    k.same (parts_eq (by simp [offerGate]) (by simp [offerGate]) (by simp [offerGate]) (by simp [offerGate]) (by simp [offerGate])
      (bookings_of_table (by simp [offerGate]))) ht
  exact k.notice _ _ _ (hg (hc (k.strikeTests
    (k.reportOnly systemPlace_door o (k.reportOnly systemPlace_thermal (x == .over) (k.takeThermal x hr))))))

theorem PartsKeep.endStartUp (k : PartsKeep ok K) {s : State} (h : K s) : K (endStartUp s) := by
  have hf : K (sampleFire s) := by
    unfold sampleFire; dsimp only; split
    · exact k.placeSystem systemPlace_fire (k.also h rfl)
    · exact k.also h rfl
  exact k.finish (k.scheduleCheck (k.also hf rfl))

theorem PartsKeep.writeEnds (k : PartsKeep ok K) {r : ReadBack} {w : Writing} {s : State} (hw : s.store.writing = some w) (h : K s) :
    K (writeEnds r w s) := by
  unfold Machine.writeEnds; dsimp only; split
  · exact k.write (k.wrote r w hw h)
  · exact k.write (k.also (k.failed r w hw h) rfl)

theorem length_cutOffWrite (d : Damage) (st : Store) : (cutOffWrite d st).length = st.records.length := by
  unfold cutOffWrite; split <;> simp

theorem length_flushedRecords (failed : List (Nat × ReadBack)) (s : State) :
    (flushedRecords failed s).length = s.store.records.length := by
  have h : ∀ (l : List Writing) (rs : List StoredRecord), (l.foldl (flushRecord failed) rs).length = rs.length := by
    intro l
    induction l with
    | nil => exact fun _ => rfl
    | cons w l ih => exact fun rs => (ih _).trans (by simp [flushRecord])
  exact h _ _

/-! ## Every effect -/

/-- Every effect keeps what the parts keep. -/
theorem PartsKeep.effect (k : PartsKeep ok K) {s t : State} (h : Effect s t) : K s → K t := by
  induction h with
  | refl => exact id
  | trans _ _ ih₁ ih₂ => exact ih₂ ∘ ih₁
  | link s | panel s | notice s | noticesRead s | freeValue s | clock s | engineLatch s | matrixLatch s | fireLevel s =>
    exact k.same (s := s) rfl
  | book s c g a _ _ _ _ hl _ => exact k.admitBooking c g a hl
  | amend s b g a hb _ _ _ => exact k.amendPendingTable g a (bookingAt_mem hb)
  | extend s b fin hb _ _ _ => exact k.amendActiveTable fin (bookingAt_mem hb)
  | remove s b hb _ => exact fun h => k.tableEvent (k.departBooking (k.slots h b (bookingAt_mem hb)) h)
  | endNow s b hb _ => exact fun h => k.finish (k.endByRequest hb h)
  | time s m sec => exact fun h => k.finish (k.scheduleCheck (k.also h rfl))
  | sessionOn => exact k.startSession
  | sessionOff => exact fun h => k.finish (k.endSession h)
  | fit s p serial rated => exact k.fitLamp p serial rated
  | unfit s p => exact k.removeLamp p
  | clear s p => exact k.clearFailure p
  | hold s slot c r x hc hh hs ht => exact fun h => k.finish (k.arrivalLifts x (k.placeRequested hc hh hs ht h))
  | lift s slot x => exact fun h => k.finish (k.liftHold slot x h)
  | select s sel => exact k.makeSelection sel
  | profile s i p => exact k.writeProfile i p
  | preset s n p => exact k.writePreset n p.clamped
  | override s p => exact k.applyOverride p
  | mute _ _ => exact fun h => k.finish (k.also h rfl)
  | config s cfg => exact k.writeConfig cfg
  | flush s => exact fun h => k.flushWrite (k.also h rfl)
  | second => exact k.secondHanded
  | minute => exact k.minuteHanded
  | unstored s p => exact fun h => k.finish (k.markLamp p h)
  | continuous s p => exact fun h => k.finish (k.continuousReaches600 p h)
  | window s p => exact fun h => k.finish (k.windowRunsOut p h)
  | cooldown s p => exact fun h => k.finish (k.cooldownEnds p h)
  | unattended => exact fun h => k.finish (k.notice _ _ _ (k.endSession h))
  | grace | takeTimeout | settleTimeout | loss | takeAck | presence =>
    exact fun h => k.finish (k.apart (by simp) (by simp) (by simp) (by simp) (by simp) (by simp) h)
  | frameEdge s time => exact fun h => k.finish (k.frameEdgeTaken time h)
  | lineEdge => exact k.apart (by simp) (by simp) (by simp) (by simp) (by simp) (by simp)
  | delivered s hs => exact fun h => k.finish (k.messageDelivered hs h)
  | faulted => exact fun h => k.finish (k.channelFaults h)
  | lampSense s p lit => exact fun h => k.finish (k.lampReport p lit h)
  | thermal s x => exact fun h => k.finish (k.thermalReport x h)
  | door s o => exact fun h => k.finish (k.doorReport o h)
  | status s a b x o => exact fun h => k.finish (k.statusTaken a b x o h)
  | recovery s a b x o => exact fun h => k.finish (k.recover a b x o h)
  | fire s a => exact fun h => k.finish (k.fireReport a h)
  | writeEnd s r w hw => exact k.writeEnds hw
  | flushWriteEnd s r w hw => exact fun h => k.flushWrite (k.wrote r w hw h)
  | retry s n => exact fun h => k.write (k.retry n h)
  | powerReset s d => exact k.started _ _ (length_cutOffWrite d s.store)
  | restart s failed => exact k.started _ _ (length_flushedRecords failed s)
  | startUpEnd => exact k.endStartUp

/-- A property of the parts is kept by every step. -/
theorem PartsKeep.kept (k : PartsKeep ok K) : KeptByStep K :=
  kept_of_effects (fun _ _ h => k.also h rfl) (fun _ _ e => k.effect e)

end Sys2Proof.Machine
end

section
/-! PROOF. No lamp burns under a FIRE, DOOR or THERMAL hold or in FAULT (`Obligations.LampsKeepShape`, its third part), and the hold
table keeps its shape (`Obligations.HoldTableKeepsShape`), each read off the parts. -/

namespace Sys2Proof.Machine

/-! ## The hold table as a list of slots -/

/-- The FIRE, DOOR and THERMAL holds of a table stand as the manual writes them. -/
def SystemSound (v : Vector (Option Hold) 16) : Prop :=
  (∀ h, v[fireSlot] = some h → h = fireHold) ∧ (∀ h, v[doorSlot] = some h → h = lampHold .door)
    ∧ ∀ h, v[thermalSlot] = some h → h = lampHold .thermal

theorem systemHolds_iff (s : State) : SystemHolds s ↔ SystemSound s.holds := Iff.rfl

/-- A slot after another slot, or the same, has been set. -/
theorem holds_set (v : Vector (Option Hold) 16) (i j : Fin 16) (x : Option Hold) :
    (v.set i x)[j] = if i = j then x else v[j] := by
  simp [Vector.getElem_set, Fin.ext_iff]

/-- A FIRE, DOOR or THERMAL hold stands. -/
def SystemHeld (v : Vector (Option Hold) 16) : Prop := v[fireSlot] ≠ none ∨ v[doorSlot] ≠ none ∨ v[thermalSlot] ≠ none

theorem SystemSound.clear {v : Vector (Option Hold) 16} (h : SystemSound v) (i : Fin 16) : SystemSound (v.set i none) := by
  obtain ⟨h1, h2, h3⟩ := h
  refine ⟨fun k hk => h1 k ?_, fun k hk => h2 k ?_, fun k hk => h3 k ?_⟩ <;>
  · rw [holds_set] at hk
    split at hk
    · cases hk
    · exact hk

theorem systemHeld_clear {v : Vector (Option Hold) 16} {i : Fin 16} (h : SystemHeld (v.set i none)) : SystemHeld v := by
  unfold SystemHeld at h ⊢
  simp only [holds_set] at h
  rcases h with h | h | h <;> split at h <;> simp_all

/-- A hold in a slot that is none of the three. -/
theorem SystemSound.other {v : Vector (Option Hold) 16} (h : SystemSound v) {i : Fin 16} (hi : 3 ≤ i.val) (x : Option Hold) :
    SystemSound (v.set i x) ∧ (SystemHeld (v.set i x) → SystemHeld v) := by
  have hf : i ≠ fireSlot := by rintro rfl; exact absurd hi (by decide)
  have hd : i ≠ doorSlot := by rintro rfl; exact absurd hi (by decide)
  have ht : i ≠ thermalSlot := by rintro rfl; exact absurd hi (by decide)
  simp only [SystemSound, SystemHeld, holds_set, if_neg hf, if_neg hd, if_neg ht]
  exact ⟨h, id⟩

theorem SystemSound.place {v : Vector (Option Hold) 16} (h : SystemSound v) {i : Fin 16} {x : Hold} (hp : SystemPlace i x) :
    SystemSound (v.set i (some x)) := by
  obtain ⟨h1, h2, h3⟩ := h
  simp only [SystemSound, holds_set]
  rcases hp with ⟨rfl, rfl⟩ | ⟨rfl, rfl⟩ | ⟨rfl, rfl⟩
  · exact ⟨by simp, h2, h3⟩
  · exact ⟨h1, by simp, h3⟩
  · exact ⟨h1, h2, by simp⟩

/-! ## Dark lamps -/

/-- A lamp in this state does not burn. -/
def LampState.IsDark (st : LampState) : Prop := st ≠ .striking ∧ st ≠ .lit

theorem isDark_iff (l : Lamp) : l.state.IsDark ↔ l.burning = false := by
  simp [LampState.IsDark, Lamp.burning]

/-- `SystemHolds` and `DarkUnderHold` of the parts. -/
def ViewParts.DarkSound (v : ViewParts) : Prop :=
  SystemSound v.holds ∧ (SystemHeld v.holds ∨ v.fault = true → v.stateA.IsDark ∧ v.stateB.IsDark)

theorem darkSound_iff (s : State) : SystemHolds s ∧ DarkUnderHold s ↔ s.parts.DarkSound := by
  refine and_congr (systemHolds_iff s) ?_
  have hp : (s.holds[fireSlot] ≠ none ∨ s.holds[doorSlot] ≠ none ∨ s.holds[thermalSlot] ≠ none ∨ s.engine.state = .fault) ↔
      (SystemHeld s.holds ∨ s.parts.fault = true) := by
    simp [SystemHeld, State.parts, or_assoc]
  unfold DarkUnderHold
  rw [hp]
  refine imp_congr_right fun _ => ⟨fun h => ⟨h .a, h .b⟩, fun h p => ?_⟩
  cases p
  · exact h.1
  · exact h.2

/-- A FIRE, DOOR or THERMAL hold holds STRIKE. -/
theorem SystemSound.strikeHeld {s : State} (h : SystemSound s.holds) (hh : SystemHeld s.holds) : s.strikeHeld = true := by
  have hone : ∀ (i : Fin 16) (x : Hold), s.holds[i] = some x → x.scopes.strike = true → s.strikeHeld = true := by
    intro i x hx hs
    simp only [State.strikeHeld, List.any_eq_true]
    exact ⟨some x, by rw [← hx]; simp, hs⟩
  obtain ⟨h1, h2, h3⟩ := h
  rcases hh with hh | hh | hh <;> obtain ⟨x, hx⟩ := Option.ne_none_iff_exists'.mp hh
  · exact hone _ x hx (by rw [h1 x hx]; rfl)
  · exact hone _ x hx (by rw [h2 x hx]; rfl)
  · exact hone _ x hx (by rw [h3 x hx]; rfl)

/-- Under a hold or in FAULT no lamp may be struck (R60). -/
theorem ViewParts.DarkSound.no_strike {s : State} (h : s.parts.DarkSound) (hh : SystemHeld s.holds ∨ s.parts.fault = true) (p : Pos) :
    mayStrike p s = false := by
  rcases hh with hh | hh
  · exact mayStrike_held (SystemSound.strikeHeld h.1 hh) p
  · exact mayStrike_fault (by simpa [State.parts] using hh) p

theorem holdDouse_dark (s : State) : (holdDouse .b (holdDouse .a s)).parts =
    { s.parts with
      stateA := s.lampA.doused.state, stateB := s.lampB.doused.state,
      store := { s.store with dirty := dousedDirty s } } := by
  have he : (s.engine.doused s.lampA.burning s.lampB.burning).state = s.engine.state := by
    unfold Engine.doused; split <;> rfl
  rw [holdDouse_both]
  simp only [State.parts, he]

theorem faultCool_dark (s : State) : (faultCool .b (faultCool .a s)).parts =
    { s.parts with
      stateA := s.lampA.doused.state, stateB := s.lampB.doused.state,
      store := { s.store with dirty := dousedDirty s } } := by
  rw [faultCool_both]
  rfl

theorem doused_isDark (l : Lamp) : l.doused.state.IsDark := (isDark_iff _).mpr l.doused_burning

theorem exam_not_system : 3 ≤ examSlot.val := by decide

theorem requestedSlots_ge {i : Fin 16} (h : i ∈ requestedSlots) : 4 ≤ i.val := by
  revert i; decide

/-- A part that changes neither the holds nor the channel nor the lamps' states. -/
theorem ViewParts.DarkSound.congr {v w : ViewParts} (h : v.DarkSound) (hh : w.holds = v.holds) (hA : w.stateA = v.stateA)
    (hB : w.stateB = v.stateB) (hf : w.fault = v.fault) : w.DarkSound := by
  unfold ViewParts.DarkSound; rw [hh, hA, hB, hf]; exact h

/-- Holds that are still sound and stand no more often than before. -/
theorem ViewParts.DarkSound.hold {v w : ViewParts} (h : v.DarkSound) (hh : SystemSound w.holds)
    (hs : SystemHeld w.holds → SystemHeld v.holds) (hA : w.stateA = v.stateA) (hB : w.stateB = v.stateB)
    (hf : w.fault = true → v.fault = true) : w.DarkSound := by
  refine ⟨hh, fun k => ?_⟩
  rw [hA, hB]
  exact h.2 (k.imp hs hf)

theorem ViewParts.DarkSound.lamp {s : State} (h : s.parts.DarkSound) (p : Pos) (l : Lamp)
    (hl : l.burning = true → (s.lamp p).burning = true ∨ mayStrike p s = true) : (s.setLamp p l).parts.DarkSound := by
  have hdark : SystemHeld s.holds ∨ s.parts.fault = true → l.state.IsDark := by
    intro k
    rw [isDark_iff, Bool.eq_false_iff]
    intro hb
    obtain ⟨hA, hB⟩ := h.2 k
    rcases hl hb with hb | hm
    · cases p
      · exact absurd hb (Bool.eq_false_iff.mp ((isDark_iff s.lampA).mp hA))
      · exact absurd hb (Bool.eq_false_iff.mp ((isDark_iff s.lampB).mp hB))
    · rw [h.no_strike k] at hm; cases hm
  cases p
  · exact ⟨h.1, fun k => ⟨hdark k, (h.2 k).2⟩⟩
  · exact ⟨h.1, fun k => ⟨(h.2 k).1, hdark k⟩⟩

theorem startFlushWrite_parts (s : State) : ∃ st, (startFlushWrite s).parts = { s.parts with store := st } := by
  unfold startFlushWrite; split <;> exact ⟨_, rfl⟩

theorem startWrite_parts (s : State) : ∃ st, (startWrite s).parts = { s.parts with store := st } := by
  unfold startWrite; split <;> exact ⟨_, rfl⟩

theorem markDirty_parts (n : Nat) (s : State) : (markDirty n s).parts = { s.parts with store := (markDirty n s).store } := by
  unfold markDirty; split <;> rfl

theorem boot_dark (clock : Clock) (records : List StoredRecord) (s : State) : (boot clock records s).parts.DarkSound := by
  obtain ⟨-, -, hh, -, -, -, -, -, -, -, -, -, -, -, -, -, -, -, -, hl, -⟩ := (boot_spec clock records s).1
  have hsound : SystemSound (boot clock records s).holds := by
    refine ⟨fun h k => ?_, fun h k => ?_, fun h k => ?_⟩ <;> rw [hh] at k <;> cases k
  have hdark : ∀ p, ((boot clock records s).lamp p).state.IsDark := by
    intro p
    rw [(hl p).1]
    split <;> simp [LampState.IsDark]
  exact ⟨hsound, fun _ => ⟨hdark .a, hdark .b⟩⟩

/-- The parts keep the system holds as they are and the lamps dark under them. -/
theorem partsKeep_dark : PartsKeep (fun _ => True) (fun s => s.parts.DarkSound) where
  same := fun e h => e ▸ h
  numbers := fun _ _ => trivial
  slots := fun _ _ _ => trivial
  newSlot := fun _ _ => trivial
  table := fun _ _ h => h.congr rfl rfl rfl rfl
  lamp := fun p l hl h => h.lamp p l hl
  mark := fun n _ h => (markDirty_parts n _) ▸ h.congr rfl rfl rfl rfl
  clear := fun i h => h.hold (h.1.clear i) systemHeld_clear rfl rfl id
  exam := fun b h => h.hold (h.1.other exam_not_system _).1 (h.1.other exam_not_system _).2 rfl rfl id
  requested := fun _ _ hs _ h =>
    have hi := Nat.le_of_succ_le (requestedSlots_ge (freeRequestedSlot_mem hs))
    h.hold (h.1.other hi _).1 (h.1.other hi _).2 rfl rfl id
  system := fun hp ht h => by
    rw [holdDouse_dark, ht]
    exact ⟨h.1.place hp, fun _ => ⟨doused_isDark _, doused_isDark _⟩⟩
  faulted := fun ht h => by
    rw [faultCool_dark, ht]
    exact ⟨h.1, fun _ => ⟨doused_isDark _, doused_isDark _⟩⟩
  ready := fun h => h.hold h.1 id rfl rfl (fun k => by cases k)
  write := fun h => by
    obtain ⟨st, e⟩ := startWrite_parts _
    exact e ▸ h.congr rfl rfl rfl rfl
  flushWrite := fun h => by
    obtain ⟨st, e⟩ := startFlushWrite_parts _
    exact e ▸ h.congr rfl rfl rfl rfl
  wrote := fun _ _ _ h => h.congr rfl rfl rfl rfl
  failed := fun _ _ _ h => h.congr rfl rfl rfl rfl
  retry := fun _ h => h.congr rfl rfl rfl rfl
  started := fun clock records _ _ => boot_dark clock records _

/-! ## The hold table's shape -/

/-- `HoldTableShape` of a list of slots. -/
def HoldsShaped (v : Vector (Option Hold) 16) : Prop :=
  (∀ (i : Fin 16) h, v[i] = some h → h.kind = slotKind i)
    ∧ (∀ (i : Fin 16) h, v[i] = some h → h.kind = .requested →
        (h.placer = some .control ∨ h.placer = some .service) ∧ ∃ t, h.tag = some t ∧ 1 ≤ t ∧ t ≤ 65535)
    ∧ (∀ (i j : Fin 16) h k, v[i] = some h → v[j] = some k → h.kind = .requested → k.kind = .requested → h.tag = k.tag → i = j)

theorem HoldsShaped.clear {v : Vector (Option Hold) 16} (h : HoldsShaped v) (i : Fin 16) : HoldsShaped (v.set i none) := by
  have old : ∀ {j : Fin 16} {x : Hold}, (v.set i none)[j] = some x → v[j] = some x := by
    intro j x hx
    rw [holds_set] at hx
    split at hx
    · cases hx
    · exact hx
  obtain ⟨h1, h2, h3⟩ := h
  exact ⟨fun j x hx => h1 j x (old hx), fun j x hx => h2 j x (old hx),
    fun j l x y hx hy => h3 j l x y (old hx) (old hy)⟩

/-- A hold whose kind is its slot's, and if it is a requested one, with a placer and a tag of its own. -/
theorem HoldsShaped.place {v : Vector (Option Hold) 16} (h : HoldsShaped v) {i : Fin 16} {x : Hold} (hk : x.kind = slotKind i)
    (hr : x.kind = .requested → ((x.placer = some .control ∨ x.placer = some .service) ∧ ∃ t, x.tag = some t ∧ 1 ≤ t ∧ t ≤ 65535)
      ∧ ∀ (j : Fin 16) y, v[j] = some y → y.kind = .requested → y.tag ≠ x.tag) : HoldsShaped (v.set i (some x)) := by
  have new : ∀ {j : Fin 16} {y : Hold}, (v.set i (some x))[j] = some y → (j = i ∧ y = x) ∨ v[j] = some y := by
    intro j y hy
    rw [holds_set] at hy
    split at hy
    · next e => exact .inl ⟨e.symm, (Option.some.inj hy).symm⟩
    · exact .inr hy
  obtain ⟨h1, h2, h3⟩ := h
  refine ⟨fun j y hy => ?_, fun j y hy hyk => ?_, fun j l y z hy hz hyk hzk e => ?_⟩
  · rcases new hy with ⟨rfl, rfl⟩ | hy
    · exact hk
    · exact h1 j y hy
  · rcases new hy with ⟨rfl, rfl⟩ | hy
    · exact (hr hyk).1
    · exact h2 j y hy hyk
  · rcases new hy with ⟨rfl, rfl⟩ | oldy <;> rcases new hz with ⟨rfl, rfl⟩ | oldz
    · rfl
    · exact absurd e.symm ((hr hyk).2 l z oldz hzk)
    · exact absurd e ((hr hzk).2 j y oldy hyk)
    · exact h3 j l y z oldy oldz hyk hzk e

theorem SystemPlace.kind {i : Fin 16} {x : Hold} (hp : SystemPlace i x) : x.kind = slotKind i ∧ x.kind ≠ .requested := by
  rcases hp with ⟨rfl, rfl⟩ | ⟨rfl, rfl⟩ | ⟨rfl, rfl⟩ <;> decide

/-- What check 3 of HOLD makes of the placer and the tag (R101, R110). -/
theorem requestedHoldOf_placed {c : Class} {r : HoldRaw} {x : Hold} (h : requestedHoldOf c r = some x) :
    x.kind = .requested ∧ x.placer = some c ∧ x.tag = some r.tag.toNat ∧ 1 ≤ r.tag.toNat := by
  simp only [requestedHoldOf, bind, Option.bind_eq_some_iff] at h
  obtain ⟨_, _, _, _, h⟩ := h
  split at h
  · next hc =>
    cases h
    simp only [Bool.and_eq_true, bne_iff_ne, ne_eq] at hc
    obtain ⟨⟨⟨⟨ht, -⟩, -⟩, -⟩, -⟩ := hc
    refine ⟨rfl, rfl, rfl, Nat.pos_of_ne_zero fun e => ht (BitVec.eq_of_toNat_eq e)⟩
  · cases h

theorem atLeast_control_cases {c : Class} (h : atLeast c .control = true) : c = .control ∨ c = .service := by
  cases c <;> simp_all [atLeast, classRank]

/-- Every slot from 4 on is looked through for a requested hold. -/
theorem mem_requestedSlots_of_kind {i : Fin 16} (h : slotKind i = .requested) : i ∈ requestedSlots := by
  revert i; decide

theorem slotKind_requested {i : Fin 16} (h : i ∈ requestedSlots) : slotKind i = .requested := by
  revert i; decide

theorem HoldsShaped.placeRequested {s : State} (hs : HoldsShaped s.holds) {slot : Fin 16} {c : Class} {r : HoldRaw} {x : Hold}
    (hc : atLeast c .control = true) (hh : requestedHoldOf c r = some x) (hf : freeRequestedSlot s = some slot)
    (ht : requestedHoldAt r.tag.toNat s = none) : HoldsShaped (s.holds.set slot (some x)) := by
  obtain ⟨hk, hp, htag, hpos⟩ := requestedHoldOf_placed hh
  refine hs.place (hk.trans (slotKind_requested (freeRequestedSlot_mem hf)).symm) fun _ => ⟨⟨?_, ?_⟩, fun j y hy hyk e => ?_⟩
  · rw [hp]; exact (atLeast_control_cases hc).imp (congrArg some) (congrArg some)
  · exact ⟨_, htag, hpos, Nat.le_of_lt_succ r.tag.isLt⟩
  · have hj : j ∈ requestedSlots := mem_requestedSlots_of_kind ((hs.1 j y hy).symm.trans hyk)
    have hn := List.find?_eq_none.mp ht j hj
    simp [hy, hyk, e, htag] at hn

/-- The parts keep the hold table's shape. -/
theorem partsKeep_holds : PartsKeep (fun _ => True) (fun s => HoldsShaped s.parts.holds) where
  same := fun e h => e ▸ h
  numbers := fun _ _ => trivial
  slots := fun _ _ _ => trivial
  newSlot := fun _ _ => trivial
  table := fun _ _ h => h
  lamp := fun p _ _ h => by cases p <;> exact h
  mark := fun n _ h => (markDirty_parts n _) ▸ h
  clear := fun i h => h.clear i
  exam := fun _ h => h.place rfl (fun k => by cases k)
  requested := fun hc hh hf ht h => h.placeRequested hc hh hf ht
  system := fun hp ht h => by
    rw [holdDouse_dark, ht]
    exact h.place hp.kind.1 (fun k => absurd k hp.kind.2)
  faulted := fun ht h => by
    rw [faultCool_dark, ht]
    exact h
  ready := fun h => h
  write := fun h => by
    obtain ⟨st, e⟩ := startWrite_parts _
    exact e ▸ h
  flushWrite := fun h => by
    obtain ⟨st, e⟩ := startFlushWrite_parts _
    exact e ▸ h
  wrote := fun _ _ _ h => h
  failed := fun _ _ _ h => h
  retry := fun _ h => h
  started := fun clock records _ _ => by
    obtain ⟨-, -, hh, -⟩ := (boot_spec clock records _).1
    refine ⟨fun i x hx => ?_, fun i x hx => ?_, fun i j x y hx => ?_⟩ <;> exact absurd ((hh i).symm.trans hx) (by simp)

/-- Settles O57: a hold is placed in a slot of its kind, and a requested one only where no other has its tag. -/
theorem holdTableKeepsShape : Obligations.HoldTableKeepsShape := partsKeep_holds.kept

end Sys2Proof.Machine
end

section
/-! PROOF. The store, the bookings' slots, the clock and the configuration (`Obligations.StoreClockAndConfigKeepShape`): the store
and the bound on the slots are read off the parts, the distinctness of the slots off the table's changes. -/

namespace Sys2Proof.Machine

/-! ## The free slot (R7) -/

/-- A table of fewer than 48 bookings has a free slot: the lowest that no booking has. -/
theorem freeSlot_free {bs : List Booking} (h : bs.length < 48) :
    freeSlot bs < 48 ∧ (∀ b ∈ bs, b.slot ≠ freeSlot bs) ∧ ∀ n < freeSlot bs, ∃ b ∈ bs, b.slot = n := by
  have hex : ∃ n < 48, ∀ b ∈ bs, b.slot ≠ n := by
    refine Classical.byContradiction fun hn => ?_
    have hsub : ∀ n ∈ List.range 48, n ∈ bs.map (·.slot) := by
      refine fun n hr => Classical.byContradiction fun hfree => hn ⟨n, List.mem_range.mp hr, fun b hb e => ?_⟩
      exact hfree (List.mem_map.mpr ⟨b, hb, e⟩)
    have hle := length_le_of_nodup List.nodup_range hsub
    simp only [List.length_range, List.length_map] at hle
    omega
  cases hf : (List.range Config.tableCapacity).find? (fun n => bs.all (fun b => b.slot != n)) with
  | none =>
    obtain ⟨n, hn, hb⟩ := hex
    have hall : ¬ ∀ b ∈ bs, b.slot ≠ n := by simpa using List.find?_range_eq_none.mp hf n hn
    exact absurd hb hall
  | some m =>
    have hm : freeSlot bs = m := by simp [freeSlot, hf]
    obtain ⟨hfree, hlt, hleast⟩ := List.find?_range_eq_some.mp hf
    rw [hm]
    exact ⟨List.mem_range.mp hlt, by simpa using hfree, fun n hn => by simpa using hleast n hn⟩

/-! ## The bookings' slots -/

/-- `SlotsDistinct` of a list of bookings. -/
def SlotsApart (bs : List Booking) : Prop := (bs.map (·.slot)).Nodup ∧ ∀ b ∈ bs, b.slot < 48

theorem slotsApart_congr {bs cs : List Booking} (e : cs.map (·.slot) = bs.map (·.slot)) (h : SlotsApart bs) : SlotsApart cs := by
  refine ⟨e ▸ h.1, fun c hc => ?_⟩
  obtain ⟨b, hb, hs⟩ := List.mem_map.mp (e ▸ List.mem_map_of_mem (f := (·.slot)) hc : c.slot ∈ bs.map (·.slot))
  exact hs ▸ h.2 b hb

theorem slots_of_lasting {bs cs : List Booking} (e : bs.map Booking.lasting = cs.map Booking.lasting) :
    bs.map (·.slot) = cs.map (·.slot) := by
  have := congrArg (List.map fun x : Given × Class × LampSet × BookingState × Bool × Nat => x.2.2.2.2.2) e
  rwa [List.map_map, List.map_map] at this

theorem SlotsApart.evaluate {bs : List Booking} (h : SlotsApart bs) (cfg : ConfigRecord) (tags : List Nat)
    (pred : Option Booking) : SlotsApart (evaluateTags cfg tags pred bs) :=
  slotsApart_congr (slots_of_lasting (evaluateTags_lasting ..)) h

theorem SlotsApart.remove {bs : List Booking} (h : SlotsApart bs) (tag : Nat) : SlotsApart (removeTag tag bs) :=
  ⟨h.1.sublist (List.filter_sublist.map _), fun b hb => h.2 b (mem_removeTag.mp hb).1⟩

theorem SlotsApart.insert {bs : List Booking} (h : SlotsApart bs) {b : Booking} (hb : b.slot < 48)
    (hn : ∀ x ∈ bs, x.slot ≠ b.slot) : SlotsApart (insertBooking b bs) := by
  obtain ⟨pre, post, h1, h2, -⟩ := insertBooking_spec b bs
  refine ⟨?_, fun x hx => ?_⟩
  · have hp : ((insertBooking b bs).map (·.slot)).Perm (b.slot :: bs.map (·.slot)) := by
      rw [h2, h1]
      exact (List.perm_middle (a := b) (l₁ := pre) (l₂ := post)).map (·.slot)
    refine hp.nodup_iff.mpr (List.nodup_cons.mpr ⟨fun hm => ?_, h.1⟩)
    obtain ⟨x, hx, e⟩ := List.mem_map.mp hm
    exact hn x hx e
  · rcases (mem_insertBooking b x bs).mp hx with rfl | hx
    · exact hb
    · exact h.2 x hx

theorem SlotsApart.update {bs : List Booking} (h : SlotsApart bs) {f : Booking → Booking} (hf : ∀ b, (f b).slot = b.slot)
    (tag : Nat) : SlotsApart (updateBooking tag f bs) := by
  refine slotsApart_congr ?_ h
  rw [updateBooking, List.map_map]
  refine List.map_congr_left fun b _ => ?_
  simp only [Function.comp]; split
  · exact hf b
  · rfl

theorem RoomMoves.keeps_slots {s t : State} (m : RoomMoves s t) : SlotsApart s.roomUse.bookings → SlotsApart t.roomUse.bookings := by
  induction m with
  | same h => exact fun hs => h ▸ hs
  | trans _ _ ih1 ih2 => exact fun hs => ih2 (ih1 hs)
  | gap _ _ h | sessionOn _ _ h | sessionOff _ h => exact fun hs => h ▸ hs
  | shown h =>
    intro hs
    rw [h]
    refine slotsApart_congr ?_ hs
    rw [List.map_map]
    refine List.map_congr_left fun b _ => ?_
    unfold Function.comp Booking.seenShown; split <;> rfl
  | lead b _ h => exact fun hs => h ▸ hs.update (f := fun x => { x with state := .warming }) (fun _ => rfl) b.given.tag
  | start b shown _ _ h =>
    exact fun hs => h ▸ hs.update (f := fun x => { x with state := .running, shownSinceStart := shown }) (fun _ => rfl) b.given.tag
  | ended b _ _ _ h => exact fun hs => h ▸ hs.remove b.given.tag
  | departed b _ h => exact fun hs => h ▸ (hs.remove b.given.tag).evaluate _ _ _
  | book c g a _ _ _ hl h =>
    obtain ⟨hlt, hfree, -⟩ := freeSlot_free hl
    exact fun hs => h ▸ (hs.insert (b := admitted g (ownerOf c) (freeSlot _) a) hlt hfree).evaluate _ _ _
  | amend b g a hb _ _ _ h =>
    intro hs
    rw [h]
    refine SlotsApart.evaluate ((hs.remove g.tag).insert (b := { b with
      given := g, assignment := a.assignment, bridged := a.bridged, plannedA := a.plannedA, plannedB := a.plannedB })
      (hs.2 b (bookingAt_mem hb)) fun x hx e => ?_) _ _ _
    obtain ⟨hx, ht⟩ := mem_removeTag.mp hx
    exact ht ((eq_of_nodup_map hs.1 hx (bookingAt_mem hb) e) ▸ bookingAt_tag hb)
  | extend b fin _ _ _ _ h =>
    exact fun hs => h ▸ (hs.update (f := fun x => { x with given := { x.given with fin := fin } }) (fun _ => rfl) b.given.tag).evaluate
      _ _ _
  | @boot s clock records =>
    intro _
    obtain ⟨hslot, hnodup, -⟩ := (boot_spec clock records s).1.tableRebuilt
    exact ⟨hnodup, fun b hb => (hslot b hb).1⟩

/-! ## The store -/

/-- `StoreShape` of a store. -/
def Store.Shape (st : Store) : Prop :=
  st.records.length = 67 ∧ st.dirty.Nodup ∧ st.waiting.Nodup ∧ (∀ n ∈ st.waiting, n ∈ st.dirty) ∧ (∀ n ∈ st.dirty, n < 67)
    ∧ ∀ w, st.writing = some w → w.number < 67

theorem storeShape_iff (s : State) : StoreShape s ↔ s.store.Shape := Iff.rfl

theorem markDirty_shape {n : Nat} {s : State} (hn : n < 67) (h : s.store.Shape) : (markDirty n s).store.Shape := by
  obtain ⟨h1, h2, h3, h4, h5, h6⟩ := h
  unfold markDirty; split
  · exact ⟨h1, h2, h3, h4, h5, h6⟩
  · next hc =>
    have hc : n ∉ s.store.dirty := by simpa using hc
    refine ⟨h1, ?_, h3, fun m hm => List.mem_append_left _ (h4 m hm), fun m hm => ?_, h6⟩
    · exact List.nodup_append.mpr ⟨h2, List.pairwise_singleton _ n, fun a ha b hb => by
        rw [List.mem_singleton.mp hb]; exact fun e => hc (e ▸ ha)⟩
    · rcases List.mem_append.mp hm with hm | hm
      · exact h5 m hm
      · exact List.mem_singleton.mp hm ▸ hn

/-- A record that waits for nothing is taken out of the dirty set and under way. -/
theorem Store.Shape.take {st : Store} (h : st.Shape) {n : Nat} (hn : n ∈ st.dirty) (hw : n ∉ st.waiting) (r : StoredRecord) :
    Store.Shape { st with dirty := st.dirty.erase n, writing := some { number := n, record := r } } := by
  obtain ⟨h1, h2, h3, h4, h5, -⟩ := h
  refine ⟨h1, h2.erase n, h3, fun m hm => ?_, fun m hm => h5 m (List.mem_of_mem_erase hm), ?_⟩
  · exact (List.mem_erase_of_ne (fun e : m = n => hw (e ▸ hm))).mpr (h4 m hm)
  · rintro w hw
    cases hw
    exact h5 n hn

theorem Store.Shape.unwait {st : Store} (h : st.Shape) (n : Nat) : Store.Shape { st with waiting := st.waiting.erase n } := by
  obtain ⟨h1, h2, h3, h4, h5, h6⟩ := h
  exact ⟨h1, h2, h3.erase n, fun m hm => h4 m (List.mem_of_mem_erase hm), h5, h6⟩

theorem startWrite_shape {s : State} (h : s.store.Shape) : (startWrite s).store.Shape := by
  unfold startWrite; split
  · next n _ ho =>
    have hw : n ∉ s.store.waiting := by simpa using List.find?_some ho
    exact h.take (List.mem_of_find?_eq_some ho) hw _
  · exact h

theorem startFlushWrite_shape {s : State} (h : s.store.Shape) : (startFlushWrite s).store.Shape := by
  unfold startFlushWrite; split
  · next n rest _ hd =>
    have hn : n ∉ s.store.waiting.erase n := h.2.2.1.not_mem_erase
    have := (h.unwait n).take (n := n) (by simp [hd]) hn (checked (recordContent n s))
    simpa [hd] using this
  · exact h

theorem endWrite_shape (r : ReadBack) (w : Writing) {s : State} (h : s.store.Shape) : (endWrite r w s).store.Shape := by
  obtain ⟨h1, h2, h3, h4, h5, -⟩ := h
  exact ⟨by simpa [endWrite] using h1, h2, h3, h4, h5, fun _ hw => by cases hw⟩

theorem queueRetry_shape {n : Nat} {s : State} (hn : n < 67) (h : s.store.Shape) : (queueRetry n s).store.Shape := by
  obtain ⟨h1, h2, h3, h4, h5, h6⟩ := h
  refine ⟨h1, ?_, ?_, fun m hm => ?_, fun m hm => ?_, h6⟩
  · exact List.nodup_cons.mpr ⟨h2.not_mem_erase, h2.erase n⟩
  · exact List.nodup_cons.mpr ⟨h3.not_mem_erase, h3.erase n⟩
  · rcases List.mem_cons.mp hm with rfl | hm
    · exact List.mem_cons_self
    · by_cases e : m = n
      · exact e ▸ List.mem_cons_self
      · exact List.mem_cons_of_mem _ ((List.mem_erase_of_ne e).mpr (h4 m (List.mem_of_mem_erase hm)))
  · rcases List.mem_cons.mp hm with rfl | hm
    · exact hn
    · exact h5 m (List.mem_of_mem_erase hm)

theorem recordFails_lt {records : List StoredRecord} {bs : List Booking} {n : Nat} (h : RecordFails records bs n) : n < 67 := by
  rcases h with ⟨rfl, -⟩ | ⟨i, rfl, -⟩ | ⟨k, rfl, -⟩ | ⟨p, rfl, -⟩ | ⟨slot, hs, rfl, -⟩
  · omega
  · have := i.isLt; omega
  · have := k.isLt; omega
  · cases p <;> decide
  · omega

/-- The store after the load: the records that failed stand in the order of their numbers, and the first is under way (R200). -/
theorem AtStartUp.storeShape {s t : State} (h : AtStartUp s t) (hl : t.store.records.length = 67) : t.store.Shape := by
  obtain ⟨-, -, -, -, -, -, -, -, -, -, -, -, -, -, -, -, hwait, ⟨-, ⟨l, hsort, hmem, hnil, hcons, -⟩, -⟩, -⟩ := h
  have hlt : ∀ n ∈ l, n < 67 := fun n hn => recordFails_lt ((hmem n).mp hn)
  have hnodup : l.Nodup := hsort.imp Nat.ne_of_lt
  refine ⟨hl, ?_, by rw [hwait]; exact List.nodup_nil, by rw [hwait]; simp, ?_, ?_⟩
  · cases l with
    | nil => rw [(hnil rfl).1]; exact List.nodup_nil
    | cons n rest => rw [(hcons n rest rfl).1]; exact (List.nodup_cons.mp hnodup).2
  · cases l with
    | nil => rw [(hnil rfl).1]; simp
    | cons n rest => rw [(hcons n rest rfl).1]; exact fun m hm => hlt m (by simp [hm])
  · cases l with
    | nil => rw [(hnil rfl).2.1]; simp
    | cons n rest =>
      rw [(hcons n rest rfl).2]
      rintro w hw
      cases hw
      exact hlt n (by simp)

theorem dousedDirty_shape {s : State} (h : s.store.Shape) : Store.Shape { s.store with dirty := dousedDirty s } := by
  have hm : ∀ {st : Store} (n : Nat), n < 67 → st.Shape → Store.Shape { st with dirty := dirtyWith n st.dirty } := by
    intro st n hn hst
    have := markDirty_shape (s := s.setStore st) hn hst
    rw [markDirty_eq] at this
    exact this
  unfold dousedDirty; dsimp only
  split
  · split
    · exact hm 18 (by decide) (hm 17 (by decide) h)
    · exact hm 18 (by decide) h
  · split
    · exact hm 17 (by decide) h
    · exact h

/-- The store keeps its shape, and the bookings' slots stay below 48. -/
def ViewParts.Stored (v : ViewParts) : Prop := v.store.Shape ∧ ∀ n ∈ v.slots, n < 48

theorem partsKeep_store : PartsKeep (fun n => n < 67) (fun s => s.parts.Stored) where
  same := fun e h => e ▸ h
  numbers := fun n hn => by omega
  slots := fun h b hb => by
    have := h.2 b.slot (List.mem_map_of_mem hb)
    unfold slotNo; omega
  newSlot := fun h hl => by
    have := (freeSlot_free hl).1
    unfold slotNo; omega
  table := fun bs hb h => by
    refine ⟨h.1, fun n hn => ?_⟩
    obtain ⟨b, hm, rfl⟩ := List.mem_map.mp hn
    have := hb b hm
    unfold slotNo at this; omega
  lamp := fun p _ _ h => by cases p <;> exact h
  mark := fun n hn h => (markDirty_parts n _) ▸ ⟨markDirty_shape hn h.1, h.2⟩
  clear := fun _ h => h
  exam := fun _ h => h
  requested := fun _ _ _ _ h => h
  system := fun {s t} _ _ _ ht h => by
    have hst : t.store = s.store := congrArg ViewParts.store ht
    rw [holdDouse_dark, ht]
    exact ⟨hst ▸ dousedDirty_shape (s := t) (hst ▸ h.1), h.2⟩
  faulted := fun {s t} ht h => by
    have hst : t.store = s.store := congrArg ViewParts.store ht
    rw [faultCool_dark, ht]
    exact ⟨hst ▸ dousedDirty_shape (s := t) (hst ▸ h.1), h.2⟩
  ready := fun h => h
  write := fun {s} h => by
    refine ⟨startWrite_shape h.1, ?_⟩
    obtain ⟨st, e⟩ := startWrite_parts s
    exact e ▸ h.2
  flushWrite := fun {s} h => by
    refine ⟨startFlushWrite_shape h.1, ?_⟩
    obtain ⟨st, e⟩ := startFlushWrite_parts s
    exact e ▸ h.2
  wrote := fun r w _ h => ⟨endWrite_shape r w h.1, h.2⟩
  failed := fun r w hw h => ⟨queueRetry_shape (h.1.2.2.2.2.2 w hw) (endWrite_shape r w h.1), h.2⟩
  retry := fun n h => ⟨h.1.unwait n, h.2⟩
  started := fun {s t} clock records hl h => by
    obtain ⟨hb, -, hrec⟩ := boot_spec clock records t
    refine ⟨hb.storeShape (by rw [hrec]; exact hl.trans h.1.1), fun n hn => ?_⟩
    obtain ⟨b, hm, rfl⟩ := List.mem_map.mp hn
    exact (hb.tableRebuilt.1 b hm).1

/-- The bound on the slots, read off the parts. -/
theorem partsStored_iff (s : State) : s.parts.Stored ↔ StoreShape s ∧ ∀ b ∈ s.bookings, b.slot < 48 := by
  simp [ViewParts.Stored, State.parts, storeShape_iff]

/-! ## The clock and the configuration -/

theorem clockStep_inRange {c : Clock} (hm : c.minute ≤ 2147483647) (hs : c.second ≤ 59) :
    c.step.minute ≤ 2147483647 ∧ c.step.second ≤ 59 := by
  unfold Clock.step Clock.rollsOver; split
  · next hr =>
    refine ⟨?_, Nat.zero_le _⟩
    dsimp only; split
    · next hlt => exact hlt
    · exact hm
  · next hr =>
    have : ¬ 59 ≤ c.second := by simpa using hr
    exact ⟨hm, by show c.second + 1 ≤ 59; omega⟩

/-- An operation keeps the clock and the configuration in their ranges. -/
def RangesKept (s t : State) : Prop := ClockAndConfigInRange s → ClockAndConfigInRange t

theorem RangesKept.of_same {s t : State} (hc : t.clock = s.clock) (hf : t.config = s.config) : RangesKept s t := by
  unfold RangesKept ClockAndConfigInRange; rw [hc, hf]; exact id

theorem RangesKept.of_fixed {s t : State} (h : t.fixed = s.fixed) : RangesKept s t :=
  .of_same (congrArg ViewFixed.clock h) (congrArg ViewFixed.config h)

theorem RangesKept.trans {s t u : State} (h : RangesKept s t) (k : RangesKept t u) : RangesKept s u := k ∘ h

/-- The configuration that the load takes is in range, stored or default (R198, R200). -/
theorem AtStartUp.configInRange {s t : State} (h : AtStartUp s t) : ConfigInRange t.config := by
  obtain ⟨-, -, -, -, -, -, -, -, -, -, -, -, -, -, -, -, -, -, ⟨⟨hstored, hfails, -⟩, -⟩, -⟩ := h
  by_cases hf : ConfigFails t.store.records
  · rw [hfails hf]
    unfold ConfigInRange; decide
  · obtain ⟨c, hc, hs⟩ : ∃ c, ConfigInRange c ∧ Stored (storedAt t.store.records 0) c.bytes :=
      Classical.byContradiction fun hn => hf fun c hc hs => hn ⟨c, hc, hs⟩
    exact (hstored c hc hs) ▸ hc

/-- A state at the start of start-up whose clock is in range. -/
theorem AtStartUp.ranges {s t : State} {c : Clock} (h : AtStartUp s t) (ht : t.clock = c) (hm : c.minute ≤ 2147483647)
    (hs : c.second ≤ 59) : ClockAndConfigInRange t := by
  subst ht; exact ⟨hm, hs, h.configInRange⟩

theorem boot_ranges (clock : Clock) (records : List StoredRecord) (s : State) (hm : clock.minute ≤ 2147483647)
    (hs : clock.second ≤ 59) : ClockAndConfigInRange (boot clock records s) :=
  (boot_spec clock records s).1.ranges (boot_spec clock records s).2.1 hm hs

theorem startFlushWrite_fixed (s : State) : (startFlushWrite s).fixed = s.fixed := by
  unfold startFlushWrite; split <;> rfl

theorem computeFor_fixed (i : Input) (s : State) : (computeFor i s).fixed = s.fixed := by
  unfold computeFor; split <;> simp

theorem computeIfShown_fixed (s : State) : (computeIfShown s).fixed = s.fixed := by
  unfold computeIfShown; split
  · split <;> simp
  · rfl

theorem usabilityAfter_fixed (was : Bool) (p : Pos) (s : State) : (usabilityAfter was p s).fixed = s.fixed := by
  unfold usabilityAfter; split <;> simp

theorem recover_fixed (a b : Bool) (x : Thermal) (o : Bool) (s : State) : (recover a b x o s).fixed = s.fixed := by
  simp [recover, recoveryHolds, offerGate, computeIfShown_fixed]

theorem messageDelivered_fixed (s : State) : (messageDelivered s).fixed = s.fixed := by
  unfold messageDelivered deliver; split
  · unfold strikeDelivered; split <;> simp
  all_goals simp

theorem sampleFire_fixed (s : State) : (sampleFire s).fixed = s.fixed := by
  unfold sampleFire; dsimp only; split <;> simp

theorem clearFailure_fixed (p : Pos) (s : State) : (clearFailure p s).fixed = s.fixed := by
  unfold clearFailure; dsimp only; split <;> simp [usabilityAfter_fixed]

theorem writeEnds_fixed (r : ReadBack) (w : Writing) (s : State) : (writeEnds r w s).fixed = s.fixed := by
  unfold writeEnds; dsimp only; split <;> (rw [startWrite_fixed]; rfl)

theorem startSession_fixed (s : State) : (startSession s).fixed = s.fixed := by
  unfold startSession; split
  · rfl
  · simp

theorem amendPendingTable_fixed (b : Booking) (g : Given) (a : Admission) (s : State) :
    (amendPendingTable b g a s).fixed = s.fixed := by
  unfold amendPendingTable; dsimp only; split <;> simp

theorem writeProfile_ranges (i : Input) (p : Profile) (s : State) : RangesKept s (writeProfile i p s) := by
  have h : ∀ t, (finish (computeFor i (markDirty (1 + i.val) t))).fixed = t.fixed := fun t => by simp [computeFor_fixed]
  exact .trans (t := { s with profiles := s.profiles.set i p }) (.of_same rfl rfl) (.of_fixed (h _))

theorem writePreset_ranges (n : PresetNo) (p : Preset) (s : State) : RangesKept s (writePreset n p s) := by
  have h : RangesKept s (s.setGeom { s.geom with presets := s.geom.presets.set n p }) := .of_same rfl rfl
  unfold writePreset; dsimp only; split <;> exact h.trans (.of_fixed (by simp))

theorem setTime_ranges {m sec : Nat} (s : State) (hm : m ≤ Config.topMinute) (hs : sec ≤ 59) : RangesKept s (setTime m sec s) := by
  have h : RangesKept s (s.setClock { minute := m, second := sec, isSet := true }) := fun hc => ⟨hm, hs, hc.2.2⟩
  exact h.trans (.of_fixed (t := setTime m sec s) (by unfold setTime; simp))

theorem writeConfig_ranges {cfg : ConfigRecord} (s : State) (h : ConfigInRange s.config → ConfigInRange cfg) :
    RangesKept s (writeConfig cfg s) := by
  have hc : RangesKept s (s.setConfig cfg) := fun ⟨hm, hs, hc⟩ => ⟨hm, hs, h hc⟩
  exact hc.trans (.of_fixed (t := writeConfig cfg s) (by unfold writeConfig; simp))

/-- Every effect keeps the clock and the configuration in their ranges. -/
theorem Effect.keeps_ranges {s t : State} (h : Effect s t) : RangesKept s t := by
  induction h with
  | refl s => exact id
  | trans _ _ ih₁ ih₂ => exact ih₁.trans ih₂
  | link | panel | notice | noticesRead | freeValue | engineLatch | matrixLatch | fireLevel => exact .of_same rfl rfl
  | clock s => exact fun ⟨hm, hs, hc⟩ => ⟨(clockStep_inRange hm hs).1, (clockStep_inRange hm hs).2, hc⟩
  | time s m sec hm hs => exact setTime_ranges s hm hs
  | config s cfg h => exact fun hk => writeConfig_ranges s h hk
  | powerReset s d => exact fun _ => boot_ranges _ _ _ (by decide) (by decide)
  | restart s failed => exact fun ⟨hm, hs, _⟩ => boot_ranges _ _ _ hm hs
  | profile s i p => exact writeProfile_ranges i p s
  | preset s n p => exact writePreset_ranges n _ s
  | startUpEnd s =>
    have h : RangesKept s { sampleFire s with phase := .running, link := s.link.started, panel := none } :=
      .of_same (congrArg ViewFixed.clock (sampleFire_fixed s)) (congrArg ViewFixed.config (sampleFire_fixed s))
    exact h.trans (.of_fixed (t := endStartUp s) (by unfold endStartUp; simp))
  | lineEdge s => exact .of_fixed (by simp)
  | flush s => exact .of_same (congrArg ViewFixed.clock (startFlushWrite_fixed _)) (congrArg ViewFixed.config (startFlushWrite_fixed _))
  | writeEnd s r w => exact .of_fixed (writeEnds_fixed r w s)
  | flushWriteEnd s r w => exact .of_fixed (startFlushWrite_fixed _)
  | retry => exact .of_fixed (by simp)
  | sessionOn s => exact .of_fixed (startSession_fixed s)
  | select s sel => exact .of_fixed (by unfold makeSelection; split <;> simp)
  | book s c g a => exact .of_fixed (by simp [admitBooking])
  | amend => exact .of_fixed (amendPendingTable_fixed _ _ _ _)
  | extend s b fin => exact .of_fixed (by simp [amendActiveTable])
  | remove s b => exact .of_fixed (by simp [removeBooking])
  | fit => exact .of_fixed (by simp [fitLamp, usabilityAfter_fixed])
  | unfit => exact .of_fixed (by simp [removeLamp, usabilityAfter_fixed])
  | clear => exact .of_fixed (clearFailure_fixed _ _)
  | override => exact .of_fixed (by simp [applyOverride])
  | mute => exact .of_fixed (by simp [setMute])
  | delivered s => exact .of_fixed (by simp [messageDelivered_fixed])
  | recovery s a b x o => exact .of_fixed (by simp [recover_fixed])
  | faulted s => exact .of_fixed (by simp [channelFaults])
  | status s a b x o => exact .of_fixed (by simp [statusTaken])
  | endNow | sessionOff | hold | lift | second | minute | unstored | continuous | window | cooldown | unattended | grace
    | takeTimeout | settleTimeout | loss | frameEdge | lampSense | thermal | door | takeAck | presence | fire =>
    exact .of_fixed (by simp)

/-! ## The statement -/

/-- The store, the bound on the slots and the slots apart are kept together. -/
theorem store_and_slots_kept : KeptByStep (fun s => StoreShape s ∧ SlotsDistinct s) := by
  rintro s t ⟨hs, hd, hb⟩ h
  obtain ⟨ht, -⟩ := (partsStored_iff t).mp (partsKeep_store.kept s t ((partsStored_iff s).mpr ⟨hs, hb⟩) h)
  exact ⟨ht, kept_of_roomMoves (P := fun s => SlotsApart s.bookings) (fun _ _ k => k) (fun _ _ m => m.keeps_slots) s t ⟨hd, hb⟩ h⟩

/-- Settles O59: the store by its own operations, the slots by the table's changes, the clock and the configuration by the only
effects that write them. -/
theorem storeClockAndConfigKeepShape : Obligations.StoreClockAndConfigKeepShape :=
  ⟨store_and_slots_kept, kept_of_effects (fun _ _ h => h) (fun _ _ h => h.keeps_ranges)⟩

end Sys2Proof.Machine
end

section
/-! PROOF. The lamps (`Obligations.LampsKeepShape`): every effect moves each lamp along a path of elementary changes, and each of
them keeps the lamp's shape and strikes none whose wear is at its spent limit. -/

namespace Sys2Proof.Machine

/-! ## The elementary changes of a lamp -/

/-- A lamp's way through an event, by the changes that the lamp unit makes. -/
inductive LampPath : Lamp → Lamp → Prop
  | moves {l m : Lamp} : LampMoves l m → LampPath l m
  | trans {l m n : Lamp} : LampPath l m → LampPath m n → LampPath l n
  | window (l : Lamp) (w : Option Nat) : l.state = .striking → LampPath l { l with window := w }
  | cooldown (l : Lamp) (n : Nat) : l.state = .cooling → 1 ≤ n → n ≤ l.cooldown → LampPath l { l with cooldown := n }
  | unstored (l : Lamp) (n : Nat) : n ≤ 59 → LampPath l { l with unstored := n }
  | proved (l : Lamp) (n a : Nat) : l.state = .lit → n ≤ 600 → a ≤ l.attempts →
      LampPath l { l with continuous := n, attempts := a }
  | worn (l : Lamp) (w : Nat) : l.state = .lit → w ≤ 4294967295 → LampPath l { l with record := { l.record with wear := w } }
  | flags (l : Lamp) (warned derated : Bool) : LampPath l { l with warned := warned, derated := derated }
  | lit (l : Lamp) (w k : Nat) : l.state = .striking → w ≤ 4294967295 → k ≤ 65535 →
      LampPath l { l with state := .lit, window := none, continuous := 0, record := { l.record with wear := w, strikes := k } }
  | counted (l : Lamp) (w : Nat) : l.burning = true → l.attempts + 1 < 3 → (l.record.wear ≤ 4294967295 → w ≤ 4294967295) →
      LampPath l { l with state := .cooling, attempts := l.attempts + 1, cooldown := 60, window := none, continuous := 0,
                          record := { l.record with wear := w } }
  | failed (l : Lamp) (w : Nat) : l.burning = true → (l.record.wear ≤ 4294967295 → w ≤ 4294967295) →
      LampPath l { l with state := .failed, attempts := l.attempts + 1, cooldown := 0, window := none, continuous := 0,
                          record := { l.record with wear := w } }
  | cooled (l : Lamp) (st : LampState) : l.state = .cooling → st = .cold ∨ st = .spent →
      LampPath l { l with state := st, cooldown := 0 }
  | cleared (l : Lamp) (st : LampState) (n : Nat) : l.state = .failed → st = .cold ∨ st = .spent → n ≤ l.cooldown →
      LampPath l { l with state := st, attempts := 0, cooldown := n }
  | fitted (l : Lamp) (serial rated : Nat) : LampPath l (fittedLamp serial rated l)
  | removed (l : Lamp) : l.state.mayRemove = true → LampPath l (removedLamp l)
  | loaded (l : Lamp) {m : Lamp} : m.Shape → m.state ≠ .striking → LampPath l m

theorem LampPath.refl (l : Lamp) : LampPath l l := .moves (.refl l)

theorem LampMoves.keeps_shape {l m : Lamp} (h : LampMoves l m) (hs : l.Shape) : m.Shape := by
  obtain ⟨h1, h2, h3, h4, h5, h6, h7, h8, h9, h10, h11, h12⟩ := hs
  obtain ⟨hr, ha, -, -, hm⟩ := h
  unfold Lamp.Shape
  rw [hr, ha]
  rcases hm with ⟨e1, e2, e3, e4, e5⟩ | ⟨c1, e1, -, e3, e2, e4, e5⟩ | ⟨c1, e1, e2, e3, e4, e5⟩
  · rw [e1, e2, e3, e4, e5]
    exact ⟨h1, h2, h3, h4, h5, h6, h7, h8, h9, h10, h11, h12⟩
  · simp_all
  · have hf : l.record.fitted ≠ false := fun k => by rcases c1 with c | c | c <;> simp [c] at h1 <;> exact absurd k (by simp [h1])
    have hn : l.state ≠ .failed := fun k => by rw [k] at c1; simp at c1
    refine ⟨by simp [hf, e1], by simp [e3], fun _ => by omega, by omega, by simp [e1], h6, fun _ => h7 hn, by omega, fun _ => e4, ?_, h11,
      h12⟩
    rcases e5 with e5 | e5 <;> rw [e5]
    · exact h10
    · exact Nat.zero_le _

/-- Every change keeps the lamp's shape (R56, R61, R63, R66, R68, R82). -/
theorem LampPath.keeps_shape {l m : Lamp} (h : LampPath l m) : l.Shape → m.Shape := by
  induction h with
  | moves h => exact h.keeps_shape
  | trans _ _ ih₁ ih₂ => exact ih₂ ∘ ih₁
  | loaded l hm => exact fun _ => hm
  | fitted => exact fun _ => by simp [Lamp.Shape, fittedLamp]
  | flags => exact id
  | window l w hs =>
    rintro ⟨h1, -, h3, h4, h5, h6, h7, h8, h9, h10, h11, h12⟩
    exact ⟨h1, fun _ => hs, h3, h4, h5, h6, h7, h8, h9, h10, h11, h12⟩
  | cooldown l n hs hn hle =>
    rintro ⟨h1, h2, -, h4, h5, h6, h7, h8, h9, h10, h11, h12⟩
    exact ⟨h1, h2, fun _ => hn, Nat.le_trans hle h4, fun k => absurd hs k, h6, h7, h8, h9, h10, h11, h12⟩
  | unstored l n hn =>
    rintro ⟨h1, h2, h3, h4, h5, h6, h7, h8, h9, -, h11, h12⟩
    exact ⟨h1, h2, h3, h4, h5, h6, h7, h8, h9, hn, h11, h12⟩
  | proved l n a hs hn ha =>
    rintro ⟨h1, h2, h3, h4, h5, h6, h7, -, -, h10, h11, h12⟩
    exact ⟨h1, h2, h3, h4, h5, Nat.le_trans ha h6, fun k => Nat.le_trans ha (h7 k), hn, fun k => absurd hs k, h10, h11, h12⟩
  | worn l w hs hw =>
    rintro ⟨h1, h2, h3, h4, h5, h6, h7, h8, h9, h10, -, h12⟩
    exact ⟨h1, h2, h3, h4, h5, h6, h7, h8, h9, h10, hw, h12⟩
  | lit l w k hs hw hk =>
    rintro ⟨h1, h2, h3, h4, h5, h6, h7, h8, h9, h10, -, -⟩
    simp_all [Lamp.Shape]
  | counted l w hb ha hw =>
    rintro ⟨h1, h2, h3, h4, h5, h6, h7, h8, h9, h10, h11, h12⟩
    have hf : l.record.fitted = true := by rcases (burning_iff l).mp hb with k | k <;> simp_all
    exact ⟨by simp [hf], by simp, by simp, by simp, by simp, by dsimp only; omega, fun _ => by dsimp only; omega,
      Nat.zero_le _, fun _ => rfl, h10, hw h11, h12⟩
  | failed l w hb hw =>
    rintro ⟨h1, h2, h3, h4, h5, h6, h7, h8, h9, h10, h11, h12⟩
    have hf : l.record.fitted = true := by rcases (burning_iff l).mp hb with k | k <;> simp_all
    have ha : l.attempts ≤ 2 := h7 (by rcases (burning_iff l).mp hb with k | k <;> simp [k])
    exact ⟨by simp [hf], by simp, by simp, Nat.zero_le _, fun _ => rfl, by dsimp only; omega, by simp, Nat.zero_le _, fun _ => rfl,
      h10, hw h11, h12⟩
  | cooled l st hs hst =>
    rintro ⟨h1, h2, h3, h4, h5, h6, h7, h8, h9, h10, h11, h12⟩
    rcases hst with rfl | rfl <;> simp_all [Lamp.Shape]
  | cleared l st n hs hst hn =>
    rintro ⟨h1, h2, h3, h4, h5, h6, h7, h8, h9, h10, h11, h12⟩
    rcases hst with rfl | rfl <;> simp_all [Lamp.Shape]
  | removed l hs =>
    rintro ⟨h1, h2, h3, h4, h5, h6, h7, h8, h9, h10, h11, h12⟩
    have hst : l.state = .cold ∨ l.state = .failed ∨ l.state = .spent := by simpa [LampState.mayRemove, or_assoc] using hs
    rcases hst with k | k | k <;> simp_all [Lamp.Shape, removedLamp, LampRecord.cleared]

/-- The lamp is below its spent limit if it is STRIKING (R87). -/
def Lamp.StrikesBelow (l : Lamp) : Prop := l.state = .striking → l.record.wear < l.record.spentLimit

theorem LampMoves.keeps_below {l m : Lamp} (h : LampMoves l m) (hs : l.StrikesBelow) : m.StrikesBelow := by
  obtain ⟨hr, -, -, -, hm⟩ := h
  unfold Lamp.StrikesBelow
  rw [hr]
  rcases hm with ⟨e, -⟩ | ⟨-, -, hw, -⟩ | ⟨-, e, -⟩
  · exact fun k => hs (e.symm.trans k)
  · exact fun _ => hw
  · exact fun k => by rw [e] at k; cases k

/-- No change strikes a lamp at its spent limit, and none wears a STRIKING one. -/
theorem LampPath.keeps_below {l m : Lamp} (h : LampPath l m) : l.StrikesBelow → m.StrikesBelow := by
  induction h with
  | moves h => exact h.keeps_below
  | trans _ _ ih₁ ih₂ => exact ih₂ ∘ ih₁
  | loaded l _ hn => exact fun _ k => absurd k hn
  | window | cooldown | unstored | proved | flags => exact id
  | worn l w hs => exact fun _ k => by rw [hs] at k; cases k
  | lit | counted | failed | fitted | removed => exact fun _ k => by cases k
  | cooled l st _ hst | cleared l st _ _ hst => exact fun _ k => by rcases hst with rfl | rfl <;> cases k

/-! ## Both lamps, through the operations of the lamp unit -/

/-- Each lamp of the second state is reached from that of the first. -/
def LampPaths (s t : State) : Prop := ∀ p, LampPath (s.lamp p) (t.lamp p)

theorem LampPaths.refl (s : State) : LampPaths s s := fun _ => .refl _

theorem LampPaths.trans {s t u : State} (h : LampPaths s t) (k : LampPaths t u) : LampPaths s u := fun p => (h p).trans (k p)

theorem LampPaths.of_moves {s t : State} (h : Moves s t) : LampPaths s t := fun p => .moves (h.lamps p)

theorem LampPaths.of_same {s t : State} (h : ∀ p, t.lamp p = s.lamp p) : LampPaths s t := fun p => (h p).symm ▸ .refl _

theorem LampPaths.finished {s t : State} (h : LampPaths s t) : LampPaths s (finish t) :=
  h.trans (.of_same fun p => finish_lamp t p)

/-- A change of one lamp, in a state whose other lamp stands. -/
theorem LampPaths.set {s t : State} {p : Pos} {l : Lamp} (ht : ∀ q, t.lamp q = s.lamp q) (h : LampPath (s.lamp p) l) :
    LampPaths s (t.setLamp p l) := by
  intro q
  rw [State.setLamp_lamp]
  split
  · next e => exact e ▸ h
  · rw [ht]; exact .refl _

theorem marked_lamps (n : Nat) (s : State) (p : Pos) : (s.marked n).lamp p = s.lamp p := State.marked_lamp s n p

theorem markLampDirty_path (p : Pos) (s : State) : LampPaths s (markLampDirty p s) := by
  rw [markLampDirty_eq]
  exact .set (marked_lamps _ s) (.unstored _ 0 (Nat.zero_le _))

theorem addWear_le (w n : Nat) : addWear w n ≤ 4294967295 := Nat.min_le_left _ _

/-- The states of the two lamps after an attempt that did not last: the lamp as it was counted, marked and cooled or failed. -/
theorem windowRunsOut_path {p : Pos} {s : State} (h : (s.lamp p).state = .striking) : LampPaths s (windowRunsOut p s) := by
  have hb : (s.lamp p).burning = true := by simp [Lamp.burning, h]
  unfold windowRunsOut
  simp only [offerLamp_eq, markLampDirty_eq, State.setLamp_marked, State.setLamp_setLamp, State.setLamp_lampOffered,
    State.setLamp_lamp_same, Config.failedAttempts]
  split
  · next hlt =>
    rw [cool_striking _ _ _ (by simp [h])]
    simp only [State.setLamp_setLamp, State.setLamp_lamp_same]
    exact .trans (.set (by simp) ((LampPath.counted _ _ hb hlt (fun _ => addWear_le _ _)).trans (.unstored _ 0 (Nat.zero_le _))))
      (.of_moves ((moves_raiseNotice _ _ _ _).trans (moves_gapExit _ _)))
  · unfold enterFailed
    simp only [State.setLamp_setLamp, State.setLamp_lamp_same]
    exact .trans (.set (by simp) ((LampPath.failed _ _ hb (fun _ => addWear_le _ _)).trans (.unstored _ 0 (Nat.zero_le _))))
      (.of_moves ((moves_raiseNotice _ _ _ _).trans ((moves_gapExit _ _).trans (moves_usabilityChanged _))))

theorem dropLamp_path {p : Pos} {s : State} (h : (s.lamp p).state = .lit) : LampPaths s (dropLamp p s) := by
  have hb : (s.lamp p).burning = true := by simp [Lamp.burning, h]
  unfold dropLamp
  simp only [markLampDirty_eq, State.setLamp_marked, State.setLamp_setLamp, State.setLamp_lamp_same, Config.failedAttempts]
  split
  · next hlt =>
    rw [cool_lit _ _ _ (by simp [h])]
    simp only [State.setLamp_setLamp, State.setLamp_lamp_same, State.setLamp_marked]
    exact .trans (.set (by simp) ((LampPath.counted _ _ hb hlt id).trans (.unstored _ 0 (Nat.zero_le _))))
      (.of_moves ((moves_raiseNotice _ _ _ _).trans (moves_gapExit _ _)))
  · unfold enterFailed
    simp only [State.setLamp_setLamp, State.setLamp_lamp_same]
    exact .trans (.set (by simp) ((LampPath.failed _ _ hb id).trans (.unstored _ 0 (Nat.zero_le _))))
      (.of_moves ((moves_raiseNotice _ _ _ _).trans ((moves_gapExit _ _).trans (moves_usabilityChanged _))))

theorem enterLit_path {p : Pos} {s : State} (h : (s.lamp p).state = .striking) : LampPaths s (enterLit p s) := by
  unfold enterLit; dsimp only
  exact .trans (.set (fun _ => rfl) (.lit _ _ _ h (addWear_le _ _) (Nat.min_le_left _ _))) (.trans (markLampDirty_path p _)
    (.of_moves ((moves_raiseNotice _ _ _ _).trans (moves_evalPower _ _))))

theorem cooldownEnds_path {p : Pos} {s : State} (h : (s.lamp p).state = .cooling) : LampPaths s (cooldownEnds p s) := by
  unfold cooldownEnds; split
  · exact .trans (.set (fun _ => rfl) (.cooled _ _ h (.inr rfl))) (.of_moves ((moves_raiseNotice _ _ _ _).trans (moves_usabilityChanged _)))
  · exact .trans (.set (fun _ => rfl) (.cooled _ _ h (.inl rfl))) (.of_moves (moves_strikeTest _ _))

theorem lampReport_path (p : Pos) (lit : Bool) (s : State) : LampPaths s (lampReport p lit s) := by
  unfold lampReport; split
  · next h => exact enterLit_path h
  · next h => exact dropLamp_path h
  · exact .refl s
  · unfold strayLit; split
    · exact .refl s
    · exact .of_moves ((moves_offerLamp _ _ s).trans (moves_raiseNotice _ _ _ _))
  · exact .refl s

theorem continuousReaches600_path {p : Pos} {s : State} (h : (s.lamp p).state = .lit) : LampPaths s (continuousReaches600 p s) :=
  .set (fun _ => rfl) (.proved _ 600 0 h (Nat.le_refl _) (Nat.zero_le _))

theorem litSecond_path (p : Pos) (s : State) : LampPaths s (litSecond p s) := by
  unfold litSecond; split
  · next h =>
    have ha : LampPaths s (accrue p s) := .set (fun _ => rfl) (.worn _ _ h (addWear_le _ _))
    unfold countUnstored; split
    · exact ha.trans (markLampDirty_path p _)
    · next hn => exact ha.trans (.set (fun _ => rfl) (.unstored _ _ (by omega)))
  · exact .refl s

theorem warnTest_path (p : Pos) (s : State) : LampPaths s (warnTest p s) := by
  unfold warnTest; dsimp only; split
  · exact .trans (.set (fun _ => rfl) (.flags _ true _)) (.of_moves (moves_raiseNotice _ _ _ _))
  · exact .refl s

theorem limitTest_path (p : Pos) (s : State) : LampPaths s (limitTest p s) := by
  unfold limitTest; split
  · refine (warnTest_path p s).trans ?_
    unfold derateTest; dsimp only; split
    · exact .trans (.set (fun _ => rfl) (.flags _ _ true)) (.of_moves ((moves_raiseNotice _ _ _ _).trans (moves_evalPower _ _)))
    · exact .refl _
  · exact .refl s

theorem countContinuous_path {p : Pos} {s : State} (h : (s.lamp p).state = .lit) : LampPaths s (countContinuous p s) := by
  unfold countContinuous; dsimp only; split
  · exact .refl s
  · next hn =>
    split
    · exact continuousReaches600_path h
    · exact .set (fun _ => rfl) (.proved _ _ _ h (by unfold Config.provedLitSeconds at hn; omega) (Nat.le_refl _))

theorem machineSecond_path (p : Pos) (s : State) : LampPaths s (machineSecond p s) := by
  unfold machineSecond; dsimp only; split
  · next h =>
    split
    · exact .refl s
    · split
      · exact windowRunsOut_path h
      · exact .set (fun _ => rfl) (.window _ _ h)
  · next h =>
    split
    · exact cooldownEnds_path h
    · next hn => exact .set (fun _ => rfl) (.cooldown _ _ h (by omega) (by omega))
  · next h => exact countContinuous_path h
  all_goals exact .refl s

theorem lampsSecond_path (s : State) : LampPaths s (lampsSecond s) :=
  (litSecond_path .a s).trans ((litSecond_path .b _).trans ((limitTest_path .a _).trans ((limitTest_path .b _).trans
    ((machineSecond_path .a _).trans (machineSecond_path .b _)))))

/-! ## FITL, REML and CLRF -/

theorem moves_usabilityAfter (was : Bool) (p : Pos) (s : State) : Moves s (usabilityAfter was p s) := by
  unfold usabilityAfter; split
  · exact .refl s
  · exact moves_usabilityChanged s

theorem fitLamp_path (p : Pos) (serial rated : Nat) (s : State) : LampPaths s (fitLamp p serial rated s) :=
  .finished (.trans (.set (fun _ => rfl) (.fitted _ serial rated)) (.trans (markLampDirty_path p _)
    (.of_moves ((moves_raiseNotice _ _ _ _).trans ((moves_strikeTest p _).trans ((moves_usabilityAfter _ p _).trans
      (moves_evalPower p _)))))))

theorem removeLamp_path {p : Pos} {s : State} (h : (s.lamp p).state.mayRemove = true) : LampPaths s (removeLamp p s) :=
  .finished (.trans (.set (fun _ => rfl) (.removed _ h)) (.trans (markLampDirty_path p _)
    (.of_moves ((moves_raiseNotice _ _ _ _).trans (moves_usabilityAfter _ p _)))))

theorem clearFailure_path {p : Pos} {s : State} (h : (s.lamp p).state = .failed) : LampPaths s (clearFailure p s) := by
  have hend : ∀ was t, Moves t (usabilityAfter was p (lampClearedNotice p t)) := fun was t =>
    (moves_raiseNotice _ _ _ t).trans (moves_usabilityAfter was p _)
  unfold clearFailure; dsimp only; split
  · exact .finished (.trans (.set (fun _ => rfl) (.cleared _ .spent _ h (.inr rfl) (Nat.le_refl _))) (.of_moves (hend _ _)))
  · unfold enterCold
    simp only [State.setLamp_setLamp, State.setLamp_lamp_same]
    exact .finished (.trans (.set (fun _ => rfl) (.cleared _ .cold 0 h (.inl rfl) (Nat.zero_le _)))
      (.of_moves ((moves_strikeTest p _).trans (hend _ _))))

/-! ## Start-up -/

/-- The lamps at the start of start-up: COOLING if fitted, and with a record in range, stored or estimated (R55, R56, R95). -/
theorem AtStartUp.lampPaths {s t : State} (h : AtStartUp s t) : LampPaths s t := by
  obtain ⟨-, -, -, -, -, -, -, -, -, -, -, -, -, -, -, -, -, -, ⟨⟨-, -, -, -, -, -, hstored, hfails⟩, -⟩, hl, -⟩ := h
  have hrec : ∀ p, (t.lamp p).record.wear ≤ 4294967295 ∧ (t.lamp p).record.strikes ≤ 65535 := by
    intro p
    by_cases hf : LampFails t.store.records p
    · obtain ⟨-, -, hk, -, hin, hout, hw⟩ := hfails p hf
      have hr : (t.lamp p).record.rated ≤ 20000 := by
        by_cases hr : 100 ≤ (u16 (storedAt t.store.records (lampNo p)).content 5).toNat
            ∧ (u16 (storedAt t.store.records (lampNo p)).content 5).toNat ≤ 20000
        · rw [hin hr.1 hr.2]; exact hr.2
        · rw [hout (by omega)]; decide
      exact ⟨by omega, hk ▸ Nat.le_of_lt_succ (u16 _ _).isLt⟩
    · obtain ⟨l, hfit, hst⟩ : ∃ l, LampRecordFits l ∧ Stored (storedAt t.store.records (lampNo p)) l.bytes :=
        Classical.byContradiction fun hn => hf fun l hfit hst => hn ⟨l, hfit, hst⟩
      rw [hstored p l hfit hst]
      cases hb : l.fitted with
      | true => exact (hfit.1 hb).2.2.2
      | false => rw [hfit.2 hb]; decide
  intro p
  obtain ⟨hs, hc, ha, hw, -, hu, hn, -⟩ := hl p
  obtain ⟨h11, h12⟩ := hrec p
  refine .loaded _ ?_ ?_
  · unfold Lamp.Shape
    rw [hs, hc, ha, hw, hu, hn]
    cases hb : (t.lamp p).record.fitted <;> simp [h11, h12]
  · rw [hs]; split <;> simp

/-! ## Every effect, and every step -/

theorem EventMoves.lampPaths {s t : State} (h : EventMoves s t) : LampPaths s t := by
  rcases h with rfl | ⟨u, h, rfl⟩
  · exact .refl _
  · exact (LampPaths.of_moves h).finished

theorem Moves.finishedPaths {s t : State} (h : Moves s t) : LampPaths s (finish t) := h.event.lampPaths

theorem messageDelivered_path (s : State) : LampPaths s (messageDelivered s) := by
  have he : ∀ e, LampPaths s (s.setEngine e) := fun e => .of_same fun p => State.setEngine_lamp s e p
  unfold messageDelivered deliver; split
  · unfold strikeDelivered; split
    · next h => exact (he _).trans (.set (fun _ => rfl) (.window _ _ h.1))
    · exact he _
  · exact .of_same fun p => by cases p <;> simp [State.lamp]
  all_goals exact he _

theorem channelFaults_path (s : State) : LampPaths s (channelFaults s) :=
  .trans (.of_same fun p => State.setEngine_lamp s s.engine.faulted p)
    (.of_moves ((moves_raiseNotice _ _ _ _).trans ((moves_faultCoolAll _).trans (moves_geometryFault _))))

theorem statusTaken_path (a b : Bool) (x : Thermal) (o : Bool) (s : State) : LampPaths s (statusTaken a b x o s) :=
  .trans (.of_moves ((moves_doorReport o s).trans (moves_thermalReport x _)))
    ((lampReport_path .a a _).trans (lampReport_path .b b _))

theorem recover_path (a b : Bool) (x : Thermal) (o : Bool) (s : State) : LampPaths s (recover a b x o s) :=
  .trans (.of_same fun p => State.setEngine_lamp s { s.engine with state := .ready } p)
    ((lampReport_path .a a _).trans ((lampReport_path .b b _).trans (.of_moves ((moves_recoveryHolds x o _).trans
      ((moves_computeIfShown _).trans ((moves_offerGate _).trans (moves_raiseNotice _ _ _ _)))))))

theorem startFlushWrite_lamp (s : State) (p : Pos) : (startFlushWrite s).lamp p = s.lamp p := by
  unfold startFlushWrite; split <;> rfl

theorem writeEnds_lamp (r : ReadBack) (w : Writing) (s : State) (p : Pos) : (writeEnds r w s).lamp p = s.lamp p := by
  unfold writeEnds; dsimp only; split <;> (rw [startWrite_lamp]; rfl)

/-- Every effect moves each lamp along a path of its changes. -/
theorem Effect.lampPaths {s t : State} (h : Effect s t) : LampPaths s t := by
  induction h with
  | refl s => exact .refl s
  | trans _ _ ih₁ ih₂ => exact ih₁.trans ih₂
  | link | panel | notice | noticesRead | freeValue | clock | matrixLatch | fireLevel | engineLatch => exact .of_same fun _ => rfl
  | lineEdge s => exact .of_moves (.of_same (by simp) (by simp) (by simp) (by simp) (by simp))
  | flush s => exact .of_same fun p => startFlushWrite_lamp _ p
  | writeEnd s r w => exact .of_same fun p => writeEnds_lamp r w s p
  | flushWriteEnd s r w => exact .of_same fun p => startFlushWrite_lamp _ p
  | retry => exact .of_same fun p => startWrite_lamp _ p
  | sessionOn s => exact (startSession_moves s).lampPaths
  | select s sel => exact (makeSelection_moves sel s).lampPaths
  | powerReset | restart => exact (boot_spec _ _ _).1.lampPaths
  | book => exact (admitBooking_moves ..).lampPaths
  | amend => exact (amendPendingTable_moves ..).lampPaths
  | extend => exact (amendActiveTable_moves ..).lampPaths
  | remove => exact ((moves_departBooking _ _).trans (tableEventEnd_moves _)).finishedPaths
  | endNow => exact (moves_endByRequest _ _).finishedPaths
  | time => exact (setTime_moves ..).lampPaths
  | sessionOff => exact (moves_endSession _).finishedPaths
  | fit => exact fitLamp_path _ _ _ _
  | unfit _ _ h => exact removeLamp_path h
  | clear _ _ h => exact clearFailure_path h
  | hold => exact ((moves_placeHold _ _ _).trans (moves_arrivalLifts _ _)).finishedPaths
  | lift => exact (moves_liftHold _ _ _).finishedPaths
  | profile => exact (writeProfile_moves ..).lampPaths
  | preset => exact (writePreset_moves ..).lampPaths
  | override => exact (applyOverride_moves ..).lampPaths
  | mute => exact (moves_setGate _ _).finishedPaths
  | config => exact (writeConfig_moves ..).lampPaths
  | second s => exact ((lampsSecond_path s).trans (.of_moves ((moves_sourceSecond _).trans (moves_sessionSecond _)))).finished
  | minute => exact (minuteHanded_moves _).lampPaths
  | unstored s p => exact (markLampDirty_path p s).finished
  | continuous s p h => exact (continuousReaches600_path (by simp [continuousDue] at h; exact h.1)).finished
  | window s p h => exact (windowRunsOut_path (by simp [windowDue] at h; exact h.1)).finished
  | cooldown s p h => exact (cooldownEnds_path (by simp [cooldownDue] at h; exact h.1)).finished
  | unattended => exact (moves_unattendedEnds _).finishedPaths
  | grace => exact (moves_graceRanOut _).finishedPaths
  | takeTimeout => exact (moves_takeTimesOut _).finishedPaths
  | settleTimeout => exact (moves_settleTimesOut _).finishedPaths
  | loss => exact (moves_lossTimesOut _).finishedPaths
  | frameEdge => exact (moves_frameEdgeTaken _ _).finishedPaths
  | delivered s => exact (messageDelivered_path s).finished
  | faulted s => exact (channelFaults_path s).finished
  | lampSense s p lit => exact (lampReport_path p lit s).finished
  | thermal => exact (moves_thermalReport _ _).finishedPaths
  | door => exact (moves_doorReport _ _).finishedPaths
  | status => exact (statusTaken_path _ _ _ _ _).finished
  | recovery => exact (recover_path _ _ _ _ _).finished
  | takeAck => exact (moves_takeAckTaken _ _).finishedPaths
  | presence => exact (moves_presenceTaken _ _).finishedPaths
  | fire => exact (moves_fireReport _ _).finishedPaths
  | startUpEnd => exact (endStartUp_moves _).lampPaths

/-- The third part is read off the parts of the state. -/
theorem dark_kept : KeptByStep (fun s => SystemHolds s ∧ DarkUnderHold s) := fun s t hs h =>
  (darkSound_iff t).mpr (partsKeep_dark.kept s t ((darkSound_iff s).mp hs) h)

/-- Settles O56: each lamp moves by changes that keep its shape and its wear below the limit, and a hold or FAULT leaves none lit. -/
theorem lampsKeepShape : Obligations.LampsKeepShape :=
  ⟨kept_of_effects (fun _ _ h => h) (fun _ _ h k => ⟨(h.lampPaths .a).keeps_shape k.1, (h.lampPaths .b).keeps_shape k.2⟩),
    kept_of_effects (fun _ _ h => h) (fun _ _ h k p => (h.lampPaths p).keeps_below (k p)), dark_kept⟩

end Sys2Proof.Machine
end

section
/-! PROOF. A step, the arbiter, the writer and the end of an event (`Obligations.StepTakesFront`, `Obligations.ArbiterTakesFirstSlot`,
`Obligations.EventEnd`), and the strike test (`Obligations.StrikeTestStrikes`). -/

namespace Sys2Proof.Machine

/-! ## The step -/

/-- Settles O1: the step is defined by the front of the queue. -/
theorem stepTakesFront : Obligations.StepTakesFront := by
  refine ⟨fun c rest s => rfl, fun s h => ?_⟩
  unfold step
  rw [h]

/-! ## The arbiter -/

theorem arbitrate_shutter {e : Engine} {o : Bool} (hr : e.state = .ready) (h : e.shutterSlot = some o) :
    e.arbitrate = { e with shutterSlot := none, inFlight := some (.shutter o), ackTimer := true, state := .sending } := by
  simp [Engine.arbitrate, hr, h, Engine.send]

theorem arbitrate_lampA {e : Engine} {m : LampMsg} (hr : e.state = .ready) (hs : e.shutterSlot = none) (h : e.lampASlot = some m) :
    e.arbitrate = { e with lampASlot := none, inFlight := some (.lamp .a m), ackTimer := true, state := .sending } := by
  simp [Engine.arbitrate, hr, hs, h, Engine.send]

theorem arbitrate_lampB {e : Engine} {m : LampMsg} (hr : e.state = .ready) (hs : e.shutterSlot = none) (ha : e.lampASlot = none)
    (h : e.lampBSlot = some m) :
    e.arbitrate = { e with lampBSlot := none, inFlight := some (.lamp .b m), ackTimer := true, state := .sending } := by
  simp [Engine.arbitrate, hr, hs, ha, h, Engine.send]

theorem arbitrate_warpSlot {e : Engine} {w : CornerSet} (hr : e.state = .ready) (hs : e.shutterSlot = none) (ha : e.lampASlot = none)
    (hb : e.lampBSlot = none) (h : e.warpSlot = some w) :
    e.arbitrate = { e with warpSlot := none, inFlight := some (.warp w), ackTimer := true, state := .sending } := by
  simp [Engine.arbitrate, hr, hs, ha, hb, h, Engine.send]

/-- The arbiter does nothing unless the channel is READY with a slot occupied. -/
theorem arbitrate_rest {e : Engine} (h : e.state ≠ .ready ∨ e.SlotsEmpty) : e.arbitrate = e := by
  rcases h with h | ⟨h1, h2, h3, h4⟩
  · exact if_neg h
  · simp [Engine.arbitrate, h1, h2, h3, h4]

/-- A channel that the arbiter leaves READY has no message to send (R163). -/
theorem arbitrate_ready_empty {e : Engine} (h : e.arbitrate.state = .ready) : e.arbitrate.SlotsEmpty := by
  unfold Engine.arbitrate at h ⊢
  split at h
  · split at h
    · cases h
    · cases h
    · cases h
    · cases h
    · next h1 h2 h3 h4 => simp only [*, if_true]; exact ⟨h1, h2, h3, h4⟩
  · next hr => exact absurd h hr

/-- Settles O3: the arbiter's match takes the slots in their order, and every event ends with it. -/
theorem arbiterTakesFirstSlot : Obligations.ArbiterTakesFirstSlot := by
  refine ⟨fun e o hr h => arbitrate_shutter hr h, fun e m hr hs h => arbitrate_lampA hr hs h,
    fun e m hr hs ha h => arbitrate_lampB hr hs ha h, fun e w hr hs ha hb h => arbitrate_warpSlot hr hs ha hb h,
    fun e h => arbitrate_rest h, fun s h => ?_⟩
  rw [finish_engine] at h ⊢
  exact arbitrate_ready_empty h

/-! ## The writer -/

theorem startWrite_busy {s : State} {w : Writing} (h : s.store.writing = some w) : startWrite s = s := by
  simp [startWrite, h]

theorem oldestReady_eq_none {st : Store} (h : ∀ n ∈ st.dirty, n ∈ st.waiting) : oldestReady st = none := by
  simpa [oldestReady, List.find?_eq_none] using h

theorem oldestReady_eq_some {st : Store} {pre post : List Nat} {n : Nat} (hd : st.dirty = pre ++ n :: post)
    (hpre : ∀ m ∈ pre, m ∈ st.waiting) (hn : n ∉ st.waiting) : oldestReady st = some n := by
  have hnone : pre.find? (fun m => !st.waiting.contains m) = none := by
    simpa [List.find?_eq_none] using hpre
  rw [oldestReady, hd, List.find?_append, hnone]
  simp [hn]

theorem startWrite_waiting {s : State} (h : ∀ n ∈ s.store.dirty, n ∈ s.store.waiting) : startWrite s = s := by
  simp [startWrite, oldestReady_eq_none h]

/-- The IDLE writer takes the oldest record that is ready, with its content as it stands (R199). -/
theorem startWrite_takes {s : State} (hw : s.store.writing = none) {pre post : List Nat} {n : Nat}
    (hd : s.store.dirty = pre ++ n :: post) (hpre : ∀ m ∈ pre, m ∈ s.store.waiting) (hn : n ∉ s.store.waiting) :
    startWrite s = { s with store := { s.store with
      dirty := s.store.dirty.erase n,
      writing := some { number := n, record := { content := recordContent n s, check := crc8 (recordContent n s) } } } } := by
  simp only [startWrite, hw, oldestReady_eq_some hd hpre hn]
  rfl

/-! ## The end of an event -/

/-- The gate's evaluation changes the shutter state and the SHUTTER slot only. -/
theorem evalGate_rest (s : State) : { evalGate s with gate := s.gate, engine := s.engine } = s := by
  unfold evalGate; dsimp only; split <;> rfl

/-- The writer sees what the event left of the records. -/
theorem recordContent_beforeWrite (n : Nat) (s : State) : recordContent n (arbiter (evalGate s)) = recordContent n s :=
  recordContent_congr (by simp) (by simp) (bookings_of_table (by simp)) n

theorem store_beforeWrite (s : State) : (arbiter (evalGate s)).store = s.store := by simp

theorem finish_store_takes {s : State} (hw : s.store.writing = none) {pre post : List Nat} {n : Nat}
    (hd : s.store.dirty = pre ++ n :: post) (hpre : ∀ m ∈ pre, m ∈ s.store.waiting) (hn : n ∉ s.store.waiting) :
    (finish s).store = { s.store with
      dirty := s.store.dirty.erase n,
      writing := some { number := n, record := { content := recordContent n s, check := crc8 (recordContent n s) } } } := by
  have e := store_beforeWrite s
  unfold finish
  rw [startWrite_takes (by rw [e]; exact hw) (by rw [e]; exact hd) (by rw [e]; exact hpre) (by rw [e]; exact hn),
    recordContent_beforeWrite]
  dsimp only
  rw [e]

theorem evalGate_kept {s : State} (h : gateCondition s = s.gate.shutterOpen) : evalGate s = s := if_pos h

theorem evalGate_changed {s : State} (h : gateCondition s ≠ s.gate.shutterOpen) :
    (evalGate s).engine = s.engine.place (.shutter (gateCondition s)) := by
  unfold evalGate; dsimp only; rw [if_neg h]; rfl

theorem finish_rest (s : State) : { finish s with gate := s.gate, engine := s.engine, store := s.store } = s := by
  have hw := startWrite_eq (arbiter (evalGate s))
  calc { finish s with gate := s.gate, engine := s.engine, store := s.store }
      = { ({ startWrite (arbiter (evalGate s)) with store := (arbiter (evalGate s)).store } : State) with
          gate := s.gate, engine := s.engine, store := s.store } := rfl
    _ = { arbiter (evalGate s) with gate := s.gate, engine := s.engine, store := s.store } := by rw [hw]
    _ = { ({ evalGate s with gate := s.gate, engine := s.engine } : State) with store := s.store } := rfl
    _ = s := by rw [evalGate_rest]

/-- Settles O2: the gate, the arbiter and the writer each by their own rule. -/
theorem eventEnd : Obligations.EventEnd := by
  rintro s t rfl
  refine ⟨finish_rest s, by simp, ?_, fun h => ?_, fun h hf => ?_, fun h hf => ?_, fun ⟨w, hw⟩ => ?_, fun h => ?_,
    fun pre n post hw hd hpre hn => finish_store_takes hw hd hpre hn⟩
  · rw [finish_shutter, gateCondition_iff]
  · rw [finish_shutter] at h
    rw [finish_engine, evalGate_kept h]
  · rw [finish_shutter] at h
    rw [finish_engine, evalGate_changed h, Engine.place, if_pos hf, arbitrate_rest (.inl (by simp [hf]))]
  · rw [finish_shutter] at h
    rw [finish_engine, evalGate_changed h, Engine.place, if_neg hf, finish_shutter]
  · unfold finish
    rw [startWrite_busy (by rw [store_beforeWrite]; exact hw), store_beforeWrite]
  · unfold finish
    rw [startWrite_waiting (by rw [store_beforeWrite]; exact h), store_beforeWrite]

/-! ## The strike test -/

theorem strikeTest_a {s : State} (h : MayStrike .a s) : strikeTest .a s =
    { s with lampA := { s.lampA with power := s.wantedPower .a, state := .striking, window := none },
             engine := { s.engine with lampASlot := some (.strike (s.wantedPower .a)) } } := by
  rw [(strikeTest_spec .a s).1 h, State.lampOffered, if_neg h.2.2.2.2]; rfl

theorem strikeTest_b {s : State} (h : MayStrike .b s) : strikeTest .b s =
    { s with lampB := { s.lampB with power := s.wantedPower .b, state := .striking, window := none },
             engine := { s.engine with lampBSlot := some (.strike (s.wantedPower .b)) } } := by
  rw [(strikeTest_spec .b s).1 h, State.lampOffered, if_neg h.2.2.2.2]; rfl

/-- What the strike test of both positions leaves (R60). -/
def BothTested (s t : State) : Prop :=
  { t with lampA := s.lampA, lampB := s.lampB, engine := s.engine } = s
    ∧ { t.engine with lampASlot := s.engine.lampASlot, lampBSlot := s.engine.lampBSlot } = s.engine
    ∧ ∀ p : Pos,
      (MayStrike p s → t.lamp p = { s.lamp p with power := s.wantedPower p, state := .striking, window := none }
        ∧ t.engine.lampSlot p = some (.strike (s.wantedPower p)))
      ∧ (¬ MayStrike p s → t.lamp p = s.lamp p ∧ t.engine.lampSlot p = s.engine.lampSlot p)

/-- The test of A does not decide that of B, and each of the four cases is read off the two tests. -/
theorem strikeTests_both (s : State) : BothTested s (strikeTests s) := by
  unfold strikeTests
  by_cases ha : MayStrike .a s
  · have hiff : MayStrike .b (strikeTest .a s) ↔ MayStrike .b s := by rw [strikeTest_a ha]; exact Iff.rfl
    by_cases hb : MayStrike .b s
    · rw [strikeTest_b (hiff.mpr hb), strikeTest_a ha]
      refine ⟨rfl, rfl, fun p => ?_⟩
      cases p
      · exact ⟨fun _ => ⟨rfl, rfl⟩, fun h => absurd ha h⟩
      · exact ⟨fun _ => ⟨rfl, rfl⟩, fun h => absurd hb h⟩
    · rw [(strikeTest_spec .b _).2 (fun h => hb (hiff.mp h)), strikeTest_a ha]
      refine ⟨rfl, rfl, fun p => ?_⟩
      cases p
      · exact ⟨fun _ => ⟨rfl, rfl⟩, fun h => absurd ha h⟩
      · exact ⟨fun h => absurd h hb, fun _ => ⟨rfl, rfl⟩⟩
  · rw [(strikeTest_spec .a s).2 ha]
    by_cases hb : MayStrike .b s
    · rw [strikeTest_b hb]
      refine ⟨rfl, rfl, fun p => ?_⟩
      cases p
      · exact ⟨fun h => absurd h ha, fun _ => ⟨rfl, rfl⟩⟩
      · exact ⟨fun _ => ⟨rfl, rfl⟩, fun h => absurd hb h⟩
    · rw [(strikeTest_spec .b s).2 hb]
      exact ⟨rfl, rfl, fun p => by cases p <;> exact ⟨fun h => absurd h (by assumption), fun _ => ⟨rfl, rfl⟩⟩⟩

/-- Settles O4: the tests of A and B, one after the other, and each by itself. -/
theorem strikeTestStrikes : Obligations.StrikeTestStrikes :=
  ⟨fun s _ h => h ▸ strikeTests_both s, fun p s => strikeTest_spec p s⟩

end Sys2Proof.Machine
end

section
/-! PROOF. Requests in general: every taken request leaves its reply, a refusal changes nothing else, and the class check and the hold
check come first (`Obligations.EveryRequestReplies`, `Obligations.ClassAndHoldChecks`); the readings
(`Obligations.ReadingsChangeNothing`). -/

namespace Sys2Proof.Machine

/-! ## A request row -/

/-- A request row while RUNNING, when its answer is known. -/
theorem row_answered {n : ReqName} {request : State → Answer} {s t : State} {o : ReqOutcome} {params : List Byte}
    (hs : s.phase = .running) (h : request s = { state := t, outcome := o, params := params }) :
    (Host.Outcome.next (takeRequest n request s) : Host.Outcome State Fault Refusal) = .next (t.replied n o params) := by
  rw [takeRequest_running hs, h]

/-- A request row while RUNNING, when it is refused. -/
theorem row_refused {n : ReqName} {request : State → Answer} {s : State} {o : ReqOutcome} (hs : s.phase = .running)
    (h : request s = refuse o s) :
    (Host.Outcome.next (takeRequest n request s) : Host.Outcome State Fault Refusal) = .next (s.replied n o []) :=
  row_answered hs h

/-- A request row outside RUNNING (R188). -/
theorem takeRequest_discarded {n : ReqName} {request : State → Answer} {s : State} (hs : s.phase ≠ .running) :
    takeRequest n request s = s := if_neg hs

/-- The row that a frame names takes the request that the frame hands over. -/
theorem exec_rowOf (n : ReqName) (c : Class) (m : Meeting) (ps : List Byte) (s : State) :
    exec (rowOf n c m ps) s = .next (takeRequest n (handRequest n c m ps) s) := by
  cases n <;> rfl

/-! ## The checks of class and holds -/

theorem needClass_refused {c need : Class} {act : State → Answer} {s : State} (h : atLeast c need = false) :
    needClass c need act s = refuse .class' s := by
  rw [needClass, if_neg (by simp [h])]

theorem needScope_panel {sc : Scope} {target : Option Input} {act : State → Answer} {s : State} :
    needScope .panel sc target act s = refuse .class' s := needClass_panel

theorem needScope_held {c : Class} {sc : Scope} {target : Option Input} {act : State → Answer} {s : State} (h : c ≠ .panel)
    (hh : Held (classOrigin c) sc target s) : needScope c sc target act s = refuse .held s := by
  rw [needScope, needClass_control h, if_pos ((held_iff s _ sc target).mpr hh)]

theorem atLeast_panel (c : Class) : atLeast c .panel = true := by cases c <;> rfl

theorem sesnRequest_held {c : Class} {s : State} (hh : Held (classOrigin c) .session none s) : sesnRequest c s = refuse .held s := by
  rw [sesnRequest, needClass, if_pos (atLeast_panel c), if_pos ((held_iff s _ _ _).mpr hh)]

theorem sesnRequest_open {c : Class} {s : State} (hh : ¬ Held (classOrigin c) .session none s) :
    sesnRequest c s = done (startSession s) := by
  rw [sesnRequest, needClass, if_pos (atLeast_panel c), held_false hh]; rfl

/-- Class PANEL is refused every request but SESN (R97). -/
theorem handRequest_panel {n : ReqName} (h : n ≠ .sesn) (m : Meeting) (ps : List Byte) (s : State) :
    handRequest n .panel m ps s = refuse .class' s := by
  cases n with
  | sesn => exact absurd rfl h
  | _ => rfl

/-- FITL, REML, CLRF and RSTR need class SERVICE (R97). -/
theorem handRequest_service {n : ReqName} (h : n = .fitl ∨ n = .reml ∨ n = .clrf ∨ n = .rstr) (m : Meeting) (ps : List Byte)
    (s : State) : handRequest n .control m ps s = refuse .class' s := by
  rcases h with rfl | rfl | rfl | rfl <;> rfl

/-- A request in a scope makes its hold check before any other check but the class (R98, R99, R100). -/
theorem handRequest_held {n : ReqName} {c : Class} {m : Meeting} {ps : List Byte} {s : State} {sc : Scope} {target : Option Input}
    (hc : c ≠ .panel ∨ n = .sesn) (hsc : requestScope n ps = some (sc, target)) (hh : Held (classOrigin c) sc target s) :
    handRequest n c m ps s = refuse .held s := by
  have hpanel : n ≠ .sesn → c ≠ .panel := fun hn => hc.resolve_right hn
  cases n with
  | sesn => cases hsc; exact sesnRequest_held hh
  | book | rebk | unbk | endn | sesf | srce | prof | prst | appl => 
    cases hsc
    simp only [handRequest, bookRequest, rebkRequest, unbkRequest, endnRequest, sesfRequest, srceRequest, profRequest, prstRequest,
      applRequest]
    exact needScope_held (hpanel (by simp)) hh
  | find | next | time | clck | lamp | fitl | reml | clrf | hold | lift | hlds | prfr | sigs | prsr | crnr | mute | unmt | summ
    | nlvl | conf | cnfr | rstr => cases hsc

/-- Settles O6: the class and the hold check are the outermost tests of every request. -/
theorem classAndHoldChecks : Obligations.ClassAndHoldChecks := by
  refine ⟨fun n m ps s hs hn => ?_, fun n m ps s hs hn => ?_, fun n c m ps s sc target hs hc hsc hh => ?_⟩
  · exact (exec_rowOf ..).trans (row_refused hs (handRequest_panel hn m ps s))
  · exact (exec_rowOf ..).trans (row_refused hs (handRequest_service hn m ps s))
  · exact (exec_rowOf ..).trans (row_refused hs (handRequest_held hc hsc hh))

/-! ## A refusal changes nothing -/

/-- An answer with a refusing outcome leaves the state as it was (R183). -/
def Sound (s : State) (a : Answer) : Prop := 16 ≤ a.outcome.byte.toNat → a.state = s

theorem sound_refuse (o : ReqOutcome) (s : State) : Sound s (refuse o s) := fun _ => rfl

theorem sound_doneWith (params : List Byte) (s t : State) : Sound s (doneWith params t) := fun h => absurd h (by simp [doneWith, ReqOutcome.byte])

theorem sound_done (s t : State) : Sound s (done t) := sound_doneWith [] s t

theorem sound_clamped {s : State} {a : Answer} {pulled : Bool} (h : a.outcome = clampOutcome pulled) : Sound s a := by
  intro hb
  rw [h, clampOutcome] at hb
  cases pulled <;> simp [ReqOutcome.byte] at hb

theorem sound_needClass {c need : Class} {act : State → Answer} {s : State} (h : Sound s (act s)) : Sound s (needClass c need act s) := by
  unfold needClass; split
  · exact h
  · exact sound_refuse _ s

theorem sound_needScope {c : Class} {sc : Scope} {target : Option Input} {act : State → Answer} {s : State} (h : Sound s (act s)) :
    Sound s (needScope c sc target act s) := by
  unfold needScope; apply sound_needClass; split
  · exact sound_refuse _ s
  · exact h

theorem sound_withOwnBooking {c : Class} {tag : BitVec 16} {act : Booking → State → Answer} {s : State} (h : ∀ b, Sound s (act b s)) :
    Sound s (withOwnBooking c tag act s) := by
  unfold withOwnBooking; split
  · exact sound_refuse _ s
  · split
    · exact sound_refuse _ s
    · split
      · exact h _
      · exact sound_refuse _ s

theorem sound_book (c : Class) (r : GivenRaw) (s : State) : Sound s (bookRequest c r s) := by
  apply sound_needScope
  split; · exact sound_refuse _ s
  split; · exact sound_refuse _ s
  split; · exact sound_refuse _ s
  split; · exact sound_refuse _ s
  split; · exact sound_refuse _ s
  split
  · exact sound_refuse _ s
  · exact sound_doneWith _ s _

theorem sound_amendPending (b : Booking) (r : GivenRaw) (s : State) : Sound s (amendPending b r s) := by
  unfold amendPending; split
  · exact sound_refuse _ s
  · dsimp only; split
    · exact sound_refuse _ s
    · split
      · exact sound_refuse _ s
      · exact sound_doneWith _ s _

theorem sound_amendActive (b : Booking) (r : GivenRaw) (s : State) : Sound s (amendActive b r s) := by
  unfold amendActive
  split; · exact sound_refuse _ s
  split; · exact sound_refuse _ s
  split
  · exact sound_refuse _ s
  · exact sound_doneWith _ s _

theorem sound_rebk (c : Class) (r : GivenRaw) (s : State) : Sound s (rebkRequest c r s) := by
  apply sound_needScope
  split
  · exact sound_refuse _ s
  · apply sound_withOwnBooking; intro b; split
    · exact sound_amendPending b r s
    · exact sound_amendActive b r s

theorem sound_unbk (c : Class) (tag : BitVec 16) (s : State) : Sound s (unbkRequest c tag s) := by
  apply sound_needScope; apply sound_withOwnBooking; intro b; split
  · exact sound_done s _
  · exact sound_refuse _ s

theorem sound_endn (c : Class) (tag : BitVec 16) (s : State) : Sound s (endnRequest c tag s) := by
  apply sound_needScope; apply sound_withOwnBooking; intro b; split
  · exact sound_refuse _ s
  · exact sound_done s _

theorem sound_find (c : Class) (tag : BitVec 16) (s : State) : Sound s (findRequest c tag s) := by
  apply sound_needClass; split
  · exact sound_refuse _ s
  · split
    · exact sound_refuse _ s
    · exact sound_doneWith _ s s

theorem sound_next (c : Class) (m : BitVec 32) (s : State) : Sound s (nextRequest c m s) := by
  apply sound_needClass; split
  · exact sound_refuse _ s
  · split
    · exact fun _ => rfl
    · exact sound_doneWith _ s s

theorem sound_time (c : Class) (m : BitVec 32) (sec : Byte) (s : State) : Sound s (timeRequest c m sec s) := by
  apply sound_needClass; split
  · exact sound_refuse _ s
  · exact sound_done s _

theorem sound_sesn (c : Class) (s : State) : Sound s (sesnRequest c s) := by
  apply sound_needClass; split
  · exact sound_refuse _ s
  · exact sound_done s _

theorem sound_fitl (c : Class) (b : Byte) (serial : BitVec 32) (rated : BitVec 16) (s : State) :
    Sound s (fitlRequest c b serial rated s) := by
  apply sound_needClass
  split; · exact sound_refuse _ s
  split; · exact sound_refuse _ s
  split; · exact sound_refuse _ s
  split
  · exact sound_refuse _ s
  · exact sound_done s _

theorem sound_reml (c : Class) (b : Byte) (s : State) : Sound s (remlRequest c b s) := by
  apply sound_needClass
  split; · exact sound_refuse _ s
  split; · exact sound_refuse _ s
  split
  · exact sound_refuse _ s
  · exact sound_done s _

theorem sound_clrf (c : Class) (b : Byte) (s : State) : Sound s (clrfRequest c b s) := by
  apply sound_needClass
  split; · exact sound_refuse _ s
  split
  · exact sound_done s _
  · exact sound_refuse _ s

theorem sound_hold (c : Class) (r : HoldRaw) (m : Meeting) (s : State) : Sound s (holdRequest c r m s) := by
  apply sound_needClass
  split; · exact sound_refuse _ s
  split; · exact sound_refuse _ s
  unfold placeRequested
  split; · exact sound_refuse _ s
  split; · exact sound_refuse _ s
  split; · exact sound_refuse _ s
  split
  · exact sound_refuse _ s
  · exact sound_doneWith _ s _

theorem sound_lift (c : Class) (tag : BitVec 16) (s : State) : Sound s (liftRequest c tag s) := by
  apply sound_needClass
  split; · exact sound_refuse _ s
  unfold liftRequested
  split; · exact sound_refuse _ s
  split; · exact sound_refuse _ s
  split
  · exact sound_done s _
  · exact sound_refuse _ s

theorem sound_srce (c : Class) (b : Byte) (s : State) : Sound s (srceRequest c b s) := by
  apply sound_needScope; split
  · exact sound_refuse _ s
  · intro h
    unfold selectInput selectionOutcome at h
    dsimp only at h
    split at h <;> simp [ReqOutcome.byte] at h

theorem sound_prof (c : Class) (b : Byte) (r : ProfileRaw) (s : State) : Sound s (profRequest c b r s) := by
  apply sound_needScope; split
  · exact sound_refuse _ s
  · split
    · exact sound_refuse _ s
    · exact sound_done s _

theorem sound_prfr (c : Class) (b : Byte) (s : State) : Sound s (prfrRequest c b s) := by
  apply sound_needClass; split
  · exact sound_refuse _ s
  · exact sound_doneWith _ s s

theorem sound_prst (c : Class) (b : Byte) (r : PresetRaw) (s : State) : Sound s (prstRequest c b r s) := by
  apply sound_needScope; split
  · exact sound_refuse _ s
  · exact sound_clamped rfl

theorem sound_prsr (c : Class) (b : Byte) (s : State) : Sound s (prsrRequest c b s) := by
  apply sound_needClass; split
  · exact sound_refuse _ s
  · exact sound_doneWith _ s s

theorem sound_appl (c : Class) (b : Byte) (s : State) : Sound s (applRequest c b s) := by
  apply sound_needScope; split
  · exact sound_refuse _ s
  · split
    · exact sound_done s _
    · exact sound_refuse _ s

theorem sound_nlvl (c : Class) (p l : Byte) (s : State) : Sound s (nlvlRequest c p l s) := by
  apply sound_needClass; split
  · exact sound_refuse _ s
  · exact sound_clamped rfl

/-- Whatever request a frame hands over, its refusal changes nothing. -/
theorem sound_handRequest (n : ReqName) (c : Class) (m : Meeting) (ps : List Byte) (s : State) : Sound s (handRequest n c m ps s) := by
  cases n with
  | book => exact sound_book _ _ _
  | rebk => exact sound_rebk _ _ _
  | unbk => exact sound_unbk _ _ _
  | endn => exact sound_endn _ _ _
  | find => exact sound_find _ _ _
  | next => exact sound_next _ _ _
  | time => exact sound_time _ _ _ _
  | sesn => exact sound_sesn _ _
  | sesf => exact sound_needScope (sound_done s _)
  | fitl => exact sound_fitl _ _ _ _ _
  | reml => exact sound_reml _ _ _
  | clrf => exact sound_clrf _ _ _
  | hold => exact sound_hold _ _ _ _
  | lift => exact sound_lift _ _ _
  | srce => exact sound_srce _ _ _
  | prof => exact sound_prof _ _ _ _
  | prfr => exact sound_prfr _ _ _
  | prst => exact sound_prst _ _ _ _
  | prsr => exact sound_prsr _ _ _
  | appl => exact sound_appl _ _ _
  | nlvl => exact sound_nlvl _ _ _ _
  | conf => exact sound_needClass (sound_clamped rfl)
  | clck | lamp | hlds | sigs | crnr | summ | cnfr => exact sound_needClass (sound_doneWith _ s _)
  | mute | unmt | rstr => exact sound_needClass (sound_done s _)

/-- Settles O5: the row composes the reply from the answer, and a refusing answer leaves the state. -/
theorem everyRequestReplies : Obligations.EveryRequestReplies := by
  refine ⟨fun n c m ps s hs => ?_, fun n c m ps s hs => ?_⟩
  · have ht := takeRequest_running (n := n) (request := handRequest n c m ps) hs
    refine ⟨_, _, _, (exec_rowOf n c m ps s).trans (congrArg Host.Outcome.next ht), replied_replied _ _ _ _, fun h => ?_⟩
    rw [sound_handRequest n c m ps s h]
  · rw [exec_rowOf, takeRequest_discarded hs]

/-! ## The readings -/

/-- Settles O7: each reading passes the class check and answers with its bytes, which the report lemmas describe. -/
theorem readingsChangeNothing : Obligations.ReadingsChangeNothing := by
  refine ⟨reportCodes, fun c s hs hc => ⟨?clck, ?cnfr, ?lamp, ?hlds, ?sigs, ?crnr⟩⟩
  case clck => exact row_answered (request := clckRequest c) hs (needClass_control hc)
  case cnfr => exact row_answered (request := cnfrRequest c) hs (needClass_control hc)
  case lamp => exact ⟨_, row_answered (request := lampRequest c) hs (needClass_control hc), lampReportBytes_spec s⟩
  case hlds => exact row_answered (request := hldsRequest c) hs (needClass_control hc)
  case sigs => exact ⟨_, row_answered (request := sigsRequest c) hs (needClass_control hc), signalReportBytes_spec s⟩
  case crnr => exact ⟨_, row_answered (request := crnrRequest c) hs (needClass_control hc), cornerReportBytes_spec s⟩

end Sys2Proof.Machine
end

section
/-! PROOF. MUTE and UNMT, the take timer and the strobes (`Obligations.MuteAndUnmute`, `Obligations.TakeTimeout`,
`Obligations.InboundStrobes`), TIME (`Obligations.TimeSetsClock`) and the session (`Obligations.SessionRequests`). -/

namespace Sys2Proof.Machine

/-! ## Rows that act while RUNNING -/

theorem whenRunning_eq {f : State → State} {s : State} (hs : s.phase = .running) : whenRunning f s = f s := if_pos hs

theorem whenRunning_discarded {f : State → State} {s : State} (hs : s.phase ≠ .running) : whenRunning f s = s := if_neg hs

/-- A row of an event that is due. -/
theorem row_due {due : State → Bool} {act : State → State} {s : State} (hs : s.phase = .running) (h : due s = true) :
    (Host.Outcome.next (dueEvent due act s) : Host.Outcome State Fault Refusal) = .next (finish (act s)) := by
  rw [dueEvent, whenRunning_eq hs, if_pos h]

/-- A row that acts while RUNNING. -/
theorem row_running {f : State → State} {s t : State} (hs : s.phase = .running) (h : f s = t) :
    (Host.Outcome.next (whenRunning f s) : Host.Outcome State Fault Refusal) = .next t := by
  rw [whenRunning_eq hs, h]

/-! ## What an event keeps -/

/-- An operation that leaves what no operation below the commands changes, and the reports. -/
theorem restKept_of_views {s t : State} (hf : t.fixed = s.fixed) (hr : t.reports = s.reports) : RestKept s t := by
  simp only [State.fixed, ViewFixed.mk.injEq] at hf
  obtain ⟨h1, h2, h3, h4, h5, h6, h7, h8, h9⟩ := hf
  refine ⟨h1, h2, h3, h4, h5, congrArg ViewReports.fire hr, congrArg ViewReports.thermal hr, h7, h8, h9, ?_⟩
  rw [h6]

/-- The same after the clock was set. -/
theorem restKept_of_clocked {s t : State} {c : Clock} (hf : t.fixed = (s.setClock c).fixed) (hr : t.reports = s.reports) :
    t.clock = c ∧ RestKept s { t with clock := s.clock } := by
  simp only [State.fixed, ViewFixed.mk.injEq] at hf
  obtain ⟨h1, h2, h3, h4, h5, h6, h7, h8, h9⟩ := hf
  refine ⟨h2, h1, rfl, h3, h4, h5, congrArg ViewReports.fire hr, congrArg ViewReports.thermal hr, h7, h8, h9, ?_⟩
  exact congrArg (fun l : Link => { l with decoder := s.link.decoder }) h6

theorem link_of_fixed {s t : State} (h : t.fixed = s.fixed) : t.link = s.link := congrArg ViewFixed.link h

theorem withLink_eq {s t : State} (h : t.link = s.link) : { t with link := s.link } = t := by rw [← h]

theorem withLinkAndNotices_eq {s t : State} (ns : Vector Notice 9) (hl : t.link = s.link) (hn : t.notices = s.notices) :
    { ({ t with notices := ns } : State) with link := s.link, notices := s.notices } = t := by rw [← hl, ← hn]

/-- The end of an event does not read the notices. -/
theorem finish_withNotices (s : State) (ns : Vector Notice 9) : finish { s with notices := ns } = { finish s with notices := ns } := by
  have hg : evalGate { s with notices := ns } = { evalGate s with notices := ns } := by
    have hc : gateCondition { s with notices := ns } = gateCondition s := rfl
    unfold evalGate; dsimp only; rw [hc]; split <;> rfl
  have hw : ∀ u : State, startWrite { u with notices := ns } = { startWrite u with notices := ns } := by
    intro u; unfold startWrite; dsimp only; split <;> rfl
  unfold finish
  rw [hg, ← hw]
  rfl

/-! ## MUTE and UNMT, the take timer, the strobes -/

theorem latched_none {s : State} {takes : Byte → Bool} (h : s.panel = none) : latchedCode takes s = none := by
  simp [latchedCode, h]

theorem latched_some {s : State} {takes : Byte → Bool} {code : Byte} (h : s.panel = some code) (ht : takes code = true) :
    latchedCode takes s = some code := by
  simp [latchedCode, h, ht]

/-- A key's row with the key in the latch (R172). -/
theorem row_key {takes : Byte → Bool} {act : Byte → State → State} {s : State} {code : Byte} (hs : s.phase = .running)
    (hp : s.panel = some code) (ht : takes code = true) :
    (Host.Outcome.next (whenRunning (takeKey takes act) s) : Host.Outcome State Fault Refusal)
      = .next { act code s with panel := none } :=
  row_running hs (by rw [takeKey, latched_some hp ht]; rfl)

/-- A known key that passes its checks (R174). -/
theorem keyChecks_passed {code : Byte} {own : Option (Scope × Option Input)} {act : State → State} {s : State}
    (hk : ¬ Held .panel .keys none s) (ho : ∀ x, own = some x → ¬ Held .panel x.1 x.2 s) : keyChecks code own true act s = act s := by
  have h : own.any (fun x => s.held .panel x.1 x.2) = false := by
    cases own with
    | none => rfl
    | some x => exact held_false (ho x rfl)
  simp [keyChecks, held_false hk, h]

/-- Settles O23: the two requests past their class check, and the key past the KEYS check. -/
theorem muteAndUnmute : Obligations.MuteAndUnmute := by
  refine ⟨fun c s hs hc => ⟨row_answered (request := muteRequest c) hs (needClass_control hc),
    row_answered (request := unmtRequest c) hs (needClass_control hc)⟩, fun s hs hp hk => ?_⟩
  refine (row_key (takes := isMuteKey) (act := muteToggle) hs hp rfl).trans ?_
  rw [muteToggle, keyChecks_passed hk (fun x h => by cases h)]
  rfl

/-- Settles O36: the take timer is due. -/
theorem takeTimeout : Obligations.TakeTimeout :=
  fun s hs ht hr => row_due (due := takeTimerDue) (act := takeTimesOut) hs (by simp [takeTimerDue, ht, hr])

/-- Settles O40: the latch decides. -/
theorem inboundStrobes : Obligations.InboundStrobes := by
  refine ⟨fun m s => ⟨fun h => congrArg Host.Outcome.next ?_, fun h => congrArg Host.Outcome.next ?_⟩,
    fun m s => ⟨fun h => congrArg Host.Outcome.next ?_, fun h => congrArg Host.Outcome.next ?_⟩⟩
  · rw [engineStrobed, h]; rfl
  · obtain ⟨x, hx⟩ := Option.ne_none_iff_exists'.mp h
    rw [engineStrobed, hx]
  · rw [matrixStrobed, h]; rfl
  · obtain ⟨x, hx⟩ := Option.ne_none_iff_exists'.mp h
    rw [matrixStrobed, hx]

/-! ## TIME (R31) -/

/-- Settles O12: the schedule check on the state with the new clock. -/
theorem timeSetsClock : Obligations.TimeSetsClock := by
  refine fun c m sec s hs hc => ⟨fun hm hsec => ?_, fun h => ?_⟩
  · obtain ⟨hclock, hrest⟩ := restKept_of_clocked (s := s) (c := { minute := m.toNat, second := sec.toNat, isSet := true })
      (scheduleCheck_fixed (s.setClock { minute := m.toNat, second := sec.toNat, isSet := true })) (scheduleCheck_reports _)
    refine ⟨_, scheduleCheckFrom_spec (effectiveNow s) _, ?_, hclock, hrest⟩
    refine row_answered (request := timeRequest c m sec) hs ?_
    have hn : ¬ (Config.topMinute < m.toNat ∨ 59 < sec.toNat) := by unfold Config.topMinute; omega
    rw [timeRequest, needClass_control hc, if_neg hn]
    rfl
  · refine row_refused (request := timeRequest c m sec) hs ?_
    exact (needClass_control hc).trans (if_pos h)

/-! ## The session (R47 to R50) -/

theorem writeDemand_sched (d : Demand) (s : State) : (writeDemand d s).sched = { s.sched with demand := d } := by
  unfold writeDemand; dsimp only; split <;> simp

/-- The demand IDLE is no substitute: its writing raises no notice (R57). -/
theorem writeDemand_idle_notices (s : State) : (writeDemand .idle s).notices = s.notices := by
  unfold writeDemand; simp [Demand.substitutes, Demand.idle]

/-- The writing of a demand changes the schedule unit, the lamps, the notices, the channel and the store only. -/
theorem writeDemand_rest (d : Demand) (s : State) :
    { writeDemand d s with sched := s.sched, lampA := s.lampA, lampB := s.lampB, notices := s.notices, engine := s.engine,
                           store := s.store } = s := by
  have hf := writeDemand_fixed d s
  have hr := writeDemand_reports d s
  have hb := bookings_of_table (writeDemand_table d s)
  have hsw := writeDemand_sources d s
  have hh := writeDemand_holds d s
  have hg := writeDemand_gate d s
  have hge := writeDemand_geom d s
  generalize writeDemand d s = t at *
  cases s; cases t
  simp_all [State.fixed, State.reports, State.sources]

theorem startSession_on {s : State} (hs : s.sched.session = false) (hb : ∀ b ∈ s.bookings, b.state = .pending) :
    startSession s = finish (writeDemand (sessionDemand s) (s.setSched { s.sched with session := true, unattended := 0 })) := by
  rw [startSession, if_neg (by simp [activeBooking_none hb, hs])]

theorem startSession_unchanged {s : State} (h : s.sched.session = true ∨ ∃ b ∈ s.bookings, b.state ≠ .pending) : startSession s = s := by
  rw [startSession, if_pos]
  rcases h with h | h
  · simp [h]
  · simp [activeBooking_isSome h]

theorem startSession_turnedOn {s : State} (hs : s.sched.session = false) (hb : ∀ b ∈ s.bookings, b.state = .pending) :
    SessionTurnedOn s (startSession s) := by
  rw [startSession_on hs hb]
  have hd : (finish (writeDemand (sessionDemand s) (s.setSched { s.sched with session := true, unattended := 0 }))).sched =
      { s.sched with session := true, unattended := 0, demand := sessionDemand s } := by
    rw [finish_sched, writeDemand_sched]; rfl
  have hl : (finish (writeDemand (sessionDemand s) (s.setSched { s.sched with session := true, unattended := 0 }))).link = s.link :=
    link_of_fixed (by simp)
  have hlast : ∃ u, DemandWritten (sessionDemand s) (s.setSched { s.sched with session := true, unattended := 0 }) u
      ∧ { finish (writeDemand (sessionDemand s) (s.setSched { s.sched with session := true, unattended := 0 })) with link := s.link }
        = finish u := ⟨_, writeDemand_spec _ _, withLink_eq hl⟩
  obtain ⟨hnone, hdual, hone⟩ := sessionLamps_spec s
  refine ⟨?_, ?_⟩
  · generalize hu : writeDemand (sessionDemand s) (s.setSched { s.sched with session := true, unattended := 0 }) = u
    have hw := writeDemand_rest (sessionDemand s) (s.setSched { s.sched with session := true, unattended := 0 })
    rw [hu] at hw
    calc { finish u with sched := s.sched, lampA := s.lampA, lampB := s.lampB, notices := s.notices, gate := s.gate,
                         engine := s.engine, store := s.store, link := s.link }
        = { ({ finish u with gate := u.gate, engine := u.engine, store := u.store } : State) with
              sched := s.sched, lampA := s.lampA, lampB := s.lampB, notices := s.notices, gate := s.gate, engine := s.engine,
              store := s.store, link := s.link } := rfl
      _ = { ({ u with sched := { s.sched with session := true, unattended := 0 }, lampA := s.lampA, lampB := s.lampB,
                      notices := s.notices, engine := s.engine, store := s.store } : State) with
              sched := s.sched, gate := s.gate, link := s.link } := by rw [finish_rest]
      _ = { s.setSched { s.sched with session := true, unattended := 0 } with sched := s.sched, gate := s.gate, link := s.link } := by
          rw [← hw]; rfl
      _ = s := rfl
  · generalize finish (writeDemand (sessionDemand s) (s.setSched { s.sched with session := true, unattended := 0 })) = t at hd hlast ⊢
    have hdem : t.sched.demand = sessionDemand s := congrArg Schedule.demand hd
    rw [hdem]
    refine ⟨(congrArg Schedule.active hd :), (congrArg Schedule.startedAt hd :), congrArg Schedule.session hd,
      congrArg Schedule.unattended hd, rfl, rfl, rfl, hnone, fun hp => ⟨?_, fun hu => hdual hp hu⟩, fun hp => ?_, fun hp => ?_,
      hone, hlast⟩
    all_goals simp [sessionDemand, hp, Plan.power]

theorem endSession_sched (s : State) : (endSession s).sched = { s.sched with session := false, unattended := 0, demand := .idle } := by
  unfold endSession; rw [computeIfChanged_sched, writeDemand_sched]; rfl

theorem endSession_mute (s : State) : (endSession s).gate.mute = false := by
  unfold endSession; simp [sessionOff]

theorem endSession_override (s : State) : (endSession s).geom.override = none := by
  unfold endSession; simp [sessionOff]

theorem endSession_notices (s : State) : (endSession s).notices = s.notices := by
  unfold endSession; simp [writeDemand_idle_notices, sessionOff]

theorem withNotices_self (s : State) : { s with notices := s.notices } = s := rfl

/-- The session's end with whatever notice its cause raises (R49). -/
theorem endSession_ended (s : State) (ns : Vector Notice 9) : SessionEnded s (finish { endSession s with notices := ns }) := by
  obtain ⟨u, hu, hv⟩ := endSession_spec s
  refine ⟨?_, ?_, ?_, u, endSession s, hu, hv, ?_⟩
  · rw [finish_sched]; exact endSession_sched s
  · rw [finish_mute]; exact endSession_mute s
  · rw [finish_geom]; exact endSession_override s
  · have hl : (finish (endSession s)).link = s.link := link_of_fixed (by simp)
    have hn : (finish (endSession s)).notices = s.notices := by rw [finish_notices, endSession_notices]
    rw [finish_withNotices]
    exact withLinkAndNotices_eq ns hl hn

/-- The session's end by a request or a key raises no notice. -/
theorem stopSession_ended (s : State) : SessionEnded s (finish (endSession s)) ∧ (finish (endSession s)).notices = s.notices := by
  have hn : (finish (endSession s)).notices = s.notices := by rw [finish_notices, endSession_notices]
  have h := endSession_ended s (endSession s).notices
  rw [finish_withNotices, ← finish_notices (endSession s)] at h
  generalize finish (endSession s) = t at h hn ⊢
  exact ⟨h, hn⟩

/-- Settles O14: what the two requests do past their checks. -/
theorem sessionRequests : Obligations.SessionRequests := by
  refine ⟨fun c s hs hh => ⟨fun hoff hb => ?_, fun h => ?_⟩, fun c s hs hc hh => ⟨fun hon => ?_, fun hoff => ?_⟩⟩
  · exact ⟨startSession s, row_answered (request := sesnRequest c) hs (sesnRequest_open hh), startSession_turnedOn hoff hb⟩
  · refine row_answered (request := sesnRequest c) hs ((sesnRequest_open hh).trans ?_)
    rw [startSession_unchanged h]; rfl
  · refine ⟨finish (endSession s), row_answered (request := sesfRequest c) hs ((needScope_open hc hh).trans ?_), stopSession_ended s⟩
    rw [stopSession, if_pos hon]; rfl
  · refine row_answered (request := sesfRequest c) hs ((needScope_open hc hh).trans ?_)
    rw [stopSession, if_neg (by simp [hoff])]; rfl

end Sys2Proof.Machine
end

section
/-! PROOF. Which bytes are no code of their field, and the requests whose fields are checked: profiles, given fields and holds. -/

namespace Sys2Proof.Machine

/-! ## Bytes that are no code -/

theorem aspectOf_eq_none_iff (b : Byte) : Aspect.ofByte b = none ↔ 3 < b.toNat := by revert b; decide

theorem planOf_eq_none_iff (b : Byte) : Plan.ofByte b = none ↔ 3 < b.toNat := by revert b; decide

theorem boolOf_eq_none_iff (b : Byte) : boolOf b = none ↔ 1 < b.toNat := by revert b; decide

theorem presetOf_eq_none_iff (b : Byte) : presetOf b = none ↔ 7 < b.toNat := by
  unfold presetOf; split <;> simp <;> omega

theorem inputOf_eq_none_iff (b : Byte) : inputOf b = none ↔ b.toNat < 1 ∨ 8 < b.toNat := by
  unfold inputOf; split <;> simp <;> omega

theorem byte_eq_zero_iff (b : Byte) : b = 0 ↔ b.toNat = 0 := by simp [← BitVec.toNat_inj]

theorem optInputOf_eq_none_iff (b : Byte) : optInputOf b = none ↔ 8 < b.toNat := by
  unfold optInputOf
  split
  · next h => simp [h]
  · next h => rw [byte_eq_zero_iff] at h; rw [Option.map_eq_none_iff, inputOf_eq_none_iff]; omega

theorem optPresetOf_eq_none_iff (b : Byte) : optPresetOf b = none ↔ 7 < b.toNat ∧ b ≠ 255 := by
  unfold optPresetOf
  split
  · next h => simp [h]
  · next h => simp [presetOf_eq_none_iff]; exact fun _ => h

/-- The fallback that a byte carries is the input that the byte numbers. -/
theorem optInputOf_some_iff {b : Byte} {f : Option Input} (h : optInputOf b = some f) (i : Input) :
    f = some i ↔ b.toNat = i.val + 1 := by
  have hb := optInput_of h
  constructor
  · rintro rfl
    rw [← hb]
    simp only [optInputByte, Option.elim, inputByte, byte, BitVec.toNat_ofNat]
    omega
  · intro hi
    rw [optInputOf, if_neg (by rw [byte_eq_zero_iff]; omega), inputOf_eq_some hi] at h
    simpa using h.symm

/-! ## The fields of a profile -/

/-- Check 3 of PROF, field by field. -/
theorem profileOf_eq_none_iff (i : Input) (r : ProfileRaw) : profileOf i r = none ↔ ProfileOutOfRange i r := by
  unfold ProfileOutOfRange
  rw [← labelValid_iff, ← aspectOf_eq_none_iff, ← presetOf_eq_none_iff, ← optInputOf_eq_none_iff, ← boolOf_eq_none_iff,
    ← boolOf_eq_none_iff]
  unfold profileOf
  cases Aspect.ofByte r.aspect with
  | none => simp
  | some a => cases presetOf r.preset with
    | none => simp
    | some n => cases hf : optInputOf r.fallback with
      | none => simp
      | some f => cases boolOf r.takeOnArrival with
        | none => simp
        | some x => cases boolOf r.panelSelectable with
          | none => simp
          | some y => 
            rw [← optInputOf_some_iff hf]
            cases labelValid r.label <;> simp

/-! ## The given fields of a booking -/

/-- The exam inputs, the flag and the opening input as the bytes carry them (R17). -/
theorem examConsistent_false_iff {exam : Bool} {b opening : Byte} {set : Byte} {f : Option Input} (he : boolOf b = some exam)
    (hf : optInputOf opening = some f) : examConsistent exam (optSetOf set) f = false ↔
      (b = 0 ∧ set ≠ 0) ∨ (b = 1 ∧ set = 0)
        ∨ (b = 1 ∧ ∃ i : Input, opening.toNat = i.val + 1 ∧ hasInput set i = false) := by
  have hb := bool_of he
  have hopen : f.all (hasInput set) = false ↔ ∃ i : Input, opening.toNat = i.val + 1 ∧ hasInput set i = false := by
    simp only [← optInputOf_some_iff hf]
    cases f <;> simp
  by_cases h0 : set = 0
  · subst h0; cases exam <;> simp [optSetOf, examConsistent, ← hb, boolByte]
  · have hset : optSetOf set = some set := if_neg h0
    have h0' : set ≠ 0#8 := h0
    rw [← hopen, hset]; cases exam <;> simp [examConsistent, ← hb, boolByte, h0']

/-- The ranges of R17, on the fields as they are carried. -/
theorem inRange_false_iff {tag : BitVec 16} {start fin : BitVec 32} {g : Given} (ht : g.tag = tag.toNat) (hs : g.start = start.toNat)
    (hf : g.fin = fin.toNat) : g.inRange = false ↔
      tag = 0 ∨ fin.toNat < start.toNat + 10 ∨ start.toNat + 720 < fin.toNat ∨ 2147483647 < fin.toNat
        ∨ examConsistent g.exam g.examInputs g.opening = false := by
  have h0 : tag = 0 ↔ tag.toNat = 0 := by simp [← BitVec.toNat_inj]
  have hlt : tag.toNat < 65536 := tag.isLt
  unfold Given.inRange Config.shortestBooking Config.longestBooking Config.topMinute
  rw [ht, hs, hf, h0]
  cases examConsistent g.exam g.examInputs g.opening
  · simp
  · simp; omega

/-- Check 4 of BOOK but for the horizon, field by field. -/
theorem givenOf_eq_none_iff (r : GivenRaw) : givenOf r = none ↔ GivenOutOfRange r := by
  unfold GivenOutOfRange
  rw [← planOf_eq_none_iff, ← optInputOf_eq_none_iff, ← optPresetOf_eq_none_iff, ← boolOf_eq_none_iff]
  unfold givenOf
  cases Plan.ofByte r.plan with
  | none => simp
  | some a => cases hf : optInputOf r.opening with
    | none => simp
    | some f => cases optPresetOf r.preset with
      | none => simp
      | some n => cases he : boolOf r.exam with
        | none => simp
        | some x =>
          have hr := inRange_false_iff (tag := r.tag) (start := r.start) (fin := r.fin) (g := Given.mk r.tag.toNat r.start.toNat
            r.fin.toNat a f n x (optSetOf r.examInputs)) rfl rfl rfl
          rw [examConsistent_false_iff he hf] at hr
          simpa using hr

/-- The bytes that were read are the bytes that the fields write. -/
theorem raw_of_givenOf {r : GivenRaw} {g : Given} (h : givenOf r = some g) : g.raw = r := by
  obtain ⟨_, ht, hs, hf, hp, ho, hn, he, hi⟩ := givenOf_fields h
  simp [Given.raw, ht, hs, hf, hp, ho, hn, he, hi]

/-! ## The fields of a HOLD -/

theorem scopesOf_eq_none_iff (b : Byte) : Scopes.ofByte b = none ↔ 128 ≤ b.toNat := by revert b; decide

theorem originsOf_eq_none_iff (b : Byte) : Origins.ofByte b = none ↔ 16 ≤ b.toNat := by
  unfold Origins.ofByte; split <;> simp <;> omega

/-- The scopes that a byte codes (R101). -/
theorem scopes_of {b : Byte} {s : Scopes} (h : Scopes.ofByte b = some s) :
    s.nonempty = decide (b ≠ 0) ∧ s.hasRequest = decide (4 ≤ b.toNat) ∧ s.source = b.getLsbD 2 := by
  have hb : ∀ b : Byte, (Scopes.ofByte b).all (fun s => decide (s.nonempty = decide (b ≠ 0) ∧ s.hasRequest = decide (4 ≤ b.toNat)
      ∧ s.source = b.getLsbD 2)) = true := by decide
  have hs := hb b
  rw [h] at hs
  exact of_decide_eq_true hs

/-- The bound origins that a byte codes (R101). -/
theorem origins_of {b : Byte} {o : Origins} (h : Origins.ofByte b = some o) : o.nonempty = decide (b ≠ 0) := by
  have hb : ∀ b : Byte, (Origins.ofByte b).all (fun o => decide (o.nonempty = decide (b ≠ 0))) = true := by decide
  have ho := hb b
  rw [h] at ho
  exact of_decide_eq_true ho

/-- The expiry minute of a HOLD is a room minute or absent. -/
theorem expiryOf_inRange_iff (e : BitVec 32) : (expiryOf e).all (· ≤ Config.topMinute) = true ↔
    ¬ (2147483647 < e.toNat ∧ e ≠ 4294967295) := by
  unfold expiryOf Config.topMinute
  split
  · next h => simp [h]
  · next h => simp only [Option.all_some, decide_eq_true_eq]; exact ⟨fun hle hlt => by omega, fun hn =>
      Decidable.byContradiction fun hlt => hn ⟨by omega, h⟩⟩

/-- Check 3 of HOLD, field by field. -/
theorem requestedHoldOf_eq_none_iff (c : Class) (r : HoldRaw) : requestedHoldOf c r = none ↔ HoldOutOfRange r := by
  unfold HoldOutOfRange
  rw [← scopesOf_eq_none_iff, ← originsOf_eq_none_iff]
  unfold requestedHoldOf
  cases hs : Scopes.ofByte r.scopes with
  | none => simp
  | some sc => cases ho : Origins.ofByte r.bound with
    | none => simp
    | some o =>
      obtain ⟨h1, h2, h3⟩ := scopes_of hs
      have h5 := expiryOf_inRange_iff r.expiry
      have h6 : (optSetOf r.allowed).isNone = decide (r.allowed = 0) := by
        unfold optSetOf; split
        · next h => simp [h]
        · next h => exact (decide_eq_false h).symm
      have hlt : r.scopes.toNat < 4 ↔ ¬ 4 ≤ r.scopes.toNat := by omega
      simp only [Option.bind_eq_bind, Option.bind_some, h1, h2, h3, origins_of ho, h6]
      simp only [ite_eq_right_iff, reduceCtorEq, imp_false, hlt]
      simp only [Bool.and_eq_true, h5, bne_iff_ne, decide_eq_true_eq, Bool.or_eq_true, beq_iff_eq, decide_eq_decide]
      rw [← Bool.not_eq_true (r.scopes.getLsbD 2)]
      grind

end Sys2Proof.Machine
end

section
/-! PROOF. Sources, profiles, presets and the override (`Obligations.SrceSelects`, `Obligations.ProfStores`, `Obligations.PrstStores`,
`Obligations.ApplSetsOverride`, `Obligations.FitAndClamp`) and the keys that do the same (`Obligations.SourceAndPresetKeys`). -/

namespace Sys2Proof.Machine

/-- A record that an event marks and then leaves to the end of the event is marked dirty in the event. -/
theorem markedDirty_marked {n : Nat} {s x u : State} (hx : x.store = s.store) (hu : u.store = (x.marked n).store) :
    MarkedDirty n s (finish u) := by
  refine markedDirty_finish ?_ (by rw [hu, ← hx]; rfl)
  rw [hu]
  exact (mem_dirtyWith n n _).mpr (.inl rfl)

/-! ## SRCE -/

/-- Settles O17: the selection's lemma, and the outcome by whether the input is SHOWN. -/
theorem srceSelects : Obligations.SrceSelects := by
  refine ⟨fun c b i s hs hc hi hh => ?_, fun c b s hs hc hb hh => ?_⟩
  · have hreq : srceRequest c b s = selectInput c i s := by
      rw [srceRequest, hi, needScope_open hc hh]
    refine ⟨makeSelection { target := i, origin := classOrigin c, kind := .request } s, makeSelection_spec _ s, fun h => ?_, fun h => ?_⟩
    · refine row_answered (request := srceRequest c b) hs (hreq.trans ?_)
      rw [selectInput, selectionOutcome, if_pos ((alreadyShown_iff i s).mpr h)]; rfl
    · refine row_answered (request := srceRequest c b) hs (hreq.trans ?_)
      rw [selectInput, selectionOutcome, if_neg (fun h' => h ((alreadyShown_iff i s).mp h'))]; rfl
  · refine row_refused (request := srceRequest c b) hs ?_
    rw [srceRequest, inputOf_eq_none hb, needScope_open hc hh]

/-! ## PROF -/

theorem computeFor_target {i : Input} {s : State} (h : geometryTarget s = some i) : ComputedFor i s (computeFor i s) := by
  rw [computeFor, if_pos h]; exact compute_spec i s

theorem computeFor_other {i : Input} {s : State} (h : geometryTarget s ≠ some i) : computeFor i s = s := if_neg h

theorem computeFor_store (i : Input) (s : State) : (computeFor i s).store = s.store := by
  unfold computeFor; split <;> simp

/-- The bytes of a stored profile are the bytes carried. -/
theorem profileOf_bytes {i : Input} {r : ProfileRaw} {p : Profile} (h : profileOf i r = some p) :
    p.label = r.label ∧ p.aspect.byte = r.aspect ∧ byte p.preset.val = r.preset ∧ optInputByte p.fallback = r.fallback
      ∧ boolByte p.takeOnArrival = r.takeOnArrival ∧ boolByte p.panelSelectable = r.panelSelectable := by
  obtain ⟨_, rfl⟩ := (profileOf_iff i r p).mp h
  exact ⟨rfl, rfl, rfl, rfl, rfl, rfl⟩

theorem profRequest_none {c : Class} {b : Byte} {r : ProfileRaw} {i : Input} {s : State} (hc : c ≠ .panel) (hi : inputOf b = some i)
    (hh : ¬ Held (classOrigin c) .source (some i) s) (hr : profileOf i r = none) : profRequest c b r s = refuse .range s := by
  rw [profRequest, hi, needScope_open hc hh]
  dsimp only
  rw [hr]

theorem profRequest_some {c : Class} {b : Byte} {r : ProfileRaw} {i : Input} {p : Profile} {s : State} (hc : c ≠ .panel)
    (hi : inputOf b = some i) (hh : ¬ Held (classOrigin c) .source (some i) s) (hp : profileOf i r = some p) :
    profRequest c b r s = done (writeProfile i p s) := by
  rw [profRequest, hi, needScope_open hc hh]
  dsimp only
  rw [hp]

/-- Settles O18: the checks, and the computation for the input it is made for. -/
theorem profStores : Obligations.ProfStores := by
  refine ⟨fun c b r i s hs hc hi hh => ⟨(profileOf_eq_none_iff i r).symm, fun hr => ?_, fun p hp => ?_⟩, fun c b r s hs hc hb hh => ?_⟩
  · exact row_refused (request := profRequest c b r) hs (profRequest_none hc hi hh hr)
  · obtain ⟨h1, h2, h3, h4, h5, h6⟩ := profileOf_bytes hp
    have hm : markDirty (profileNo i) (s.setProfiles (s.profiles.set i p)) =
        { s with profiles := s.profiles.set i p }.marked (profileNo i) := markDirty_eq _ _
    refine ⟨h1, h2, h3, h4, h5, h6, computeFor i ({ s with profiles := s.profiles.set i p }.marked (profileNo i)), fun hne => ?_,
      fun heq => ?_, ?_, ?_⟩
    · exact computeFor_other hne
    · exact computeFor_target heq
    · refine row_answered (request := profRequest c b r) hs ?_
      rw [profRequest_some hc hi hh hp, writeProfile, hm]; rfl
    · exact markedDirty_marked (x := { s with profiles := s.profiles.set i p }) rfl (computeFor_store i _)
  · refine row_refused (request := profRequest c b r) hs ?_
    rw [profRequest, inputOf_eq_none hb, needScope_open hc hh]

/-! ## PRST -/

theorem clampInt_eq_max_min {low high : Int} (h : low ≤ high) (v : Int) : clampInt low high v = max low (min high v) := by
  unfold clampInt; split
  · omega
  · split <;> omega

theorem clampTrim_eq (v : Int) : clampTrim v = max (-64) (min 63 v) := clampInt_eq_max_min (by decide) v

theorem clampOutcome_done {b : Bool} (h : b = false) : clampOutcome b = .done := by rw [h]; rfl

theorem clampOutcome_clamped {b : Bool} (h : b = true) : clampOutcome b = .clamped := by rw [h]; rfl

/-- The state that PRST leaves before its computation. -/
def State.withPreset (s : State) (n : PresetNo) (p : Preset) : State :=
  { s with geom := { s.geom with presets := s.geom.presets.set n p } }.marked (presetNo n)

theorem writePreset_eq (n : PresetNo) (p : Preset) (s : State) : writePreset n p s =
    finish (if effectiveNow (s.withPreset n p) = some n then computeTarget (s.withPreset n p) else s.withPreset n p) := by
  rw [writePreset, markDirty_eq]; rfl

/-- The effective preset is a number: what the presets hold does not decide it. -/
theorem effectiveNow_withPreset (s : State) (n : PresetNo) (p : Preset) : effectiveNow (s.withPreset n p) = effectiveNow s := rfl

/-- Settles O20: the values pulled, and the computation where the preset is the effective one. -/
theorem prstStores : Obligations.PrstStores := by
  refine ⟨fun c b n r s hs hc hn hh => ?_, fun c b r s hs hc hb hh => ?_⟩
  · refine ⟨if effectiveNow (s.withPreset n (presetValues r).clamped) = some n
        then computeTarget (s.withPreset n (presetValues r).clamped) else s.withPreset n (presetValues r).clamped,
      (presetValues r).clamped, clampOutcome ((presetValues r).clamped != presetValues r),
      clampInt_eq_max_min (by decide) _, clampInt_eq_max_min (by decide) _, clampTrim_eq _, clampTrim_eq _, clampTrim_eq _, clampTrim_eq _,
      clampTrim_eq _, clampTrim_eq _, clampTrim_eq _, clampTrim_eq _, fun h => clampOutcome_done (by simp [h]),
      fun h => clampOutcome_clamped (by simp [h]), fun h => ?_, fun h => ?_, ?_, ?_⟩
    · rw [if_neg (by rw [effectiveNow_withPreset]; exact h)]; rfl
    · rw [if_pos (by rw [effectiveNow_withPreset]; exact h)]; exact computeTarget_spec _
    · refine row_answered (request := prstRequest c b r) hs ?_
      rw [prstRequest, hn, needScope_open hc hh, ← writePreset_eq]; rfl
    · refine markedDirty_marked (x := { s with geom := { s.geom with presets := s.geom.presets.set n (presetValues r).clamped } }) rfl ?_
      split
      · simp [State.withPreset]
      · rfl
  · refine row_refused (request := prstRequest c b r) hs ?_
    rw [prstRequest, presetOf_eq_none hb, needScope_open hc hh]

/-! ## APPL -/

/-- A lecture is in hand (R146). -/
theorem lectureInHand_true {s : State} (h : s.sched.session = true ∨ ∃ x ∈ s.bookings, x.state ≠ .pending) : lectureInHand s = true := by
  rcases h with h | h
  · simp [lectureInHand, h]
  · simp [lectureInHand, activeBooking_isSome h]

theorem lectureInHand_false {s : State} (hs : s.sched.session = false) (hb : ∀ x ∈ s.bookings, x.state = .pending) :
    lectureInHand s = false := by
  simp [lectureInHand, activeBooking_none hb, hs]

theorem optPresetOf_eq_some {b : Byte} {p : Option PresetNo} (h : (p = none ∧ b = 255) ∨ ∃ n, p = some n ∧ b.toNat = n.val) :
    optPresetOf b = some p := by
  rcases h with ⟨rfl, rfl⟩ | ⟨n, rfl, hn⟩
  · rfl
  · have hne : b ≠ 255 := by rintro rfl; exact absurd hn (by simp; omega)
    rw [optPresetOf, if_neg hne, presetOf_eq_some hn]; rfl

theorem applRequest_open {c : Class} {b : Byte} {p : Option PresetNo} {s : State} (hc : c ≠ .panel)
    (hh : ¬ Held (classOrigin c) .geometry none s) (hp : optPresetOf b = some p) :
    applRequest c b s = if lectureInHand s then done (applyOverride p s) else refuse .state s := by
  rw [applRequest, needScope_open hc hh, hp]

/-- Settles O21: the effective preset and its target are read off their definitions; the rest is the checks in order. -/
theorem applSetsOverride : Obligations.ApplSetsOverride := by
  refine ⟨fun s i => ⟨_, presetFrom_effectivePreset s i⟩, fun s => ⟨fun h => ?_, fun h => ?_, fun h => ?_, fun i h => ?_⟩,
    fun c b s hs hc hh => ⟨fun p hp hl => ⟨_, computeIfChanged_spec _ _, ?_⟩, fun hb hsess hbook => ?_, fun h8 h255 => ?_⟩⟩
  · simp [geometryTarget, h]
  · simp [geometryTarget, h]
  · simp [effectiveNow, h]
  · simp [effectiveNow, h]
  · refine row_answered (request := applRequest c b) hs ?_
    rw [applRequest_open hc hh (optPresetOf_eq_some hp), lectureInHand_true hl]; rfl
  · obtain ⟨p, hp⟩ : ∃ p, optPresetOf b = some p := by
      rw [← Option.ne_none_iff_exists', ne_eq, optPresetOf_eq_none_iff]
      rintro ⟨h7, h255⟩
      exact hb.elim (fun h => by omega) h255
    refine row_refused (request := applRequest c b) hs ?_
    rw [applRequest_open hc hh hp, lectureInHand_false hsess hbook]; rfl
  · refine row_refused (request := applRequest c b) hs ?_
    rw [applRequest, needScope_open hc hh, (optPresetOf_eq_none_iff b).mpr ⟨by omega, h255⟩]

/-- Settles O22: the four stages and the clamp. -/
theorem fitAndClamp : Obligations.FitAndClamp := fun a p => ⟨computeCorners_spec a p, computeCorners_inRaster a p⟩

/-! ## The keys for sources and presets -/

theorem sourceKeyInput_eq {code : Byte} {i : Input} (h : code.toNat = i.val + 4) : sourceKeyInput code = i := by
  ext; simp only [sourceKeyInput, h]; omega

theorem presetKeyNo_eq {code : Byte} {n : PresetNo} (h : code.toNat = n.val + 12) : presetKeyNo code = n := by
  ext; simp only [presetKeyNo, h]; omega

theorem isSourceKey_of {code : Byte} (h : 4 ≤ code.toNat ∧ code.toNat ≤ 11) : isSourceKey code = true := by
  simp [isSourceKey, h]

theorem isPresetKey_of {code : Byte} (h : 12 ≤ code.toNat ∧ code.toNat ≤ 19) : isPresetKey code = true := by
  simp [isPresetKey, h]

theorem sourceKeyTaken_eq {code : Byte} {i : Input} (h : code.toNat = i.val + 4) (s : State) : sourceKeyTaken code s =
    keyChecks code (some (.source, some i)) s.profiles[i].panelSelectable (makeSelection (keySelection i)) s := by
  obtain rfl := sourceKeyInput_eq h
  rfl

/-- Settles O29: the two keys past their checks. -/
theorem sourceAndPresetKeys : Obligations.SourceAndPresetKeys := by
  refine fun code s hs hp hk => ⟨fun i hi hh hsel => ?_, fun n hn hh hl => ?_⟩
  · refine ⟨makeSelection (keySelection i) s, (row_key (act := sourceKeyTaken) hs hp (isSourceKey_of (by omega))).trans ?_,
      makeSelection_spec _ s⟩
    rw [sourceKeyTaken_eq hi, hsel, keyChecks_passed hk (fun x hx => by cases hx; exact hh)]
  · refine ⟨_, computeIfChanged_spec _ _, (row_key (act := presetKeyTaken) hs hp (isPresetKey_of (by omega))).trans ?_⟩
    rw [presetKeyTaken, lectureInHand_true hl, keyChecks_passed hk (fun x hx => by cases hx; exact hh), presetKeyNo_eq hn]
    rfl

end Sys2Proof.Machine
end

section
/-! PROOF. The notices and the settings: SUMM (`Obligations.SummReadsNotices`), NLVL (`Obligations.NlvlSetsLevel`) and CONF
(`Obligations.ConfStores`). -/

namespace Sys2Proof.Machine

/-! ## The attention line -/

theorem exists_index (i : Fin 9) : ∃ k, NoticeClass.index k = i := by
  have h : ∀ i : Fin 9, ∃ k ∈ allClasses, k.index = i := by decide
  obtain ⟨k, _, hk⟩ := h i
  exact ⟨k, hk⟩

theorem attention_iff (s : State) : s.attention = true ↔ s.phase = .running ∧ ∃ k, (s.notice k).pending = true ∧ 1 ≤ s.level k := by
  rw [State.attention, Bool.and_eq_true, beq_iff_eq]
  refine and_congr_right fun _ => ?_
  rw [attentionDue, List.any_eq_true]
  constructor
  · rintro ⟨x, hx, h⟩
    obtain ⟨i, hi, rfl⟩ := List.mem_iff_getElem.mp hx
    have hi9 : i < 9 := by simpa using hi
    obtain ⟨k, hk⟩ := exists_index ⟨i, hi9⟩
    rw [List.getElem_zip, Bool.and_eq_true, decide_eq_true_eq] at h
    obtain rfl : k.index.val = i := congrArg Fin.val hk
    exact ⟨k, by simpa [State.notice, State.level] using h⟩
  · rintro ⟨k, h⟩
    have hlen : k.index.val < (s.notices.toList.zip s.config.levels.toList).length := by simp
    refine ⟨(s.notices.toList.zip s.config.levels.toList)[k.index.val], List.getElem_mem hlen, ?_⟩
    rw [List.getElem_zip, Bool.and_eq_true, decide_eq_true_eq]
    simpa [State.notice, State.level] using h

/-! ## SUMM -/

theorem mem_allClasses (k : NoticeClass) : k ∈ allClasses := by cases k <;> simp [allClasses]

theorem allClasses_sorted : allClasses.Pairwise (fun j k => j.index < k.index) := by decide

theorem index_injective {j k : NoticeClass} (h : j.index = k.index) : j = k := by
  revert h; cases j <;> cases k <;> decide

theorem mem_pendingAtLevel (s : State) (n : Nat) (k : NoticeClass) :
    k ∈ pendingAtLevel s n ↔ (s.notice k).pending = true ∧ s.level k = n := by
  simp [pendingAtLevel, mem_allClasses]

theorem mem_summary {s : State} (h : ∀ k, s.level k ≤ 3) (k : NoticeClass) : k ∈ summary s ↔ (s.notice k).pending = true := by
  have hk := h k
  simp only [summary, List.mem_flatMap, mem_pendingAtLevel]
  exact ⟨fun ⟨_, _, hp, _⟩ => hp, fun hp => ⟨s.level k, by simp; omega, hp, rfl⟩⟩

/-- The order of SUMM's entries: by level, highest first, and among equal levels by position (R196). -/
theorem summary_sorted (s : State) :
    (summary s).Pairwise (fun j k => s.level k < s.level j ∨ (s.level k = s.level j ∧ j.index < k.index)) := by
  rw [summary, List.pairwise_flatMap]
  refine ⟨fun n _ => ?_, ?_⟩
  · refine (allClasses_sorted.filter _).imp_of_mem ?_
    intro j k hj hk hlt
    have hj' := ((mem_pendingAtLevel s n j).mp hj).2
    have hk' := ((mem_pendingAtLevel s n k).mp hk).2
    exact .inr ⟨by omega, hlt⟩
  · refine List.Pairwise.imp ?_ (show [3, 2, 1, 0].Pairwise (fun m n => n < m) by decide)
    intro m n hlt j hj k hk
    have hj' := ((mem_pendingAtLevel s m j).mp hj).2
    have hk' := ((mem_pendingAtLevel s n k).mp hk).2
    exact .inl (by omega)

theorem clearPending_notice (s : State) (c k : NoticeClass) :
    (clearPending s c).notice k = if k = c then { s.notice k with pending := false } else s.notice k := by
  unfold clearPending State.notice
  split
  · next h => subst h; simp
  · next h => exact Vector.getElem_set_ne c.index.isLt k.index.isLt (fun he => h (index_injective (Fin.ext he)).symm)

/-- What is left of the notices when some classes were read: their pending flags are no. -/
theorem foldl_clearPending_notice (l : List NoticeClass) (s : State) (k : NoticeClass) :
    (l.foldl clearPending s).notice k = if k ∈ l then { s.notice k with pending := false } else s.notice k := by
  induction l generalizing s with
  | nil => rfl
  | cons c rest ih =>
    rw [List.foldl_cons, ih, clearPending_notice]
    by_cases hc : k = c <;> by_cases hr : k ∈ rest <;> simp [hc, hr]

theorem foldl_clearPending_rest (l : List NoticeClass) (s : State) : { l.foldl clearPending s with notices := s.notices } = s := by
  induction l generalizing s with
  | nil => rfl
  | cons c rest ih =>
    have h := ih (clearPending s c)
    rw [List.foldl_cons]
    generalize rest.foldl clearPending (clearPending s c) = t at h ⊢
    calc { t with notices := s.notices }
        = { ({ t with notices := (clearPending s c).notices } : State) with notices := s.notices } := rfl
      _ = { clearPending s c with notices := s.notices } := by rw [h]
      _ = s := rfl

/-- A reply changes the link, and clearing the notices changes the notices. -/
theorem replied_cleared_rest (l : List NoticeClass) (s : State) (n : ReqName) (o : ReqOutcome) (ps : List Byte) :
    { (l.foldl clearPending s).replied n o ps with notices := s.notices, link := s.link } = s := by
  have h := foldl_clearPending_rest l s
  generalize l.foldl clearPending s = t at h ⊢
  calc { t.replied n o ps with notices := s.notices, link := s.link }
      = { ({ t with notices := s.notices } : State) with link := s.link } := rfl
    _ = s := by rw [h]

/-- Settles O24: SUMM's list by level, and the flags it clears. -/
theorem summReadsNotices : Obligations.SummReadsNotices := by
  refine ⟨attention_iff, fun c s hs hc hl => ⟨_, summary s, row_answered (request := summRequest c) hs (needClass_control hc),
    rfl, mem_summary hl, summary_sorted s, fun k => ?_, replied_cleared_rest _ s _ _ _⟩⟩
  have hk := mem_summary hl k
  refine (foldl_clearPending_notice (summary s) s k).trans ?_
  split
  · rfl
  · next h =>
    have hp : (s.notice k).pending = false := by simpa using h ∘ hk.mpr
    rw [← hp]

/-! ## NLVL -/

theorem clampLevel_eq (n : Nat) : clampLevel n = min 3 n := by unfold clampLevel; split <;> omega

theorem classAt_eq_none {b : Byte} (h : b.toNat < 1 ∨ 9 < b.toNat) : classAt b = none := dif_neg (by omega)

theorem classAt_index {b : Byte} {k : NoticeClass} (h : b.toNat = k.index.val + 1) : classAt b = some k.index := by
  rw [classAt, dif_pos ⟨by omega, by omega⟩]
  exact congrArg some (Fin.ext (by simp [h]))

/-- The state with another configuration record, which was marked. -/
def State.withConfig (s : State) (cfg : ConfigRecord) : State := { s with config := cfg }.marked configNo

theorem writeConfig_eq (cfg : ConfigRecord) (s : State) : writeConfig cfg s = finish (s.withConfig cfg) := by
  rw [writeConfig, markDirty_eq]; rfl

/-- What the writing of the configuration record leaves alone, but for the end of the event and the reply. -/
theorem withConfig_rest (s : State) (cfg : ConfigRecord) (n : ReqName) (o : ReqOutcome) (ps : List Byte) :
    { (finish (s.withConfig cfg)).replied n o ps with
      config := s.config, gate := s.gate, engine := s.engine, store := s.store, link := s.link } = s := by
  have h := finish_rest (s.withConfig cfg)
  generalize finish (s.withConfig cfg) = t at h ⊢
  calc { t.replied n o ps with config := s.config, gate := s.gate, engine := s.engine, store := s.store, link := s.link }
      = { ({ t with gate := (s.withConfig cfg).gate, engine := (s.withConfig cfg).engine, store := (s.withConfig cfg).store } : State) with
          config := s.config, store := s.store, link := s.link } := rfl
    _ = { s.withConfig cfg with config := s.config, store := s.store, link := s.link } := by rw [h]
    _ = s := rfl

/-- The state that NLVL leaves. -/
theorem nlvlRequest_class {c : Class} {p l : Byte} {k : NoticeClass} {s : State} (hc : c ≠ .panel) (hp : p.toNat = k.index.val + 1) :
    nlvlRequest c p l s = { state := finish (s.withConfig { s.config with levels := s.config.levels.set k.index (min 3 l.toNat) }),
                            outcome := if 3 < l.toNat then .clamped else .done, params := [byte (min 3 l.toNat)] } := by
  rw [nlvlRequest, needClass_control hc, classAt_index hp]
  dsimp only
  rw [setLevel, writeConfig_eq, clampLevel_eq]
  congr 1
  unfold clampOutcome
  by_cases h : 3 < l.toNat
  · rw [if_pos h, if_pos (by simp; omega)]
  · rw [if_neg h, if_neg (by simp; omega)]

/-- The level of a class after one level was set. -/
theorem getElem_set_level (v : Vector Nat 9) (k j : NoticeClass) (n : Nat) :
    (v.set k.index n)[j.index] = if j = k then n else v[j.index] := by
  split
  · next h => subst h; simp
  · next h => exact Vector.getElem_set_ne k.index.isLt j.index.isLt (fun he => h (index_injective (Fin.ext he)).symm)

theorem config_afterWrite (s : State) (cfg : ConfigRecord) (n : ReqName) (o : ReqOutcome) (ps : List Byte) :
    ((finish (s.withConfig cfg)).replied n o ps).config = cfg := (finish_config (s.withConfig cfg)).trans rfl

theorem level_afterWrite (s : State) (cfg : ConfigRecord) (n : ReqName) (o : ReqOutcome) (ps : List Byte) (k : NoticeClass) :
    ((finish (s.withConfig cfg)).replied n o ps).level k = cfg.levels[k.index] := by
  unfold State.level; rw [config_afterWrite]

theorem phase_afterWrite (s : State) (cfg : ConfigRecord) (n : ReqName) (o : ReqOutcome) (ps : List Byte) :
    ((finish (s.withConfig cfg)).replied n o ps).phase = s.phase := (finish_phase (s.withConfig cfg)).trans rfl

/-- The configuration record is marked dirty when it is written. -/
theorem markedDirty_withConfig (s : State) (cfg : ConfigRecord) (n : ReqName) (o : ReqOutcome) (ps : List Byte) :
    MarkedDirty configNo s ((finish (s.withConfig cfg)).replied n o ps) :=
  markedDirty_replied (markedDirty_marked (x := { s with config := cfg }) rfl rfl) n o ps

/-- Settles O25: the level is set and pulled down, and the rest follows from the state that the request leaves. -/
theorem nlvlSetsLevel : Obligations.NlvlSetsLevel := by
  refine fun c p l s hs => ⟨?_, fun hc hp => ?_, fun hc k hp => ⟨_, row_answered (request := nlvlRequest c p l) hs
    (nlvlRequest_class hc hp), rfl, ?_, fun j hj => ?_, fun h => ?_, fun h => ?_, markedDirty_withConfig .., ?_, ?_⟩⟩
  · rintro rfl
    exact row_refused (request := nlvlRequest .panel p l) hs needClass_panel
  · refine row_refused (request := nlvlRequest c p l) hs ?_
    rw [nlvlRequest, needClass_control hc, classAt_eq_none hp]
  · rw [level_afterWrite, getElem_set_level, if_pos rfl]
  · rw [level_afterWrite, getElem_set_level, if_neg hj]; rfl
  · rw [level_afterWrite, getElem_set_level, if_pos rfl, if_pos h]; rfl
  · rw [level_afterWrite, getElem_set_level, if_pos rfl, if_neg (by omega)]; rfl
  · rw [attention_iff, phase_afterWrite]
    exact ⟨fun h => h.2, fun h => ⟨hs, h⟩⟩
  · rw [config_afterWrite]
    exact withConfig_rest s _ _ _ _

/-! ## CONF -/

theorem clampNat_eq {low high : Nat} (h : low ≤ high) (n : Nat) : clampNat low high n = max low (min high n) := by
  unfold clampNat; split
  · omega
  · split <;> omega

theorem clampPlan_eq (b : Byte) : clampPlan b = if b.toNat ≤ 1 then .eco else if b.toNat = 2 then .full else .dual := by
  have h : b = 2 ↔ b.toNat = 2 := by simp [← BitVec.toNat_inj]
  simp only [clampPlan, h]

/-- The nine levels, one for each byte carried. -/
theorem levelsOf_eq {bs : List Byte} (h : bs.length = 9) : (levelsOf bs).toList = bs.map (fun l => min 3 l.toNat) := by
  match bs, h with
  | [b0, b1, b2, b3, b4, b5, b6, b7, b8], _ => simp only [← clampLevel_eq]; rfl

theorem confRequest_eq {c : Class} {r : ConfigRaw} {s : State} (hc : c ≠ .panel) : confRequest c r s =
    { state := finish (s.withConfig (configOf r)), outcome := clampOutcome ((configOf r).bytes != configRawBytes r),
      params := (configOf r).bytes } := by
  rw [confRequest, needClass_control hc, storeConfig, writeConfig_eq]

/-- Settles O26: the record with its fields pulled, and what its writing leaves. -/
theorem confStores : Obligations.ConfStores := by
  refine fun c r s hs hc hl => ⟨_, clampOutcome ((configOf r).bytes != configRawBytes r), row_answered (request := confRequest c r) hs (confRequest_eq hc), ?_⟩
  rw [config_afterWrite]
  refine ⟨rfl, clampNat_eq (by decide) _, ?_, clampNat_eq (by decide) _, ?_, clampNat_eq (by decide) _, clampPlan_eq _, levelsOf_eq hl, rfl,
    fun h => clampOutcome_done (by simp [h]), fun h => clampOutcome_clamped (by simp [h]), markedDirty_withConfig .., withConfig_rest ..⟩
  · exact (clampNat_eq (show 0 ≤ 30 by decide) r.bridge.toNat).trans (by omega)
  · have h0 : r.noShow = 0 ↔ r.noShow.toNat = 0 := byte_eq_zero_iff _
    simp only [configOf, clampNoShow, h0, clampNat_eq (show 5 ≤ 60 by decide)]

end Sys2Proof.Machine
end

section
/-! PROOF. What the schedule check does to the bookings of the table, apart from their states and their planned wear: a booking
leaves only by its end, by a missed end or by a no-show, and none comes in. -/

namespace Sys2Proof.Machine

/-! ## What a booking keeps through its run -/

/-- What of a booking neither an evaluation nor an arrival changes (R10, R38, R40). -/
def Booking.card (b : Booking) : Given × Class × LampSet × Nat := (b.given, b.owner, b.assignment, b.slot)

/-- What the bookings of the table keep through their runs. -/
def State.cards (s : State) : List (Given × Class × LampSet × Nat) := s.bookings.map Booking.card

theorem cards_of_bookings {s t : State} (h : t.bookings = s.bookings) : t.cards = s.cards := congrArg (List.map Booking.card) h

theorem mem_cards {s : State} {c : Given × Class × LampSet × Nat} : c ∈ s.cards ↔ ∃ b ∈ s.bookings, b.card = c := List.mem_map

theorem card_mem {s : State} {b : Booking} (h : b ∈ s.bookings) : b.card ∈ s.cards := List.mem_map_of_mem h

/-- An evaluation keeps the cards (R10). -/
theorem map_card_evaluateTags (cfg : ConfigRecord) (tags : List Nat) (pred : Option Booking) (bs : List Booking) :
    (evaluateTags cfg tags pred bs).map Booking.card = bs.map Booking.card := by
  have h := congrArg (List.map (fun x : Given × Class × LampSet × BookingState × Bool × Nat =>
    (x.1, x.2.1, x.2.2.1, x.2.2.2.2.2))) (evaluateTags_lasting cfg tags pred bs)
  rw [List.map_map, List.map_map] at h
  exact h

theorem map_card_updateBooking {f : Booking → Booking} (hf : ∀ b, (f b).card = b.card) (tag : Nat) (bs : List Booking) :
    (updateBooking tag f bs).map Booking.card = bs.map Booking.card := by
  rw [updateBooking, List.map_map]
  refine List.map_congr_left fun b _ => ?_
  rw [Function.comp_apply]
  split
  · exact hf b
  · rfl

theorem map_card_removeTag (tag : Nat) (bs : List Booking) :
    (removeTag tag bs).map Booking.card = (bs.map Booking.card).filter (fun c => c.1.tag != tag) := by
  rw [removeTag, List.filter_map]; rfl

/-! ## The arrivals -/

theorem leadArrival_bookings (before : Option PresetNo) (b : Booking) (s : State) : (leadArrival before b s).bookings =
    updateBooking b.given.tag (fun x => { x with state := .warming }) s.bookings := by
  have ho : (leadArrival before b s).bookings = (computeIfChanged before (leadWarm b s)).bookings := bookings_of_table (by simp [leadArrival])
  have hc : (computeIfChanged before (leadWarm b s)).bookings = (leadWarm b s).bookings := bookings_of_table (by simp)
  have hw : (leadWarm b s).bookings = _ := congrArg ViewRoomUse.bookings (leadWarm_roomUse b s)
  exact ho.trans (hc.trans hw)

theorem leadArrival_cards (before : Option PresetNo) (b : Booking) (s : State) : (leadArrival before b s).cards = s.cards :=
  (congrArg (List.map Booking.card) (leadArrival_bookings before b s)).trans
    (map_card_updateBooking (f := fun x => { x with state := .warming }) (fun _ => rfl) _ _)

theorem startArrival_bookings (b : Booking) (s : State) : (startArrival b s).bookings =
    updateBooking b.given.tag (fun x => { x with state := .running, shownSinceStart := s.switch.state == .shown }) s.bookings := by
  unfold startArrival; dsimp only; split <;> simp [placeHold, HoldKind.douses, examHold]

theorem startArrival_cards (b : Booking) (s : State) : (startArrival b s).cards = s.cards :=
  (congrArg (List.map Booking.card) (startArrival_bookings b s)).trans (map_card_updateBooking
    (f := fun x => { x with state := .running, shownSinceStart := s.switch.state == .shown }) (fun _ => rfl) _ _)

theorem endBooking_cards (b : Booking) (s : State) : (endBooking b s).cards = s.cards.filter (fun c => c.1.tag != b.given.tag) := by
  obtain ⟨d, h⟩ := endBooking_roomUse b s
  exact (congrArg (fun v : ViewRoomUse => v.bookings.map Booking.card) h).trans (map_card_removeTag _ _)

theorem endArrival_cards (b : Booking) (s : State) : (endArrival b s).cards = s.cards.filter (fun c => c.1.tag != b.given.tag) :=
  endBooking_cards b s

theorem noShowRelease_cards (b : Booking) (s : State) : (noShowRelease b s).cards = s.cards.filter (fun c => c.1.tag != b.given.tag) :=
  endBooking_cards b s

theorem departBooking_cards (b : Booking) (s : State) : (departBooking b s).cards = s.cards.filter (fun c => c.1.tag != b.given.tag) := by
  rw [State.cards, departBooking_bookings, tableWithout, map_card_evaluateTags, map_card_removeTag]; rfl

theorem retireMissed_cards (s : State) (b : Booking) : (retireMissed s b).cards = s.cards.filter (fun c => c.1.tag != b.given.tag) := by
  rw [State.cards, retireMissed_bookings, tableWithout, map_card_evaluateTags, map_card_removeTag]; rfl

theorem endGapIfDue_cards (s : State) : (endGapIfDue s).cards = s.cards := cards_of_bookings (bookings_of_table (endGapIfDue_table s))

theorem computeIfChanged_cards (before : Option PresetNo) (s : State) : (computeIfChanged before s).cards = s.cards :=
  cards_of_bookings (bookings_of_table (by simp))

theorem finish_cards (s : State) : (finish s).cards = s.cards := cards_of_bookings (finish_bookings s)

/-! ## The phases of the schedule check -/

theorem startPhase_cards (s : State) : (startPhase s).cards = s.cards := by
  unfold startPhase; split
  · exact startArrival_cards _ s
  · rfl

theorem leadAndStart_cards (before : Option PresetNo) (s : State) : (leadAndStart before s).cards = s.cards := by
  unfold leadAndStart; split
  · rw [startPhase_cards, leadArrival_cards]
  · rw [startPhase_cards, computeIfChanged_cards]

theorem mem_foldl_retireMissed (l : List Booking) (s : State) (c : Given × Class × LampSet × Nat) :
    c ∈ (l.foldl retireMissed s).cards ↔ c ∈ s.cards ∧ ∀ b ∈ l, c.1.tag ≠ b.given.tag := by
  induction l generalizing s with
  | nil => simp
  | cons b rest ih => rw [List.foldl_cons, ih, retireMissed_cards]; simp [and_assoc]

theorem mem_missedPhase {s : State} {c : Given × Class × LampSet × Nat} (h : c ∈ (missedPhase s).cards) : c ∈ s.cards :=
  ((mem_foldl_retireMissed _ s c).mp h).1

theorem mem_endPhase {s : State} {c : Given × Class × LampSet × Nat} (h : c ∈ (endPhase s).cards) : c ∈ s.cards := by
  unfold endPhase at h; split at h
  · split at h
    · rw [endArrival_cards] at h; exact (List.mem_filter.mp h).1
    · exact h
  · exact h

theorem mem_noShowPhase {s : State} {c : Given × Class × LampSet × Nat} (h : c ∈ (noShowPhase s).cards) : c ∈ s.cards := by
  unfold noShowPhase at h; split at h
  · rw [leadAndStart_cards, noShowRelease_cards] at h; exact (List.mem_filter.mp h).1
  · exact h

/-- No booking comes in by the schedule check (R36). -/
theorem mem_scheduleCheckFrom {before : Option PresetNo} {s : State} {c : Given × Class × LampSet × Nat}
    (h : c ∈ (scheduleCheckFrom before s).cards) : c ∈ s.cards := by
  unfold scheduleCheckFrom at h; split at h
  · have h := mem_noShowPhase h
    rw [leadAndStart_cards] at h
    exact mem_endPhase (mem_missedPhase h)
  · exact h

theorem mem_reexamine {s : State} {c : Given × Class × LampSet × Nat} (h : c ∈ (reexamine s).cards) : c ∈ s.cards := by
  unfold reexamine at h; split at h
  · split at h
    · exact mem_scheduleCheckFrom h
    · exact h
  · exact h

/-! ## What stays through a re-examination -/

theorem activeBooking_congr {s t : State} (h : t.bookings = s.bookings) : t.activeBooking = s.activeBooking := by
  unfold State.activeBooking; rw [h]

theorem startArrival_startedAt (b : Booking) (s : State) : (startArrival b s).sched.startedAt = some s.clock.minute := by
  unfold startArrival; dsimp only; split <;> simp [placeHold, HoldKind.douses, examHold] <;> rfl

/-- A booking that has just started is no no-show yet (R44). -/
theorem not_noShow_started (b x : Booking) (s : State) : ¬ NoShow x (startArrival b s) := by
  rintro ⟨_, h0, _, _, m, hm, hle⟩
  have hc : (startArrival b s).clock = s.clock := congrArg ViewFixed.clock (startArrival_fixed b s)
  rw [startArrival_startedAt] at hm
  rw [hc] at hle
  cases hm
  omega

/-- A table with no RUNNING booking has no no-show (R44). -/
theorem not_noShow_of {s : State} (h : ∀ b ∈ s.bookings, b.state ≠ .running) (x : Booking) : ¬ NoShow x s := by
  rintro ⟨ha, _, hr, _⟩
  exact h x (activeBooking_eq ha).1 hr

/-- Right after a lead and a start that follow a table with no active booking, none is a no-show (R44). -/
theorem not_noShow_leadAndStart {s : State} (before : Option PresetNo) (h : ∀ b ∈ s.bookings, b.state = .pending) (x : Booking) :
    ¬ NoShow x (leadAndStart before s) := by
  have hstart : ∀ t : State, (∀ b ∈ t.bookings, b.state ≠ .running) → ¬ NoShow x (startPhase t) := by
    intro t ht
    unfold startPhase; split
    · exact not_noShow_started _ x t
    · exact not_noShow_of ht x
  unfold leadAndStart; split
  · next b hb =>
    refine hstart _ fun y hy => ?_
    rw [leadArrival_bookings, updateBooking, List.mem_map] at hy
    obtain ⟨z, hz, rfl⟩ := hy
    split
    · simp
    · simp [h z hz]
  · refine hstart _ fun y hy => ?_
    rw [bookings_of_table (s := s) (by simp)] at hy
    simp [h y hy]

theorem retireMissed_pending {s : State} (b : Booking) (h : ∀ x ∈ s.bookings, x.state = .pending) :
    ∀ x ∈ (retireMissed s b).bookings, x.state = .pending := by
  rw [retireMissed_bookings, tableWithout]
  exact pending_of_lasting (evaluateTags_lasting _ _ _ _).symm (pending_removeTag h)

theorem foldl_retireMissed_pending (l : List Booking) {s : State} (h : ∀ x ∈ s.bookings, x.state = .pending) :
    ∀ x ∈ (l.foldl retireMissed s).bookings, x.state = .pending := by
  induction l generalizing s with
  | nil => exact h
  | cons b rest ih => exact ih (retireMissed_pending b h)

/-- A booking whose end is still to come stays through a schedule check that finds none active (R36). -/
theorem mem_scheduleCheckFrom_of {before : Option PresetNo} {s : State} {c : Given × Class × LampSet × Nat} (h : c ∈ s.cards)
    (ha : ∀ b ∈ s.bookings, b.state = .pending) (hf : ∀ b ∈ s.bookings, b.given.tag = c.1.tag → s.clock.minute < b.given.fin) :
    c ∈ (scheduleCheckFrom before s).cards := by
  unfold scheduleCheckFrom; split
  · have he : endPhase s = s := by unfold endPhase; rw [activeBooking_none ha]
    have hn : noShowDue (leadAndStart before (missedPhase s)) = none := by
      rw [Option.eq_none_iff_forall_ne_some]
      exact fun x hx => not_noShow_leadAndStart before (foldl_retireMissed_pending _ ha) x ((noShowDue_iff _ _).mp hx)
    rw [he, noShowPhase, hn, leadAndStart_cards]
    refine (mem_foldl_retireMissed _ s c).mpr ⟨h, fun b hb ht => ?_⟩
    obtain ⟨hm, ho⟩ := List.mem_filter.mp hb
    simp only [Bool.and_eq_true, decide_eq_true_eq] at ho
    exact absurd (hf b hm ht.symm) (by omega)
  · exact h

/-- A booking whose end is still to come stays through a re-examination (R21, R36). -/
theorem mem_reexamine_of {s : State} {c : Given × Class × LampSet × Nat} (h : c ∈ s.cards)
    (hf : ∀ b ∈ s.bookings, b.given.tag = c.1.tag → s.clock.minute < b.given.fin) : c ∈ (reexamine s).cards := by
  unfold reexamine; split
  · next ha _ =>
    split
    · exact mem_scheduleCheckFrom_of h (activeBooking_eq_none ha) hf
    · exact h
  · exact h

/-! ## Mute and the override -/

/-- Mute is off and there is no override. -/
def Plain (s : State) : Prop := s.gate.mute = false ∧ s.geom.override = none

theorem Plain.of_views {s t : State} (h : Plain s) (hm : t.gate = s.gate) (ho : t.geom = s.geom) : Plain t :=
  ⟨by rw [hm]; exact h.1, by rw [ho]; exact h.2⟩

theorem endBooking_plain (b : Booking) (s : State) : Plain (endBooking b s) := by
  unfold endBooking; constructor <;> simp

theorem compute_plain {i : Input} {s : State} (h : Plain s) : Plain (compute i s) := by
  rw [compute_spec i s]
  exact h

theorem computeIfChanged_plain {before : Option PresetNo} {s : State} (h : Plain s) : Plain (computeIfChanged before s) := by
  unfold computeIfChanged computeTarget
  split
  · exact h
  · split
    · exact compute_plain h
    · exact h

theorem absorbSession_plain {tag : Nat} {s : State} (h : Plain s) : Plain (absorbSession tag s) := by
  unfold absorbSession; split
  · exact ⟨rfl, rfl⟩
  · exact h

theorem leadArrival_plain {before : Option PresetNo} {b : Booking} {s : State} (h : Plain s) : Plain (leadArrival before b s) := by
  have hw : Plain (leadWarm b s) :=
    (absorbSession_plain (h.of_views (by simp) (by simp))).of_views (writeDemand_gate _ _) (writeDemand_geom _ _)
  exact (computeIfChanged_plain (before := before) hw).of_views (by simp [leadArrival]) (by simp [leadArrival])

theorem startPhase_plain {s : State} (h : Plain s) : Plain (startPhase s) := by
  unfold startPhase; split
  · exact h.of_views (by simp) (by simp)
  · exact h

theorem leadAndStart_plain {before : Option PresetNo} {s : State} (h : Plain s) : Plain (leadAndStart before s) := by
  unfold leadAndStart; split
  · exact startPhase_plain (leadArrival_plain h)
  · exact startPhase_plain (computeIfChanged_plain h)

theorem missedPhase_plain {s : State} (h : Plain s) : Plain (missedPhase s) := h.of_views (by simp) (by simp)

theorem endPhase_plain {s : State} (h : Plain s) : Plain (endPhase s) := by
  unfold endPhase; split
  · split
    · exact endBooking_plain _ s
    · exact h
  · exact h

theorem noShowPhase_plain {s : State} (h : Plain s) : Plain (noShowPhase s) := by
  unfold noShowPhase; split
  · exact leadAndStart_plain (endBooking_plain _ s)
  · exact h

/-- The schedule check turns no mute on and sets no override. -/
theorem scheduleCheckFrom_plain {before : Option PresetNo} {s : State} (h : Plain s) : Plain (scheduleCheckFrom before s) := by
  unfold scheduleCheckFrom; split
  · exact noShowPhase_plain (leadAndStart_plain (missedPhase_plain (endPhase_plain h)))
  · exact h

end Sys2Proof.Machine
end

section
/-! PROOF. The arrivals of a booking (`Obligations.BookingArrivals`), UNBK and ENDN (`Obligations.UnbkAndEndn`), BOOK
(`Obligations.BookAdmits`) and REBK (`Obligations.RebkAmends`). -/

namespace Sys2Proof.Machine

/-- Settles O13: each arrival by its own rule. -/
theorem bookingArrivals : Obligations.BookingArrivals :=
  ⟨scheduleCheckFrom_spec, leadArrival_spec, startArrival_spec, fun b s => ⟨_, endBooking_spec b s, rfl, rfl⟩, retireMissed_spec⟩

/-! ## An event that changes the table -/

/-- The end of an event that changed the table (R21, R43). -/
def tableEventEnd (v : State) : State := finish (reexamine (endGapIfDue v))

theorem tableEventEnd_ended (v : State) : TableEventEnded v (tableEventEnd v) := ⟨_, _, endGapIfDue_spec v, reexamine_spec _, rfl⟩

theorem tableChanged_bookings {bs : List Booking} {m : Option Nat} {s v : State} (h : TableChanged bs m s v) : v.bookings = bs := by
  cases m <;> exact congrArg State.bookings h.2

theorem tableChanged_fixed {bs : List Booking} {m : Option Nat} {s v : State} (h : TableChanged bs m s v) : v.fixed = s.fixed := by
  cases m <;> exact (congrArg State.fixed h.2 :)

theorem tableChanged_reports {bs : List Booking} {m : Option Nat} {s v : State} (h : TableChanged bs m s v) :
    v.reports = s.reports := by
  cases m <;> exact (congrArg State.reports h.2 :)

theorem tableChanged_store {bs : List Booking} {n : Nat} {s v : State} (h : TableChanged bs (some n) s v) :
    v.store = (s.marked (slotNo n)).store := (congrArg State.store h.2 :)

theorem tableEvent_rest {bs : List Booking} {m : Option Nat} {s v : State} (h : TableChanged bs m s v) : RestKept s (tableEventEnd v) :=
  restKept_of_views (by simp [tableEventEnd, tableChanged_fixed h]) (by simp [tableEventEnd, tableChanged_reports h])

/-- What is dirty in some state of an event stays so, or the writer takes it at the end (R199). -/
theorem markedDirty_moves {n : Nat} {s u v : State} (h : n ∈ u.store.dirty) (hw : u.store.writing = s.store.writing) (m : Moves u v)
    (hv : v.medium = u.medium) : MarkedDirty n s (finish v) :=
  markedDirty_finish (m.dirty n h) ((congrArg ViewMedium.writing hv).trans hw)

theorem tableEvent_marked {bs : List Booking} {n : Nat} {s v : State} (h : TableChanged bs (some n) s v) :
    MarkedDirty (slotNo n) s (tableEventEnd v) := by
  have hs := tableChanged_store h
  refine markedDirty_moves (u := v) ?_ (congrArg Store.writing hs :) ((moves_endGapIfDue v).trans (moves_reexamine _)) (by simp)
  rw [hs]
  exact (mem_dirtyWith _ _ _).mpr (.inl rfl)

theorem tableEvent_cards_sub {v : State} {c : Given × Class × LampSet × Nat} (h : c ∈ (tableEventEnd v).cards) : c ∈ v.cards := by
  rw [tableEventEnd, finish_cards] at h
  have h := mem_reexamine h
  rwa [endGapIfDue_cards] at h

/-- A booking that is the only one with its tag, and whose end is still to come, stands after the event, and the reply carries it. -/
theorem tableEvent_stands {v : State} {k : Given × Class × LampSet × Nat} (hk : k ∈ v.cards)
    (hu : ∀ c ∈ v.cards, c.1.tag = k.1.tag → c = k) (hf : v.clock.minute < k.1.fin) :
    ∃ after ∈ (tableEventEnd v).bookings, after.card = k ∧ replyFields k.1.tag (tableEventEnd v) = after.replyBytes := by
  have hin : k ∈ (tableEventEnd v).cards := by
    rw [tableEventEnd, finish_cards]
    refine mem_reexamine_of (by rw [endGapIfDue_cards]; exact hk) fun b hb ht => ?_
    have hc := hu b.card (by rw [← endGapIfDue_cards]; exact card_mem hb) ht
    have hclock : (endGapIfDue v).clock = v.clock := congrArg ViewFixed.clock (endGapIfDue_fixed v)
    rw [hclock]
    exact (congrArg (fun c : Given × Class × LampSet × Nat => c.1.fin) hc) ▸ hf
  obtain ⟨b, hb, rfl⟩ := mem_cards.mp hin
  obtain ⟨after, ha⟩ : ∃ after, bookingAt b.given.tag (tableEventEnd v).bookings = some after := by
    rw [← Option.ne_none_iff_exists', ne_eq, bookingAt_eq_none_iff]
    exact fun h => h b hb rfl
  have hm := bookingAt_mem ha
  refine ⟨after, hm, hu _ (tableEvent_cards_sub (card_mem hm)) (bookingAt_tag ha), ?_⟩
  show ((bookingAt b.given.tag (tableEventEnd v).bookings).map Booking.replyBytes).getD [] = _
  rw [ha]; rfl

/-! ## A request that names a booking -/

theorem withOwnBooking_zero {c : Class} {act : Booking → State → Answer} {s : State} : withOwnBooking c 0 act s = refuse .range s := rfl

theorem withOwnBooking_missing {c : Class} {tag : BitVec 16} {act : Booking → State → Answer} {s : State} (h0 : tag ≠ 0)
    (hb : ∀ b ∈ s.bookings, b.given.tag ≠ tag.toNat) : withOwnBooking c tag act s = refuse .missing s := by
  rw [withOwnBooking, if_neg h0, bookingAt_eq_none_iff.mpr hb]

theorem withOwnBooking_class {c : Class} {tag : BitVec 16} {act : Booking → State → Answer} {b : Booking} {s : State} (h0 : tag ≠ 0)
    (hb : bookingAt tag.toNat s.bookings = some b) (hc : atLeast c b.owner = false) :
    withOwnBooking c tag act s = refuse .class' s := by
  rw [withOwnBooking, if_neg h0, hb]
  exact if_neg (by simp [hc])

theorem withOwnBooking_own {c : Class} {tag : BitVec 16} {act : Booking → State → Answer} {b : Booking} {s : State} (h0 : tag ≠ 0)
    (hb : bookingAt tag.toNat s.bookings = some b) (hc : atLeast c b.owner = true) :
    withOwnBooking c tag act s = act b s := by
  rw [withOwnBooking, if_neg h0, hb]
  exact if_pos hc

/-! ## The end of an active booking by request -/

theorem not_mem_cards_of_filter {tag : Nat} {l : List (Given × Class × LampSet × Nat)} {c : Given × Class × LampSet × Nat}
    (h : c ∈ l.filter (fun c => c.1.tag != tag)) : c.1.tag ≠ tag := by
  simpa using (List.mem_filter.mp h).2

theorem endBooking_store (b : Booking) (s : State) : slotNo b.slot ∈ (endBooking b s).store.dirty := by
  obtain ⟨_, _, u, _, _, _, _, _, h⟩ := endBooking_spec b s
  rw [h]
  exact (mem_dirtyWith _ _ _).mpr (.inl rfl)

theorem endArrival_moves_endByRequest (b : Booking) (s : State) : Moves (endArrival b s) (endByRequest b s) := by
  unfold endByRequest; dsimp only; split
  · exact moves_scheduleCheckFrom _ _
  · exact moves_computeIfChanged _ _

theorem endByRequest_cards {b : Booking} {s : State} {c : Given × Class × LampSet × Nat} (h : c ∈ (endByRequest b s).cards) :
    c.1.tag ≠ b.given.tag := by
  have he : c ∈ (endArrival b s).cards := by
    unfold endByRequest at h
    dsimp only at h
    split at h
    · exact mem_scheduleCheckFrom h
    · rwa [computeIfChanged_cards] at h
  rw [endArrival_cards] at he
  exact not_mem_cards_of_filter he

theorem endByRequest_plain (b : Booking) (s : State) : Plain (endByRequest b s) := by
  unfold endByRequest; dsimp only; split
  · exact scheduleCheckFrom_plain (endBooking_plain b s)
  · exact computeIfChanged_plain (endBooking_plain b s)

/-- The end of the active booking by ENDN or POWER OFF (R46, R50). -/
theorem endByRequest_ended (b : Booking) (s : State) : BookingEnded b s (finish (endByRequest b s)) := by
  have hclock : (endArrival b s).clock = s.clock := congrArg ViewFixed.clock (endArrival_fixed b s)
  refine ⟨fun x hx => ?_, ?_, ?_, ?_, restKept_of_views (by simp) (by simp), endByRequest b s, fun h => ?_, fun h => ?_, ?_⟩
  · rw [finish_bookings] at hx
    exact endByRequest_cards (card_mem hx)
  · exact markedDirty_moves (u := endArrival b s) (endBooking_store b s) (congrArg ViewMedium.writing (endArrival_medium b s))
      (endArrival_moves_endByRequest b s) (by simp)
  · rw [finish_mute]; exact (endByRequest_plain b s).1
  · rw [finish_geom]; exact (endByRequest_plain b s).2
  · rw [endByRequest, hclock, if_pos h]
    exact scheduleCheckFrom_spec _ _
  · rw [endByRequest, hclock, if_neg (by simp [h])]
    exact computeIfChanged_spec _ _
  · exact withLink_eq (link_of_fixed (by simp))

/-! ## UNBK and ENDN -/

theorem removeBooking_eq (b : Booking) (s : State) : removeBooking b s = tableEventEnd (departBooking b s) := rfl

theorem removeBooking_tags {b x : Booking} {s : State} (h : x ∈ (removeBooking b s).bookings) : x.given.tag ≠ b.given.tag := by
  have hc := tableEvent_cards_sub (card_mem h)
  rw [departBooking_cards] at hc
  exact not_mem_cards_of_filter hc

theorem unbkRequest_open {c : Class} {tag : BitVec 16} {s : State} (hc : c ≠ .panel) (hh : ¬ Held (classOrigin c) .bookings none s) :
    unbkRequest c tag s =
      withOwnBooking c tag (fun b s => if b.state = .pending then done (removeBooking b s) else refuse .state s) s :=
  needScope_open hc hh

theorem endnRequest_open {c : Class} {tag : BitVec 16} {s : State} (hc : c ≠ .panel) (hh : ¬ Held (classOrigin c) .bookings none s) :
    endnRequest c tag s = withOwnBooking c tag (fun b s =>
      if b.state = .pending then refuse .state s else done (finish (endByRequest b s))) s :=
  needScope_open hc hh

/-- Settles O11: the departure, the end by request, and the checks. -/
theorem unbkAndEndn : Obligations.UnbkAndEndn := by
  refine ⟨fun c tag b s hs hc hh h0 hb => ⟨fun hown => ⟨fun hp => ?_, fun hp => ?_, fun hp => ?_, fun hp => ?_⟩, fun hown => ⟨?_, ?_⟩⟩,
    fun c tag s hs hc hh => ⟨?_, fun h0 hb => ⟨?_, ?_⟩⟩⟩
  · have ht := bookingAt_tag hb
    have hd := departBooking_spec b s
    refine ⟨tableWithout b s, departBooking b s, removeBooking b s, ?_, ht ▸ tableWithout_spec b s, hd, tableEventEnd_ended _,
      fun x hx => ht ▸ removeBooking_tags hx, tableEvent_marked hd, tableEvent_rest hd⟩
    refine row_answered (request := unbkRequest c tag) hs ?_
    rw [unbkRequest_open hc hh, withOwnBooking_own h0 hb hown, if_pos hp]; rfl
  · refine row_refused (request := unbkRequest c tag) hs ?_
    rw [unbkRequest_open hc hh, withOwnBooking_own h0 hb hown, if_neg hp]
  · refine ⟨finish (endByRequest b s), row_answered (request := endnRequest c tag) hs ?_, endByRequest_ended b s⟩
    rw [endnRequest_open hc hh, withOwnBooking_own h0 hb hown, if_neg hp]; rfl
  · refine row_refused (request := endnRequest c tag) hs ?_
    rw [endnRequest_open hc hh, withOwnBooking_own h0 hb hown, if_pos hp]
  · refine row_refused (request := unbkRequest c tag) hs ?_
    rw [unbkRequest_open hc hh, withOwnBooking_class h0 hb hown]
  · refine row_refused (request := endnRequest c tag) hs ?_
    rw [endnRequest_open hc hh, withOwnBooking_class h0 hb hown]
  · rintro rfl
    refine ⟨row_refused (request := unbkRequest c 0) hs ?_, row_refused (request := endnRequest c 0) hs ?_⟩
    · rw [unbkRequest_open hc hh, withOwnBooking_zero]
    · rw [endnRequest_open hc hh, withOwnBooking_zero]
  · refine row_refused (request := unbkRequest c tag) hs ?_
    rw [unbkRequest_open hc hh, withOwnBooking_missing h0 hb]
  · refine row_refused (request := endnRequest c tag) hs ?_
    rw [endnRequest_open hc hh, withOwnBooking_missing h0 hb]

/-! ## BOOK -/

theorem markDirty_testRisen (n : Nat) (before s : State) : markDirty n (testRisen before s) = testRisen before (markDirty n s) := by
  rw [markDirty_eq, markDirty_eq]
  unfold testRisen overcommittedTest
  dsimp only
  split
  · next h => exact (if_pos h).symm
  · next h => exact (if_neg h).symm

/-- What the life check found is the evaluation of the booking it admits (R9, R19). -/
theorem admitted_evaluated {s : State} {table : List Booking} {cA cB : Nat} {g : Given} {a : Admission} {b : Booking}
    (h : lifeCheck s table cA cB g = some a) (hg : b.given = g) (ha : b.assignment = a.assignment) (hb : b.bridged = a.bridged)
    (hA : b.plannedA = a.plannedA) (hB : b.plannedB = a.plannedB) :
    EvaluatedAgainst s.config (predecessorAt g.start table) b b := by
  obtain ⟨bridged, pA, pB, first, hbr, hpA, hpB, _, hnone, hdual, hone⟩ := h ▸ lifeCheck_spec s table cA cB g
  have take : ∀ x : Admission, some a = some x → x.bridged = bridged → (x.assignment.a = true → x.plannedA = pA)
      → (x.assignment.a = false → x.plannedA = 0) → (x.assignment.b = true → x.plannedB = pB)
      → (x.assignment.b = false → x.plannedB = 0) → EvaluatedAgainst s.config (predecessorAt g.start table) b b := by
    rintro x hx rfl h1 h2 h3 h4
    cases hx
    refine ⟨?_, fun hx => ?_, fun hx => ?_, fun hx => ?_, fun hx => ?_, rfl⟩
    · rw [hb, hg]; exact hbr
    · rw [hA, hb, hg, h1 (ha ▸ hx)]; exact hpA
    · rw [hA, h2 (ha ▸ hx)]
    · rw [hB, hb, hg, h3 (ha ▸ hx)]; exact hpB
    · rw [hB, h4 (ha ▸ hx)]
  have single : g.plan = .eco ∨ g.plan = .full → EvaluatedAgainst s.config (predecessorAt g.start table) b b := by
    intro hp
    obtain ⟨h1, h2, h3⟩ := hone hp
    by_cases hf : LifePasses s (ofPos cA cB first) (ofPos pA pB first) first
    · refine take _ (h1 hf) rfl ?_ ?_ ?_ ?_ <;> cases first <;> simp [LampSet.only]
    · by_cases ho : LifePasses s (ofPos cA cB (otherPos first)) (ofPos pA pB (otherPos first)) (otherPos first)
      · refine take _ (h2 hf ho) rfl ?_ ?_ ?_ ?_ <;> cases first <;> simp [LampSet.only, otherPos]
      · exact absurd (h3 hf ho) (by simp)
  cases hp : g.plan with
  | noLight => exact take _ (hnone hp) rfl (by simp) (by simp) (by simp) (by simp)
  | eco => exact single (.inl hp)
  | full => exact single (.inr hp)
  | dual =>
    obtain ⟨h1, h2⟩ := hdual hp
    by_cases hl : LifePasses s cA pA .a ∧ LifePasses s cB pB .b
    · exact take _ (h1 hl.1 hl.2) rfl (by simp) (by simp) (by simp) (by simp)
    · exact absurd (h2 hl) (by simp)

/-- The check for the horizon, as the statements say it (R17). -/
theorem check4_of {now : Nat} {r : GivenRaw} {g : Given} (h : givenOf r = some g) (h1 : now ≤ g.start) (h2 : g.start ≤ now + 20160) :
    check4 now r = some g := by
  rw [check4, h]
  exact Option.filter_some_pos (by simp [inHorizon, Config.horizon, h1, h2])

theorem check4_none {now : Nat} {r : GivenRaw} (h : givenOf r = none) : check4 now r = none := by rw [check4, h]; rfl

theorem check4_beyond {now : Nat} {r : GivenRaw} {g : Given} (h : givenOf r = some g) (hb : g.start < now ∨ now + 20160 < g.start) :
    check4 now r = none := by
  rw [check4, h]
  refine Option.filter_some_neg ?_
  unfold inHorizon Config.horizon
  rcases hb with hb | hb
  · rw [decide_eq_false (by omega)]; rfl
  · rw [decide_eq_false (p := _ ≤ now + 20160) (by omega), Bool.and_false]

/-- The span fits among the bookings, as the statements say it (R18). -/
theorem fitsTable_of {g : Given} {bs : List Booking}
    (h : ∀ b ∈ bs, (b.given.fin ≤ g.start ∨ g.fin ≤ b.given.start) ∧ (b.state ≠ .pending → b.given.start < g.start)) :
    fitsTable g bs = true :=
  (fitsTable_iff g bs).mpr fun b hb => ⟨(h b hb).1.symm, (h b hb).2⟩

theorem fitsTable_not {g : Given} {bs : List Booking}
    (h : ∃ b ∈ bs, (g.start < b.given.fin ∧ b.given.start < g.fin) ∨ (b.state ≠ .pending ∧ g.start ≤ b.given.start)) :
    fitsTable g bs = false := by
  rw [← Bool.not_eq_true, fitsTable_iff]
  obtain ⟨b, hb, hx⟩ := h
  intro hf
  obtain ⟨h1, h2⟩ := hf b hb
  rcases hx with hx | ⟨hs, hx⟩
  · omega
  · have := h2 hs; omega

section book

variable {c : Class} {r : GivenRaw} {g : Given} {s : State} (hc : c ≠ .panel) (hh : ¬ Held (classOrigin c) .bookings none s)

include hc hh

theorem bookRequest_clock (hset : s.clock.isSet = false) : bookRequest c r s = refuse .clock s := by
  rw [bookRequest, needScope_open hc hh, if_pos (by simp [hset])]

theorem bookRequest_range (hset : s.clock.isSet = true) (h : check4 s.clock.minute r = none) : bookRequest c r s = refuse .range s := by
  rw [bookRequest, needScope_open hc hh, if_neg (by simp [hset]), h]

theorem bookRequest_duplicate (hset : s.clock.isSet = true) (h : check4 s.clock.minute r = some g)
    (ht : ∃ b ∈ s.bookings, b.given.tag = g.tag) : bookRequest c r s = refuse .duplicate s := by
  have hb : (bookingAt g.tag s.bookings).isSome = true := by
    rw [Option.isSome_iff_ne_none, ne_eq, bookingAt_eq_none_iff]
    obtain ⟨b, hb, e⟩ := ht
    exact fun h => h b hb e
  rw [bookRequest, needScope_open hc hh, if_neg (by simp [hset]), h]
  exact if_pos hb

variable (hset : s.clock.isSet = true) (h : check4 s.clock.minute r = some g) (ht : ∀ b ∈ s.bookings, b.given.tag ≠ g.tag)

include hset h ht

theorem bookRequest_overlap (hf : fitsTable g s.bookings = false) : bookRequest c r s = refuse .overlap s := by
  rw [bookRequest, needScope_open hc hh, if_neg (by simp [hset]), h]
  dsimp only
  rw [if_neg (by simp [bookingAt_eq_none_iff.mpr ht]), if_pos (by simp [hf])]

theorem bookRequest_full (hf : fitsTable g s.bookings = true) (hl : Config.tableCapacity ≤ s.bookings.length) :
    bookRequest c r s = refuse .full s := by
  rw [bookRequest, needScope_open hc hh, if_neg (by simp [hset]), h]
  dsimp only
  rw [if_neg (by simp [bookingAt_eq_none_iff.mpr ht]), if_neg (by simp [hf]), if_pos hl]

theorem bookRequest_lampLife (hf : fitsTable g s.bookings = true) (hl : ¬ Config.tableCapacity ≤ s.bookings.length)
    (hn : lifeCheck s s.bookings s.lampA.committed s.lampB.committed g = none) : bookRequest c r s = refuse .lampLife s := by
  rw [bookRequest, needScope_open hc hh, if_neg (by simp [hset]), h]
  dsimp only
  rw [if_neg (by simp [bookingAt_eq_none_iff.mpr ht]), if_neg (by simp [hf]), if_neg hl, hn]

theorem bookRequest_admitted {a : Admission} (hf : fitsTable g s.bookings = true) (hl : ¬ Config.tableCapacity ≤ s.bookings.length)
    (ha : lifeCheck s s.bookings s.lampA.committed s.lampB.committed g = some a) :
    bookRequest c r s = doneWith (replyFields g.tag (admitBooking c g a s)) (admitBooking c g a s) := by
  rw [bookRequest, needScope_open hc hh, if_neg (by simp [hset]), h]
  dsimp only
  rw [if_neg (by simp [bookingAt_eq_none_iff.mpr ht]), if_neg (by simp [hf]), if_neg hl, ha]

end book

/-- The state that the admission leaves before its end. -/
def bookedInto (c : Class) (g : Given) (a : Admission) (s : State) : State :=
  testRisen s (markDirty (slotNo (freeSlot s.bookings)) (changeTable (admittedTable c g a s) s))

theorem admitBooking_eq (c : Class) (g : Given) (a : Admission) (s : State) :
    admitBooking c g a s = tableEventEnd (bookedInto c g a s) := by
  rw [bookedInto, ← markDirty_testRisen]; rfl

theorem bookedInto_changed (c : Class) (g : Given) (a : Admission) (s : State) :
    TableChanged (admittedTable c g a s) (some (freeSlot s.bookings)) s (bookedInto c g a s) :=
  tableChanged_spec (admittedTable c g a s) (some (freeSlot s.bookings)) s

/-- The table after an admission, by cards: the new booking and those that were there. -/
theorem mem_bookedInto (c : Class) (g : Given) (a : Admission) (s : State) (k : Given × Class × LampSet × Nat) :
    k ∈ (bookedInto c g a s).cards ↔ k = (admitted g (ownerOf c) (freeSlot s.bookings) a).card ∨ k ∈ s.cards := by
  have h : (bookedInto c g a s).cards = (insertBooking (admitted g (ownerOf c) (freeSlot s.bookings) a) s.bookings).map Booking.card := by
    rw [State.cards, tableChanged_bookings (bookedInto_changed c g a s), admittedTable, map_card_evaluateTags]
  rw [h, State.cards]
  simp only [List.mem_map, mem_insertBooking]
  constructor
  · rintro ⟨b, rfl | hb, rfl⟩
    · exact .inl rfl
    · exact .inr ⟨b, hb, rfl⟩
  · rintro (rfl | ⟨b, hb, rfl⟩)
    · exact ⟨_, .inl rfl, rfl⟩
    · exact ⟨b, .inr hb, rfl⟩

/-- Settles O9: the admission as a change of the table that the event ends, and the checks in their order. -/
theorem bookAdmits : Obligations.BookAdmits := by
  refine ⟨lifeCheck_spec, fun r => ⟨givenOf_eq_none_iff r, fun g h => raw_of_givenOf h⟩,
    fun c r g a s hs hc hh hset hg h1 h2 ht hfit hlen hlife => ?_, fun c r s hs hc hh => ⟨fun hset => ?_, fun hset hr => ?_,
      fun g hset hg => ⟨fun hb => ?_, fun h1 h2 => ⟨fun ht => ?_, fun ht => ⟨fun ho => ?_, fun hfit => ⟨fun hl => ?_, fun hl hn => ?_⟩⟩⟩⟩⟩⟩
  · have hchg := bookedInto_changed c g a s
    obtain ⟨-, hfree, hlow⟩ := freeSlot_free hlen
    have hspan := span_of_inRange (givenOf_inRange hg)
    have hclock : (bookedInto c g a s).clock = s.clock := congrArg ViewFixed.clock (tableChanged_fixed hchg)
    obtain ⟨after, hin, hcard, hreply⟩ := tableEvent_stands (v := bookedInto c g a s)
      ((mem_bookedInto c g a s _).mpr (.inl rfl)) (fun k hk e => by
        rcases (mem_bookedInto c g a s k).mp hk with rfl | hk
        · rfl
        · obtain ⟨b, hb, rfl⟩ := mem_cards.mp hk
          exact absurd e (ht b hb)) (by rw [hclock]; show s.clock.minute < g.fin; omega)
    simp only [Booking.card, admitted, Prod.mk.injEq] at hcard
    obtain ⟨hg', -, ha', hs'⟩ := hcard
    refine ⟨admitted g (ownerOf c) (freeSlot s.bookings) a, after, insertBooking (admitted g (ownerOf c) (freeSlot s.bookings) a) s.bookings,
      admittedTable c g a s, bookedInto c g a s, admitBooking c g a s, rfl, admitted_evaluated hlife rfl rfl rfl rfl rfl, hfree, hlow,
      insertBooking_spec _ _, ?_, hchg, ?_, ?_, ?_, hg', ha', hs', ?_, ?_⟩
    · rw [← optTag_eq]; exact evaluateTags_spec _ _ _
    · rw [admitBooking_eq]; exact tableEventEnd_ended _
    · rw [admitBooking_eq]; exact tableEvent_marked hchg
    · rw [admitBooking_eq]; exact hin
    · refine row_answered (request := bookRequest c r) hs
        ((bookRequest_admitted hc hh hset (check4_of hg h1 h2) ht (fitsTable_of hfit) (Nat.not_le.mpr hlen) hlife).trans ?_)
      rw [admitBooking_eq]
      exact congrArg (fun ps => doneWith ps (tableEventEnd (bookedInto c g a s))) hreply
    · rw [admitBooking_eq]; exact tableEvent_rest hchg
  · exact row_refused (request := bookRequest c r) hs (bookRequest_clock hc hh hset)
  · exact row_refused (request := bookRequest c r) hs (bookRequest_range hc hh hset (check4_none hr))
  · exact row_refused (request := bookRequest c r) hs (bookRequest_range hc hh hset (check4_beyond hg hb))
  · exact row_refused (request := bookRequest c r) hs (bookRequest_duplicate hc hh hset (check4_of hg h1 h2) ht)
  · exact row_refused (request := bookRequest c r) hs
      (bookRequest_overlap hc hh hset (check4_of hg h1 h2) ht (fitsTable_not ho))
  · exact row_refused (request := bookRequest c r) hs
      (bookRequest_full hc hh hset (check4_of hg h1 h2) ht (fitsTable_of hfit) hl)
  · exact row_refused (request := bookRequest c r) hs
      (bookRequest_lampLife hc hh hset (check4_of hg h1 h2) ht (fitsTable_of hfit) (Nat.not_le.mpr hl) hn)

end Sys2Proof.Machine
end

section
/-! PROOF. REBK (`Obligations.RebkAmends`). -/

namespace Sys2Proof.Machine

/-! ## The amendment of a PENDING booking -/

/-- The booking that an amendment puts in the table (R23). -/
def amendedBooking (b : Booking) (g : Given) (a : Admission) : Booking :=
  { b with given := g, assignment := a.assignment, bridged := a.bridged, plannedA := a.plannedA, plannedB := a.plannedB }

/-- The slot that an amendment marks, where a stored field changed (R23). -/
def amendedSlot (b : Booking) (g : Given) (a : Admission) : Option Nat :=
  if g = b.given ∧ a.assignment = b.assignment then none else some b.slot

/-- The state that an amendment leaves before its end. -/
def amendedInto (b : Booking) (g : Given) (a : Admission) (s : State) : State :=
  testRisen s (match amendedSlot b g a with
    | some slot => markDirty (slotNo slot) (changeTable (amendedTable b g a s) s)
    | none => changeTable (amendedTable b g a s) s)

theorem amendPendingTable_eq (b : Booking) (g : Given) (a : Admission) (s : State) :
    amendPendingTable b g a s = tableEventEnd (amendedInto b g a s) := by
  unfold amendPendingTable tableEventEnd amendedInto amendedSlot
  dsimp only
  split
  · rfl
  · rw [markDirty_testRisen]; rfl

theorem amendedInto_changed (b : Booking) (g : Given) (a : Admission) (s : State) :
    TableChanged (amendedTable b g a s) (amendedSlot b g a) s (amendedInto b g a s) := by
  have h := tableChanged_spec (amendedTable b g a s) (amendedSlot b g a) s
  exact h

/-- The table after an amendment, by cards: the amended booking and those of other tags. -/
theorem mem_amendedInto (b : Booking) (g : Given) (a : Admission) (s : State) (k : Given × Class × LampSet × Nat) :
    k ∈ (amendedInto b g a s).cards ↔ k = (amendedBooking b g a).card ∨ (k ∈ s.cards ∧ k.1.tag ≠ g.tag) := by
  have h : (amendedInto b g a s).cards = (insertBooking (amendedBooking b g a) (removeTag g.tag s.bookings)).map Booking.card := by
    rw [State.cards, tableChanged_bookings (amendedInto_changed b g a s), amendedTable, map_card_evaluateTags]; rfl
  rw [h, State.cards]
  simp only [List.mem_map, mem_insertBooking, mem_removeTag]
  constructor
  · rintro ⟨x, rfl | ⟨hx, ht⟩, rfl⟩
    · exact .inl rfl
    · exact .inr ⟨⟨x, hx, rfl⟩, ht⟩
  · rintro (rfl | ⟨⟨x, hx, rfl⟩, ht⟩)
    · exact ⟨_, .inl rfl, rfl⟩
    · exact ⟨x, .inr ⟨hx, ht⟩, rfl⟩

/-! ## The new end of an active booking -/

/-- The state that a new end leaves before the event ends. -/
def extendedInto (b : Booking) (fin : Nat) (s : State) : State :=
  testRisen s (markDirty (slotNo b.slot) (changeTable (extendedTable b fin s) s))

theorem amendActiveTable_eq (b : Booking) (fin : Nat) (s : State) : amendActiveTable b fin s = finish (extendedInto b fin s) := by
  rw [extendedInto, ← markDirty_testRisen]; rfl

theorem extendedInto_changed (b : Booking) (fin : Nat) (s : State) :
    TableChanged (extendedTable b fin s) (some b.slot) s (extendedInto b fin s) :=
  tableChanged_spec (extendedTable b fin s) (some b.slot) s

/-- The first booking with a tag, in a table whose bookings keep what an evaluation keeps. -/
theorem bookingAt_lasting {tag : Nat} {bs cs : List Booking} (e : bs.map Booking.lasting = cs.map Booking.lasting) {b : Booking}
    (h : bookingAt tag bs = some b) : ∃ c, bookingAt tag cs = some c ∧ c.lasting = b.lasting := by
  induction bs generalizing cs with
  | nil => cases h
  | cons x rest ih =>
    cases cs with
    | nil => cases e
    | cons y later =>
      obtain ⟨hxy, hrest⟩ := List.cons.inj e
      have ht : y.given.tag = x.given.tag := congrArg (fun l : Given × Class × LampSet × BookingState × Bool × Nat => l.1.tag) hxy.symm
      unfold bookingAt at h ⊢
      by_cases hx : x.given.tag = tag
      · rw [List.find?_cons_of_pos (by simp [hx])] at h
        rw [List.find?_cons_of_pos (by simp [ht, hx])]
        cases h
        exact ⟨y, rfl, hxy.symm⟩
      · rw [List.find?_cons_of_neg (by simp [hx])] at h
        rw [List.find?_cons_of_neg (by simp [ht, hx])]
        exact ih hrest h

theorem bookingAt_updateBooking {tag : Nat} {f : Booking → Booking} (hf : ∀ b, (f b).given.tag = b.given.tag) (bs : List Booking) :
    bookingAt tag (updateBooking tag f bs) = (bookingAt tag bs).map f := by
  induction bs with
  | nil => rfl
  | cons x rest ih =>
    unfold bookingAt updateBooking at ih ⊢
    rw [List.map_cons]
    by_cases hx : x.given.tag = tag
    · rw [if_pos hx, List.find?_cons_of_pos (by simp [hf, hx]), List.find?_cons_of_pos (by simp [hx])]; rfl
    · rw [if_neg hx, List.find?_cons_of_neg (by simp [hx]), List.find?_cons_of_neg (by simp [hx])]; exact ih

/-- The booking whose end an amendment moved, as it stands in the table. -/
theorem extendedTable_at {b : Booking} {s : State} (fin : Nat) (h : bookingAt b.given.tag s.bookings = some b) :
    ∃ c, bookingAt b.given.tag (extendedTable b fin s) = some c
      ∧ c.lasting = ({ b with given := { b.given with fin := fin } } : Booking).lasting := by
  refine bookingAt_lasting (evaluateTags_lasting _ _ _ _).symm ?_
  rw [bookingAt_updateBooking (f := fun x => { x with given := { x.given with fin := fin } }) (fun _ => rfl), h]; rfl

/-! ## The checks of REBK -/

section rebk

variable {c : Class} {r : GivenRaw} {s : State} (hc : c ≠ .panel) (hh : ¬ Held (classOrigin c) .bookings none s)

include hc hh

theorem rebkRequest_clock (hset : s.clock.isSet = false) : rebkRequest c r s = refuse .clock s := by
  rw [rebkRequest, needScope_open hc hh, if_pos (by simp [hset])]

theorem rebkRequest_set (hset : s.clock.isSet = true) : rebkRequest c r s = withOwnBooking c r.tag
    (fun b s => if b.state = .pending then amendPending b r s else amendActive b r s) s := by
  rw [rebkRequest, needScope_open hc hh, if_neg (by simp [hset])]

variable (hset : s.clock.isSet = true) {b : Booking} (h0 : r.tag ≠ 0) (hb : bookingAt r.tag.toNat s.bookings = some b)

include hset h0 hb

theorem rebkRequest_class (ho : atLeast c b.owner = false) : rebkRequest c r s = refuse .class' s := by
  rw [rebkRequest_set hc hh hset, withOwnBooking_class h0 hb ho]

theorem rebkRequest_pending (ho : atLeast c b.owner = true) (hp : b.state = .pending) : rebkRequest c r s = amendPending b r s := by
  rw [rebkRequest_set hc hh hset, withOwnBooking_own h0 hb ho, if_pos hp]

theorem rebkRequest_active (ho : atLeast c b.owner = true) (hp : b.state ≠ .pending) : rebkRequest c r s = amendActive b r s := by
  rw [rebkRequest_set hc hh hset, withOwnBooking_own h0 hb ho, if_neg hp]

end rebk

section pending

variable {b : Booking} {r : GivenRaw} {g : Given} {s : State}

theorem amendPending_range (h : check4 s.clock.minute r = none) : amendPending b r s = refuse .range s := by
  rw [amendPending, h]

theorem amendPending_overlap (h : check4 s.clock.minute r = some g) (hf : fitsTable g (removeTag g.tag s.bookings) = false) :
    amendPending b r s = refuse .overlap s := by
  rw [amendPending, h]
  dsimp only
  rw [if_pos (by simp [hf])]

theorem amendPending_lampLife (h : check4 s.clock.minute r = some g) (hf : fitsTable g (removeTag g.tag s.bookings) = true)
    (hl : lifeCheck s (removeTag g.tag s.bookings) (s.lampA.committed - b.plannedA) (s.lampB.committed - b.plannedB) g = none) :
    amendPending b r s = refuse .lampLife s := by
  rw [amendPending, h]
  dsimp only
  rw [if_neg (by simp [hf]), hl]

theorem amendPending_amended {a : Admission} (h : check4 s.clock.minute r = some g)
    (hf : fitsTable g (removeTag g.tag s.bookings) = true)
    (hl : lifeCheck s (removeTag g.tag s.bookings) (s.lampA.committed - b.plannedA) (s.lampB.committed - b.plannedB) g = some a) :
    amendPending b r s = doneWith (replyFields g.tag (amendPendingTable b g a s)) (amendPendingTable b g a s) := by
  rw [amendPending, h]
  dsimp only
  rw [if_neg (by simp [hf]), hl]

end pending

section active

variable {b : Booking} {r : GivenRaw} {s : State}

theorem amendActive_state (h : { r with fin := b.given.raw.fin } ≠ b.given.raw) : amendActive b r s = refuse .state s := if_pos h

variable (h : { r with fin := b.given.raw.fin } = b.given.raw)

include h

theorem amendActive_range (hr : newEndInRange s.clock.minute b r.fin.toNat = false) : amendActive b r s = refuse .range s := by
  rw [amendActive, if_neg (not_not_intro h), if_pos (by simp [hr])]

variable (hr : newEndInRange s.clock.minute b r.fin.toNat = true)

include hr

theorem amendActive_overlap {n : Booking} (hn : successorAt b.given.start s.bookings = some n) (hlt : n.given.start < r.fin.toNat) :
    amendActive b r s = refuse .overlap s := by
  rw [amendActive, if_neg (not_not_intro h), if_neg (by simp [hr]), if_pos (by simp [hn, hlt])]

theorem amendActive_amended (hn : ∀ n, successorAt b.given.start s.bookings = some n → r.fin.toNat ≤ n.given.start) :
    amendActive b r s = doneWith (replyFields b.given.tag (amendActiveTable b r.fin.toNat s)) (amendActiveTable b r.fin.toNat s) := by
  have hany : (successorAt b.given.start s.bookings).any (fun n => n.given.start < r.fin.toNat) = false := by
    cases hs : successorAt b.given.start s.bookings with
    | none => rfl
    | some n => simpa using hn n hs
  rw [amendActive, if_neg (not_not_intro h), if_neg (by simp [hr]), if_neg (by simp [hany])]

end active

theorem newEndInRange_iff (now : Nat) (b : Booking) (fin : Nat) : newEndInRange now b fin = true ↔
    now < fin ∧ b.given.start + 10 ≤ fin ∧ fin ≤ b.given.start + 720 ∧ fin ≤ 2147483647 := by
  simp only [newEndInRange, Bool.and_eq_true, decide_eq_true_eq, and_assoc]
  exact Iff.rfl

/-- The tag that a request in range carries is not 0 (R17). -/
theorem tag_ne_zero_of_givenOf {r : GivenRaw} {g : Given} (h : givenOf r = some g) : r.tag ≠ 0 := by
  have ht := givenOf_tag h
  have h1 := ((inRange_iff g).mp (givenOf_inRange h)).1
  intro h0
  rw [h0] at ht
  simp at ht
  omega

/-- A PENDING booking's amendment, whole (R23). -/
theorem rebk_pending {c : Class} {r : GivenRaw} {g : Given} {b : Booking} {a : Admission} {s : State} (hs : s.phase = .running)
    (hc : c ≠ .panel) (hh : ¬ Held (classOrigin c) .bookings none s) (hset : s.clock.isSet = true)
    (hb : bookingAt g.tag s.bookings = some b) (ho : atLeast c b.owner = true) (hp : b.state = .pending) (hg : givenOf r = some g)
    (h1 : s.clock.minute ≤ g.start) (h2 : g.start ≤ s.clock.minute + 20160)
    (hf : fitsTable g (removeTag g.tag s.bookings) = true)
    (hl : lifeCheck s (removeTag g.tag s.bookings) (s.lampA.committed - b.plannedA) (s.lampB.committed - b.plannedB) g = some a) :
    ∃ after ∈ (tableEventEnd (amendedInto b g a s)).bookings, after.card = (amendedBooking b g a).card
      ∧ exec (.rebk c r) s = .next ((tableEventEnd (amendedInto b g a s)).replied .rebk .done after.replyBytes) := by
  have hchg := amendedInto_changed b g a s
  have hspan := span_of_inRange (givenOf_inRange hg)
  have hclock : (amendedInto b g a s).clock = s.clock := congrArg ViewFixed.clock (tableChanged_fixed hchg)
  obtain ⟨after, hin, hcard, hreply⟩ := tableEvent_stands (v := amendedInto b g a s)
    ((mem_amendedInto b g a s _).mpr (.inl rfl)) (fun k hk e => by
      rcases (mem_amendedInto b g a s k).mp hk with rfl | ⟨_, hne⟩
      · rfl
      · exact absurd e hne) (by rw [hclock]; show s.clock.minute < g.fin; omega)
  refine ⟨after, hin, hcard, row_answered (request := rebkRequest c r) hs ?_⟩
  rw [rebkRequest_pending hc hh hset (tag_ne_zero_of_givenOf hg) (givenOf_tag hg ▸ hb) ho hp,
    amendPending_amended (check4_of hg h1 h2) hf hl, amendPendingTable_eq]
  exact congrArg (fun ps => doneWith ps (tableEventEnd (amendedInto b g a s))) hreply

/-- An active booking's new end, whole (R24). -/
theorem rebk_active {c : Class} {r : GivenRaw} {b : Booking} {s : State} (hs : s.phase = .running)
    (hc : c ≠ .panel) (hh : ¬ Held (classOrigin c) .bookings none s) (hset : s.clock.isSet = true) (h0 : r.tag ≠ 0)
    (hb : bookingAt r.tag.toNat s.bookings = some b) (ho : atLeast c b.owner = true) (hp : b.state ≠ .pending)
    (hr : { r with fin := b.given.raw.fin } = b.given.raw) (hn : newEndInRange s.clock.minute b r.fin.toNat = true)
    (hsucc : ∀ n, successorAt b.given.start s.bookings = some n → r.fin.toNat ≤ n.given.start) :
    ∃ after ∈ (finish (extendedInto b r.fin.toNat s)).bookings,
      after.lasting = ({ b with given := { b.given with fin := r.fin.toNat } } : Booking).lasting
      ∧ exec (.rebk c r) s = .next ((finish (extendedInto b r.fin.toNat s)).replied .rebk .done after.replyBytes) := by
  have ht := bookingAt_tag hb
  obtain ⟨after, hat, hlast⟩ := extendedTable_at r.fin.toNat (ht ▸ hb)
  have hbs : (finish (extendedInto b r.fin.toNat s)).bookings = extendedTable b r.fin.toNat s :=
    (finish_bookings _).trans (tableChanged_bookings (extendedInto_changed b r.fin.toNat s))
  refine ⟨after, hbs ▸ bookingAt_mem hat, hlast, row_answered (request := rebkRequest c r) hs ?_⟩
  rw [rebkRequest_active hc hh hset h0 hb ho hp, amendActive_amended hr hn hsucc, amendActiveTable_eq, replyFields, hbs, hat]
  rfl

/-- Settles O10: the two amendments, and the checks in their order. -/
theorem rebkAmends : Obligations.RebkAmends := by
  refine ⟨fun c r g b a s hs hc hh hset hb ho hp hg h1 h2 hf hl => ?_,
    fun c r b s hs hc hh hset h0 hb ho hp hr h1 h2 h3 h4 hsucc => ?_,
    fun c r s hs hc hh => ⟨fun hset => ?_, fun hset h0 => ?_, fun hset h0 hb => ?_, fun b hset h0 hb =>
      ⟨fun ho => ?_, fun ho hp => ⟨fun hr => ?_, fun g hg => ⟨fun hbeyond => ?_, fun h1 h2 => ⟨fun hover => ?_, fun hf hl => ?_⟩⟩⟩,
        fun ho hp => ⟨fun hr => ?_, fun hr => ⟨fun hout => ?_, fun h1 h2 h3 h4 n hn hlt => ?_⟩⟩⟩⟩⟩
  · have hchg := amendedInto_changed b g a s
    obtain ⟨after, hin, hcard, hexec⟩ := rebk_pending hs hc hh hset hb ho hp hg h1 h2 (fitsTable_of hf) hl
    simp only [Booking.card, amendedBooking, Prod.mk.injEq] at hcard
    obtain ⟨hg', ho', ha', hs'⟩ := hcard
    refine ⟨after, insertBooking (amendedBooking b g a) (removeTag g.tag s.bookings), amendedTable b g a s, amendedInto b g a s,
      tableEventEnd (amendedInto b g a s), insertBooking_spec _ _, ?_, hchg, tableEventEnd_ended _, hin, hg', ho', ha', hs',
      fun hne => ?_, hexec, tableEvent_rest hchg⟩
    · rw [← optTag_eq, ← optTag_eq]; exact evaluateTags_spec _ _ _
    · have hslot : amendedSlot b g a = some b.slot := if_neg fun ⟨hg, ha⟩ => hne.elim (fun h => h hg) (fun h => h ha)
      exact tableEvent_marked (hslot ▸ hchg)
  · have hchg := extendedInto_changed b r.fin.toNat s
    obtain ⟨after, hin, hlast, hexec⟩ := rebk_active hs hc hh hset h0 hb ho hp hr ((newEndInRange_iff _ b _).mpr ⟨h1, h2, h3, h4⟩) hsucc
    simp only [Booking.lasting, Prod.mk.injEq] at hlast
    obtain ⟨hg', ho', ha', hst', hsh', hs'⟩ := hlast
    refine ⟨after, extendedTable b r.fin.toNat s, extendedInto b r.fin.toNat s, finish (extendedInto b r.fin.toNat s), ?_, hchg, rfl,
      ?_, hin, hg', ho', ha', hst', hsh', hs', hexec⟩
    · rw [← optTag_eq, ← updateBooking_eq]; exact evaluateTags_spec _ _ _
    · have hstore := tableChanged_store hchg
      refine markedDirty_finish ?_ (congrArg Store.writing hstore :)
      rw [hstore]
      exact (mem_dirtyWith _ _ _).mpr (.inl rfl)
  · exact row_refused (request := rebkRequest c r) hs (rebkRequest_clock hc hh hset)
  · refine row_refused (request := rebkRequest c r) hs ?_
    rw [rebkRequest_set hc hh hset, h0, withOwnBooking_zero]
  · refine row_refused (request := rebkRequest c r) hs ?_
    rw [rebkRequest_set hc hh hset, withOwnBooking_missing h0 hb]
  · exact row_refused (request := rebkRequest c r) hs (rebkRequest_class hc hh hset h0 hb ho)
  · exact row_refused (request := rebkRequest c r) hs
      ((rebkRequest_pending hc hh hset h0 hb ho hp).trans (amendPending_range (check4_none hr)))
  · exact row_refused (request := rebkRequest c r) hs
      ((rebkRequest_pending hc hh hset h0 hb ho hp).trans (amendPending_range (check4_beyond hg hbeyond)))
  · exact row_refused (request := rebkRequest c r) hs
      ((rebkRequest_pending hc hh hset h0 hb ho hp).trans (amendPending_overlap (check4_of hg h1 h2) (fitsTable_not hover)))
  · exact row_refused (request := rebkRequest c r) hs
      ((rebkRequest_pending hc hh hset h0 hb ho hp).trans (amendPending_lampLife (check4_of hg h1 h2) (fitsTable_of hf) hl))
  · exact row_refused (request := rebkRequest c r) hs ((rebkRequest_active hc hh hset h0 hb ho hp).trans (amendActive_state hr))
  · refine row_refused (request := rebkRequest c r) hs ((rebkRequest_active hc hh hset h0 hb ho hp).trans (amendActive_range hr ?_))
    rw [← Bool.not_eq_true, newEndInRange_iff]
    omega
  · exact row_refused (request := rebkRequest c r) hs ((rebkRequest_active hc hh hset h0 hb ho hp).trans
      (amendActive_overlap hr ((newEndInRange_iff _ b _).mpr ⟨h1, h2, h3, h4⟩) hn hlt))

end Sys2Proof.Machine
end

section
/-! PROOF. The lectern panel: its strobe, its lines and unknown keys (`Obligations.KeyStrobesAndUnknownKeys`), the power keys
(`Obligations.PowerKeys`) and refused keys (`Obligations.RefusedKeys`). -/

namespace Sys2Proof.Machine

/-! ## The indicators -/

theorem indicators_running {s : State} (h : s.phase = .running) : s.indicators =
    { input := if s.switch.state = .idle then none else s.switch.current, pendingInput := s.switch.pendingSel.map (·.target),
      lampLit := s.lampA.state == .lit || s.lampB.state == .lit, lampWarming := s.lampA.warming || s.lampB.warming,
      locked := s.holds.toList.any (fun h => h.any (·.bound.panel)), muted := s.gate.mute,
      lecture := s.bookings.any (·.state == .running) } := if_pos h

theorem exists_pos {P : Pos → Prop} : (∃ p, P p) ↔ P .a ∨ P .b :=
  ⟨fun | ⟨.a, h⟩ => .inl h | ⟨.b, h⟩ => .inr h, fun h => h.elim (fun h => ⟨.a, h⟩) (fun h => ⟨.b, h⟩)⟩

theorem warming_iff (l : Lamp) : l.warming = true ↔ l.state = .striking ∨ l.state = .cooling := by simp [Lamp.warming]

theorem any_hold_iff (hs : List (Option Hold)) (f : Hold → Bool) : hs.any (fun h => h.any f) = true ↔ ∃ h, some h ∈ hs ∧ f h = true := by
  rw [List.any_eq_true]
  constructor
  · rintro ⟨x, hx, h⟩
    obtain ⟨y, rfl, hy⟩ := Option.any_eq_true _ _ |>.mp h
    exact ⟨y, hx, hy⟩
  · rintro ⟨y, hy, h⟩
    exact ⟨some y, hy, h⟩

/-- What the indicators show while RUNNING (R178). -/
theorem indicators_show {s : State} (h : s.phase = .running) :
    (∀ i, s.indicators.input = some i ↔ s.switch.current = some i ∧ s.switch.state ≠ .idle)
    ∧ (∀ i, s.indicators.pendingInput = some i ↔ ∃ sel, s.switch.pendingSel = some sel ∧ sel.target = i)
    ∧ (s.indicators.lampLit = true ↔ ∃ p, (s.lamp p).state = .lit)
    ∧ (s.indicators.lampWarming = true ↔ ∃ p, (s.lamp p).state = .striking ∨ (s.lamp p).state = .cooling)
    ∧ (s.indicators.locked = true ↔ ∃ h, some h ∈ s.holds.toList ∧ h.bound.panel = true)
    ∧ (s.indicators.muted = true ↔ s.gate.mute = true)
    ∧ (s.indicators.lecture = true ↔ ∃ b ∈ s.bookings, b.state = .running) := by
  rw [indicators_running h]
  refine ⟨fun i => ?_, fun i => Option.map_eq_some_iff, ?_, ?_, any_hold_iff _ _, Iff.rfl, by simp⟩
  · dsimp only
    split
    · next hi => simp [hi]
    · next hi => simp [hi]
  · rw [exists_pos]
    simp [State.lamp]
  · rw [exists_pos, ← warming_iff, ← warming_iff]
    simp [State.lamp]

/-! ## Strobes and unknown keys -/

/-- Settles O27: the strobe by the latch, the lines by their definitions. -/
theorem keyStrobesAndUnknownKeys : Obligations.KeyStrobesAndUnknownKeys := by
  refine ⟨fun code s => ⟨fun hs hp => ?_, fun hs hp => ?_, fun hs => ?_⟩, fun code s hs hp hc => ?_, fun s => ?_, fun s hs => if_neg hs,
    fun s hs => indicators_show hs⟩
  · exact row_running (f := keyStrobed code) hs (by rw [keyStrobed, hp]; rfl)
  · obtain ⟨k, hk⟩ := Option.ne_none_iff_exists'.mp hp
    exact row_running (f := keyStrobed code) hs (by rw [keyStrobed, hk]; rfl)
  · exact congrArg Host.Outcome.next (whenRunning_discarded hs)
  · have ht : isUnknownKey code = true := by
      rcases hc with rfl | hc
      · rfl
      · simp [isUnknownKey, hc]
    exact (row_key (act := unknownKeyTaken) hs hp ht).trans rfl
  · simp [State.keyBusy, Option.isSome_iff_ne_none]

/-! ## Refused keys -/

/-- A KEYS hold refuses a known key first (R104, R174). -/
theorem keyChecks_keysHeld {code : Byte} {own : Option (Scope × Option Input)} {test : Bool} {act : State → State} {s : State}
    (h : Held .panel .keys none s) : keyChecks code own test act s = refuseKey code .held s := if_pos ((held_iff _ _ _ _).mpr h)

/-- A hold in the key's own scope refuses it (R174). -/
theorem keyChecks_ownHeld {code : Byte} {sc : Scope} {target : Option Input} {test : Bool} {act : State → State} {s : State}
    (h : Held .panel sc target s) : keyChecks code (some (sc, target)) test act s = refuseKey code .held s := by
  unfold keyChecks
  split
  · rfl
  · exact if_pos ((held_iff _ _ _ _).mpr h)

/-- A key whose own test fails is refused with STATE (R174). -/
theorem keyChecks_failed {code : Byte} {own : Option (Scope × Option Input)} {act : State → State} {s : State}
    (hk : ¬ Held .panel .keys none s) (ho : ∀ x, own = some x → ¬ Held .panel x.1 x.2 s) :
    keyChecks code own false act s = refuseKey code .state s := by
  have h : own.any (fun x => s.held .panel x.1 x.2) = false := by
    cases own with
    | none => rfl
    | some x => exact held_false (ho x rfl)
  simp [keyChecks, held_false hk, h]

/-- A refused key, as its row leaves it. -/
theorem row_keyRefused {takes : Byte → Bool} {act : Byte → State → State} {code : Byte} {o : ReqOutcome} {s : State}
    (hs : s.phase = .running) (hp : s.panel = some code) (ht : takes code = true) (h : act code s = refuseKey code o s) :
    (Host.Outcome.next (whenRunning (takeKey takes act) s) : Host.Outcome State Fault Refusal)
      = .next { raiseNotice .panel 3 (noticeArg code o.byte 0 0) s with panel := none } := by
  rw [row_key hs hp ht, h]
  rfl

theorem powerOffScope_session {s : State} (h : s.sched.session = true) : powerOffScope s = some (.session, none) := if_pos h

theorem powerOffScope_bookings {s : State} (hs : s.sched.session = false) (hb : ∃ b ∈ s.bookings, b.state ≠ .pending) :
    powerOffScope s = some (.bookings, none) := by
  rw [powerOffScope, if_neg (by simp [hs]), if_pos (activeBooking_isSome hb)]

theorem powerOffScope_none {s : State} (hs : s.sched.session = false) (hb : ∀ b ∈ s.bookings, b.state = .pending) :
    powerOffScope s = none := by
  rw [powerOffScope, if_neg (by simp [hs]), if_neg (by simp [activeBooking_none hb])]

/-- Settles O30: the checks of a key in their order. -/
theorem refusedKeys : Obligations.RefusedKeys := by
  refine fun code s hs hp => ⟨fun hk => ⟨?_, ?_, ?_, fun h1 h2 => ?_, fun h1 h2 => ?_⟩, ?_, ?_, ?_, fun i hi hh => ?_, fun h1 h2 hh => ?_,
    fun i hi hk hh hsel => ?_, fun h1 h2 hk hh hsess hb => ?_⟩
  · rintro rfl
    exact row_keyRefused (takes := isPowerOn) (act := powerOnKey) (o := .held) hs hp rfl (keyChecks_keysHeld hk)
  · rintro rfl
    exact row_keyRefused (takes := isPowerOff) (act := powerOffKey) (o := .held) hs hp rfl (keyChecks_keysHeld hk)
  · rintro rfl
    exact row_keyRefused (takes := isMuteKey) (act := muteToggle) (o := .held) hs hp rfl (keyChecks_keysHeld hk)
  · exact row_keyRefused (act := sourceKeyTaken) (o := .held) hs hp (isSourceKey_of ⟨h1, h2⟩) (keyChecks_keysHeld hk)
  · exact row_keyRefused (act := presetKeyTaken) (o := .held) hs hp (isPresetKey_of ⟨h1, h2⟩) (keyChecks_keysHeld hk)
  · rintro rfl hh
    exact row_keyRefused (takes := isPowerOn) (act := powerOnKey) (o := .held) hs hp rfl (keyChecks_ownHeld hh)
  · rintro rfl hsess hh
    refine row_keyRefused (takes := isPowerOff) (act := powerOffKey) (o := .held) hs hp rfl ?_
    rw [powerOffKey, powerOffScope_session hsess, keyChecks_ownHeld hh]
  · rintro rfl hsess hb hh
    refine row_keyRefused (takes := isPowerOff) (act := powerOffKey) (o := .held) hs hp rfl ?_
    rw [powerOffKey, powerOffScope_bookings hsess hb, keyChecks_ownHeld hh]
  · refine row_keyRefused (act := sourceKeyTaken) (o := .held) hs hp (isSourceKey_of (by omega)) ?_
    rw [sourceKeyTaken_eq hi, keyChecks_ownHeld hh]
  · exact row_keyRefused (act := presetKeyTaken) (o := .held) hs hp (isPresetKey_of ⟨h1, h2⟩) (keyChecks_ownHeld hh)
  · refine row_keyRefused (act := sourceKeyTaken) (o := .state) hs hp (isSourceKey_of (by omega)) ?_
    rw [sourceKeyTaken_eq hi, hsel, keyChecks_failed hk (fun x hx => by cases hx; exact hh)]
  · refine row_keyRefused (act := presetKeyTaken) (o := .state) hs hp (isPresetKey_of ⟨h1, h2⟩) ?_
    rw [presetKeyTaken, lectureInHand_false hsess hb, keyChecks_failed hk (fun x hx => by cases hx; exact hh)]

/-! ## The power keys -/

/-- POWER ON past its checks. -/
theorem exec_powerOn {s : State} (hs : s.phase = .running) (hp : s.panel = some 1) (hk : ¬ Held .panel .keys none s)
    (hh : ¬ Held .panel .session none s) : exec .powerOn s = .next { startSession s with panel := none } := by
  refine (row_key (takes := isPowerOn) (act := powerOnKey) hs hp rfl).trans ?_
  rw [powerOnKey, keyChecks_passed hk (fun x hx => by cases hx; exact hh)]

/-- POWER OFF past its checks. -/
theorem exec_powerOff {s : State} (hs : s.phase = .running) (hp : s.panel = some 2) (hk : ¬ Held .panel .keys none s)
    (hh : ∀ x, powerOffScope s = some x → ¬ Held .panel x.1 x.2 s) :
    exec .powerOff s = .next { powerOffAct s with panel := none } := by
  refine (row_key (takes := isPowerOff) (act := powerOffKey) hs hp rfl).trans ?_
  rw [powerOffKey, keyChecks_passed hk hh]

/-- Settles O28: the session turned ON, the session's end, or the end of the active booking. -/
theorem powerKeys : Obligations.PowerKeys := by
  refine fun s hs hk => ⟨fun hp hh hsess hb => ?_, fun hp hh h => ?_, fun hp hh hsess => ?_, fun b hp hh hsess hb => ?_, fun hp hsess hb => ?_⟩
  · exact ⟨startSession s, exec_powerOn hs hp hk hh, startSession_turnedOn hsess hb⟩
  · rw [exec_powerOn hs hp hk hh, startSession_unchanged h]
  · refine ⟨finish (endSession s), ?_, stopSession_ended s⟩
    rw [exec_powerOff hs hp hk (fun x hx => by rw [powerOffScope_session hsess] at hx; cases hx; exact hh), powerOffAct, if_pos hsess]
  · obtain ⟨hm, hst⟩ := activeBooking_eq hb
    refine ⟨finish (endByRequest b s), ?_, endByRequest_ended b s⟩
    rw [exec_powerOff hs hp hk (fun x hx => by rw [powerOffScope_bookings hsess ⟨b, hm, hst⟩] at hx; cases hx; exact hh), powerOffAct,
      if_neg (by simp [hsess]), hb]
  · rw [exec_powerOff hs hp hk (fun x hx => by rw [powerOffScope_none hsess hb] at hx; cases hx), powerOffAct,
      if_neg (by simp [hsess]), activeBooking_none hb]

end Sys2Proof.Machine
end

section
/-! PROOF. The lamp service: FITL, REML and CLRF (`Obligations.LampService`). -/

namespace Sys2Proof.Machine

/-- Past the class check of the lamp service. -/
theorem needClass_service {act : State → Answer} {s : State} : needClass .service .service act s = act s := rfl

theorem usabilityAfter_spec (was : Bool) (p : Pos) (s : State) : UsabilityFollowed was p s (usabilityAfter was p s) :=
  ⟨fun h => if_pos h, fun h => by rw [usabilityAfter, if_neg h]; exact usabilityChanged_spec s⟩

theorem usabilityAfter_medium (was : Bool) (p : Pos) (s : State) : (usabilityAfter was p s).medium = s.medium := by
  unfold usabilityAfter; split <;> simp

/-- A position takes a new lamp record, and the record is marked: the two in either order (R55). -/
theorem markLampDirty_setLamp (p : Pos) (l : Lamp) (s : State) :
    markLampDirty p (s.setLamp p l) = (s.marked (lampNo p)).setLamp p { l with unstored := 0 } := by
  rw [markLampDirty_eq, State.setLamp_marked, State.setLamp_setLamp, State.setLamp_lamp, if_pos rfl]

/-- What is marked before a chain of changes of the lamps is marked in the event. -/
theorem markedDirty_lampService {s t : State} {p : Pos} {l : Lamp} {c : NoticeClass} {k : Nat} {arg : BitVec 32}
    (m : Moves (raiseNotice c k arg ((s.marked (lampNo p)).setLamp p l)) t)
    (hm : t.medium = (raiseNotice c k arg ((s.marked (lampNo p)).setLamp p l)).medium) : MarkedDirty (lampNo p) s (finish t) := by
  have hst : (raiseNotice c k arg ((s.marked (lampNo p)).setLamp p l)).store = (s.marked (lampNo p)).store := by simp
  refine markedDirty_moves ?_ (by rw [hst]; rfl) m hm
  rw [hst]
  exact (mem_dirtyWith _ _ _).mpr (.inl rfl)

section checks

variable {b : Byte} {p : Pos} {s : State}

theorem fitlRequest_noPos (serial : BitVec 32) (rated : BitVec 16) (hb : posOf b = none) :
    fitlRequest .service b serial rated s = refuse .range s := by
  rw [fitlRequest, needClass_service, hb]

theorem remlRequest_noPos (hb : posOf b = none) : remlRequest .service b s = refuse .range s := by
  rw [remlRequest, needClass_service, hb]

theorem clrfRequest_noPos (hb : posOf b = none) : clrfRequest .service b s = refuse .range s := by
  rw [clrfRequest, needClass_service, hb]

variable (hb : posOf b = some p)

include hb

theorem fitlRequest_pos (serial : BitVec 32) (rated : BitVec 16) : fitlRequest .service b serial rated s =
    if rated.toNat < 100 ∨ 20000 < rated.toNat then refuse .range s
    else if !s.doorHeld then refuse .state s
    else if !(s.lamp p).state.mayFit then refuse .state s
    else done (fitLamp p serial.toNat rated.toNat s) := by
  rw [fitlRequest, needClass_service, hb]

theorem remlRequest_pos : remlRequest .service b s =
    if !s.doorHeld then refuse .state s
    else if !(s.lamp p).state.mayRemove then refuse .state s
    else done (removeLamp p s) := by
  rw [remlRequest, needClass_service, hb]

theorem clrfRequest_pos : clrfRequest .service b s =
    if (s.lamp p).state = .failed then done (clearFailure p s) else refuse .state s := by
  rw [clrfRequest, needClass_service, hb]

end checks

theorem doorHeld_true {s : State} (h : s.holds[doorSlot] ≠ none) : s.doorHeld = true := Option.isSome_iff_ne_none.mpr h

theorem doorHeld_false {s : State} (h : s.holds[doorSlot] = none) : s.doorHeld = false := by rw [State.doorHeld, h]; rfl

theorem mayFit_of {st : LampState} (h : st = .empty ∨ st = .cold ∨ st = .failed ∨ st = .spent) : st.mayFit = true := by
  rcases h with rfl | rfl | rfl | rfl <;> rfl

theorem mayFit_not {st : LampState} (h : st = .striking ∨ st = .lit ∨ st = .cooling) : st.mayFit = false := by
  rcases h with rfl | rfl | rfl <;> rfl

theorem mayRemove_of {st : LampState} (h : st = .cold ∨ st = .failed ∨ st = .spent) : st.mayRemove = true := by
  rcases h with rfl | rfl | rfl <;> rfl

theorem mayRemove_not {st : LampState} (h : st = .empty ∨ st = .striking ∨ st = .lit ∨ st = .cooling) : st.mayRemove = false := by
  rcases h with rfl | rfl | rfl | rfl <;> rfl

/-- The state that FITL leaves before its tests (R74). -/
def fittedInto (p : Pos) (serial rated : Nat) (s : State) : State :=
  raiseNotice .lamp 10 (noticeArg (posByte p) 0 0 0) ((s.marked (lampNo p)).setLamp p (fittedLamp serial rated (s.lamp p)))

theorem fitLamp_eq (p : Pos) (serial rated : Nat) (s : State) : fitLamp p serial rated s =
    finish (evalPower p (usabilityAfter (s.lamp p).usable p (strikeTest p (fittedInto p serial rated s)))) := by
  rw [fitLamp, markLampDirty_setLamp]; rfl

/-- The state that REML leaves before its test (R75). -/
def removedInto (p : Pos) (s : State) : State :=
  raiseNotice .lamp 11 (noticeArg (posByte p) 0 0 0) ((s.marked (lampNo p)).setLamp p { removedLamp (s.lamp p) with unstored := 0 })

theorem removeLamp_eq (p : Pos) (s : State) : removeLamp p s = finish (usabilityAfter (s.lamp p).usable p (removedInto p s)) := by
  rw [removeLamp, markLampDirty_setLamp]; rfl

/-- A FAILED position cleared, before its notice (R76). -/
def clearedInto (p : Pos) (s : State) : State :=
  if (s.lamp p).record.isSpent then s.setLamp p { s.lamp p with attempts := 0, state := .spent }
  else enterCold p (s.setLamp p { s.lamp p with attempts := 0 })

theorem clearFailure_eq (p : Pos) (s : State) : clearFailure p s =
    finish (usabilityAfter (s.lamp p).usable p (raiseNotice .lamp 12 (noticeArg (posByte p) 0 0 0) (clearedInto p s))) := rfl

theorem clearedInto_spent {p : Pos} {s : State} (h : (s.lamp p).record.rated * 31680 ≤ (s.lamp p).record.wear) :
    clearedInto p s = s.setLamp p { s.lamp p with attempts := 0, state := .spent } := if_pos (decide_eq_true h)

theorem clearedInto_cold {p : Pos} {s : State} (h : (s.lamp p).record.wear < (s.lamp p).record.rated * 31680) :
    StrikeTested p (s.setLamp p { s.lamp p with attempts := 0, state := .cold, cooldown := 0 }) (clearedInto p s) := by
  have hn : ¬ (s.lamp p).record.isSpent = true := by
    rw [LampRecord.isSpent, decide_eq_true_eq]
    exact Nat.not_le.mpr h
  rw [clearedInto, if_neg hn, enterCold, State.setLamp_lamp, if_pos rfl, State.setLamp_setLamp]
  exact strikeTest_spec p _

/-- Settles O15: the three services by the tests that they end with, and their checks in order. -/
theorem lampService : Obligations.LampService := by
  refine ⟨fun b p s hs hb => ⟨fun serial rated h1 h2 hd hst => ?_, fun hd hst => ?_, fun hst => ?_⟩,
    fun b serial rated s hs => ⟨fun hb => ⟨?_, ?_, ?_⟩, fun p hb => ⟨fun hr => ?_, fun h1 h2 h => ?_, fun h => ?_, fun h => ?_⟩⟩⟩
  · refine ⟨_, _, _, strikeTest_spec p (fittedInto p serial.toNat rated.toNat s), usabilityAfter_spec _ p _, evalPower_spec p _,
      row_answered (request := fitlRequest .service b serial rated) hs ?_, ?_⟩
    · rw [fitlRequest_pos hb, if_neg (by omega), doorHeld_true hd, mayFit_of hst, fitLamp_eq]; rfl
    · exact markedDirty_lampService
        ((moves_strikeTest p _).trans ((moves_usabilityAfter _ p _).trans (moves_evalPower p _)))
        ((evalPower_medium p _).trans ((usabilityAfter_medium _ p _).trans (strikeTest_medium p _)))
  · refine ⟨_, usabilityAfter_spec _ p (removedInto p s), row_answered (request := remlRequest .service b) hs ?_, ?_⟩
    · rw [remlRequest_pos hb, doorHeld_true hd, mayRemove_of hst, removeLamp_eq]; rfl
    · exact markedDirty_lampService (moves_usabilityAfter _ p _) (usabilityAfter_medium _ p _)
  · refine ⟨clearedInto p s, _, clearedInto_spent, clearedInto_cold, usabilityAfter_spec _ p _,
      row_answered (request := clrfRequest .service b) hs ?_⟩
    rw [clrfRequest_pos hb, if_pos hst, clearFailure_eq]; rfl
  · exact row_refused (request := fitlRequest .service b serial rated) hs (fitlRequest_noPos _ _ hb)
  · exact row_refused (request := remlRequest .service b) hs (remlRequest_noPos hb)
  · exact row_refused (request := clrfRequest .service b) hs (clrfRequest_noPos hb)
  · refine row_refused (request := fitlRequest .service b serial rated) hs ?_
    rw [fitlRequest_pos hb, if_pos hr]
  · refine row_refused (request := fitlRequest .service b serial rated) hs ?_
    rw [fitlRequest_pos hb, if_neg (by omega)]
    rcases h with h | h
    · rw [doorHeld_false h]; rfl
    · rw [mayFit_not h]; exact ite_self _
  · refine row_refused (request := remlRequest .service b) hs ?_
    rw [remlRequest_pos hb]
    rcases h with h | h
    · rw [doorHeld_false h]; rfl
    · rw [mayRemove_not h]; exact ite_self _
  · refine row_refused (request := clrfRequest .service b) hs ?_
    rw [clrfRequest_pos hb, if_neg h]

end Sys2Proof.Machine
end

section
/-! PROOF. HOLD and LIFT (`Obligations.HoldAndLift`). -/

namespace Sys2Proof.Machine

/-! ## The checks of HOLD -/

theorem bindsAbove_true {c : Class} {bound : Byte} (h : c = .control) (hb : bound.getLsbD 2 = true) : bindsAbove c bound = true := by
  subst h
  rw [bindsAbove, hb]; rfl

theorem bindsAbove_false {c : Class} {bound : Byte} (hc : c ≠ .panel) (h : c = .control → bound.getLsbD 2 = false) :
    bindsAbove c bound = false := by
  cases c with
  | panel => exact absurd rfl hc
  | control => rw [bindsAbove, h rfl]; simp [atLeast]
  | service => simp only [bindsAbove, show atLeast .service .service = true from rfl, show atLeast .service .control = true from rfl,
      Bool.not_true, Bool.and_false, Bool.or_false]

/-- The fields of the hold that a HOLD carries (R101, R110). -/
theorem requestedHoldOf_fields {c : Class} {r : HoldRaw} {h : Hold} (he : requestedHoldOf c r = some h) :
    h.kind = .requested ∧ h.placer = some c ∧ h.tag = some r.tag.toNat ∧ Scopes.ofByte r.scopes = some h.scopes
      ∧ Origins.ofByte r.bound = some h.bound ∧ h.allowed = (if r.allowed = 0 then none else some r.allowed)
      ∧ h.expiry = (if r.expiry = 4294967295 then none else some r.expiry.toNat) ∧ h.bookingTag = none := by
  simp only [requestedHoldOf, bind, Option.bind_eq_some_iff] at he
  obtain ⟨sc, hsc, o, ho, he⟩ := he
  split at he
  · cases he
    exact ⟨rfl, rfl, rfl, hsc, ho, rfl, rfl, rfl⟩
  · cases he

theorem expiryPassed_false {now : Nat} {e : Option Nat} (h : ∀ x, e = some x → now < x) : expiryPassed now e = false := by
  cases e with
  | none => rfl
  | some x => simpa [expiryPassed] using h x rfl

theorem expiryPassed_true {now x : Nat} {e : Option Nat} (he : e = some x) (h : x ≤ now) : expiryPassed now e = true := by
  rw [he]; simpa [expiryPassed] using h

/-- No requested hold has the tag. -/
theorem requestedHoldAt_none {tag : Nat} {s : State}
    (h : ∀ (i : Fin 16) k, 4 ≤ i.val → s.holds[i] = some k → k.kind = .requested → k.tag ≠ some tag) : requestedHoldAt tag s = none := by
  rw [requestedHoldAt, List.find?_eq_none]
  intro i hi ha
  obtain ⟨k, hk, hx⟩ := Option.any_eq_true _ _ |>.mp ha
  simp only [Bool.and_eq_true, beq_iff_eq] at hx
  exact h i k ((mem_requestedSlots i).mp hi) hk hx.1 hx.2

theorem requestedHoldAt_isSome {tag : Nat} {s : State}
    (h : ∃ (i : Fin 16) (k : Hold), 4 ≤ i.val ∧ s.holds[i] = some k ∧ k.kind = .requested ∧ k.tag = some tag) :
    (requestedHoldAt tag s).isSome = true := by
  obtain ⟨i, k, hi, hk, hr, ht⟩ := h
  rw [requestedHoldAt, List.find?_isSome]
  exact ⟨i, (mem_requestedSlots i).mpr hi, by simp [hk, hr, ht]⟩

/-- The lowest free slot of the requested holds (R102). -/
theorem freeRequestedSlot_of {slot : Fin 16} {s : State} (h4 : 4 ≤ slot.val) (hs : s.holds[slot] = none)
    (hl : ∀ i : Fin 16, 4 ≤ i.val → i < slot → s.holds[i] ≠ none) : freeRequestedSlot s = some slot := by
  have hpre : ∀ i : Fin 16, 4 ≤ i.val → ∀ j ∈ requestedSlots.take (i.val - 4), 4 ≤ j.val ∧ j < i := by decide
  rw [freeRequestedSlot, (requestedSlots_split slot h4).1, List.find?_append, List.find?_eq_none.mpr fun j hj => ?_]
  · rw [List.find?_cons_of_pos (by simp [hs])]; rfl
  · obtain ⟨hj4, hlt⟩ := hpre slot h4 j hj
    simpa using hl j hj4 hlt

theorem freeRequestedSlot_none {s : State} (h : ∀ i : Fin 16, 4 ≤ i.val → s.holds[i] ≠ none) : freeRequestedSlot s = none := by
  rw [freeRequestedSlot, List.find?_eq_none]
  intro i hi hn
  exact h i ((mem_requestedSlots i).mp hi) (Option.isNone_iff_eq_none.mp hn)

section checks

variable {c : Class} {r : HoldRaw} {m : Meeting} {s : State} (hc : c ≠ .panel)

include hc

theorem holdRequest_class (hx : c = .control) (hb : r.bound.getLsbD 2 = true) : holdRequest c r m s = refuse .class' s := by
  rw [holdRequest, needClass_control hc, if_pos (bindsAbove_true hx hb)]

variable (hb : c = .control → r.bound.getLsbD 2 = false)

include hb

theorem holdRequest_range (hr : requestedHoldOf c r = none) : holdRequest c r m s = refuse .range s := by
  rw [holdRequest, needClass_control hc, if_neg (by simp [bindsAbove_false hc hb]), hr]

theorem holdRequest_carried {h : Hold} (hr : requestedHoldOf c r = some h) : holdRequest c r m s = placeRequested m h r.tag.toNat s := by
  rw [holdRequest, needClass_control hc, if_neg (by simp [bindsAbove_false hc hb]), hr]

end checks

section placing

variable {m : Meeting} {h : Hold} {tag now : Nat} {s : State} (hnow : now = checkedMinute m s.clock)

theorem placeRequested_clock (he : h.expiry ≠ none) (hs : s.clock.isSet = false) : placeRequested m h tag s = refuse .clock s := by
  rw [placeRequested, if_pos (by simp [hs, Option.isSome_iff_ne_none, he])]

include hnow

theorem placeRequested_range {e : Nat} (he : h.expiry = some e) (hs : s.clock.isSet = true) (hle : e ≤ now) :
    placeRequested m h tag s = refuse .range s := by
  rw [placeRequested, if_neg (by simp [hs]), if_pos (expiryPassed_true he (hnow ▸ hle))]

variable (he : ∀ e, h.expiry = some e → s.clock.isSet = true ∧ now < e)

include he

omit hnow in
theorem clockSuffices : ¬ (h.expiry.isSome && !s.clock.isSet) = true := by
  cases hx : h.expiry with
  | none => simp
  | some e => simp [(he e hx).1]

theorem expiryAhead : expiryPassed (checkedMinute m s.clock) h.expiry = false := expiryPassed_false fun x hx => hnow ▸ (he x hx).2

theorem placeRequested_duplicate (hd : (requestedHoldAt tag s).isSome = true) : placeRequested m h tag s = refuse .duplicate s := by
  rw [placeRequested, if_neg (clockSuffices he), if_neg (by simp [expiryAhead hnow he]), if_pos hd]

theorem placeRequested_full (hd : requestedHoldAt tag s = none) (hf : freeRequestedSlot s = none) :
    placeRequested m h tag s = refuse .full s := by
  rw [placeRequested, if_neg (clockSuffices he), if_neg (by simp [expiryAhead hnow he]), if_neg (by simp [hd]), hf]

theorem placeRequested_placed {slot : Fin 16} (hd : requestedHoldAt tag s = none) (hf : freeRequestedSlot s = some slot) :
    placeRequested m h tag s = doneWith [byte slot.val] (finish (arrivalLifts h (placeHold slot h s))) := by
  rw [placeRequested, if_neg (clockSuffices he), if_neg (by simp [expiryAhead hnow he]), if_neg (by simp [hd]), hf]

end placing

/-- A requested hold is placed, and douses nothing (R108, R111, R115). -/
theorem placeHold_requested {slot : Fin 16} {h : Hold} {s : State} {tag : Nat} (hk : h.kind = .requested) (ht : h.tag = some tag) :
    placeHold slot h s = raiseNotice .hold 1 (noticeArg 4 (byte slot.val) (byte (tag / 256)) (byte tag))
      { s with holds := s.holds.set slot (some h) } := by
  rw [placeHold, if_neg (by rw [hk]; decide)]
  have hn : holdNoticeArg slot.val h = noticeArg 4 (byte slot.val) (byte (tag / 256)) (byte tag) := by
    rw [holdNoticeArg, hk, ht]; rfl
  rw [← hn]; rfl

/-! ## The checks of LIFT -/

section lifting

variable {c : Class} {tag : BitVec 16} {h : Hold} {slot : Fin 16} {s : State} (hc : c ≠ .panel)

include hc

theorem liftRequest_zero : liftRequest c 0 s = refuse .range s := needClass_control hc

variable (h0 : tag ≠ 0)

include h0

theorem liftRequest_missing (hn : requestedHoldAt tag.toNat s = none) : liftRequest c tag s = refuse .missing s := by
  rw [liftRequest, needClass_control hc, if_neg h0, liftRequested, hn]

variable (hat : requestedHoldAt tag.toNat s = some slot) (hh : s.holds[slot] = some h)

include hat hh

theorem liftRequest_found : liftRequest c tag s = if mayLift c h then done (finish (liftHold slot h s)) else refuse .class' s := by
  rw [liftRequest, needClass_control hc, if_neg h0, liftRequested, hat]
  dsimp only
  rw [hh]

end lifting

theorem mayLift_true {c : Class} {h : Hold} (hp : ∀ k, h.placer = some k → atLeast c k = true) : mayLift c h = true := by
  unfold mayLift
  cases hx : h.placer with
  | none => rfl
  | some k => exact hp k hx

theorem mayLift_false {c k : Class} {h : Hold} (hp : h.placer = some k) (ha : atLeast c k = false) : mayLift c h = false := by
  rw [mayLift, hp]; exact ha

/-- A HOLD that passes its checks, with what its meeting leaves of it. -/
theorem exec_hold_placed {c : Class} {r : HoldRaw} {m : Meeting} {now : Nat} {h : Hold} {slot : Fin 16} {s t : State}
    (hs : s.phase = .running) (hc : c ≠ .panel) (hat : CheckedAt m s.clock now) (hb : c = .control → r.bound.getLsbD 2 = false)
    (hr : requestedHoldOf c r = some h) (he : ∀ e, h.expiry = some e → s.clock.isSet = true ∧ now < e)
    (hd : requestedHoldAt r.tag.toNat s = none) (hf : freeRequestedSlot s = some slot)
    (ht : arrivalLifts h (placeHold slot h s) = t) :
    exec (.hold c ⟨r, m⟩) s = .next ((finish t).replied .hold .done [byte slot.val]) := by
  refine row_answered (request := fun s => holdRequest c r m s) hs ?_
  rw [holdRequest_carried hc hb hr, placeRequested_placed (checkedAt_eq hat) he hd hf, ht]; rfl

/-- A LIFT that passes its checks. -/
theorem exec_lift_lifted {c : Class} {tag : BitVec 16} {h : Hold} {slot : Fin 16} {s : State} (hs : s.phase = .running)
    (hc : c ≠ .panel) (h0 : tag ≠ 0) (hat : requestedHoldAt tag.toNat s = some slot) (hh : s.holds[slot] = some h)
    (hm : mayLift c h = true) : exec (.lift c tag) s = .next ((finish (liftHold slot h s)).replied .lift .done []) := by
  refine row_answered (request := liftRequest c tag) hs ?_
  rw [liftRequest_found hc h0 hat hh, if_pos hm]; rfl

/-- Settles O16: the checks in order, the placing with its meeting, and the lifting with its strike test. -/
theorem holdAndLift : Obligations.HoldAndLift := by
  refine ⟨requestedHoldOf_eq_none_iff, fun c r m now h slot s hs hc hat hb hr he hd h4 hfree hlow => ⟨requestedHoldOf_fields hr, _, rfl,
      fun hx => ?_, fun hx => ⟨_, (arrivalLifts_spec h _).2 hx, ?_⟩⟩,
    fun c r m now s hs hc hat => ⟨fun hx hb => ?_, fun hb => ⟨fun hr => ?_, fun h hr => ⟨fun hx hset => ?_, fun e hx hset hle => ?_,
      fun he => ⟨fun hd => ?_, fun hd hf => ?_⟩⟩⟩⟩,
    fun c tag h slot s hs hc h0 hat hh => ⟨fun hp => ⟨fun hst => ?_, fun hst => ?_⟩, fun k hp ha => ?_⟩,
    fun c tag s hs hc => ⟨?_, fun h0 hn => ?_⟩⟩
  · refine exec_hold_placed hs hc hat hb hr he (requestedHoldAt_none hd) (freeRequestedSlot_of h4 hfree hlow) ?_
    rw [placeHold_requested (requestedHoldOf_fields hr).1 (requestedHoldOf_fields hr).2.2.1]
    exact (arrivalLifts_spec h _).1 hx
  · refine exec_hold_placed hs hc hat hb hr he (requestedHoldAt_none hd) (freeRequestedSlot_of h4 hfree hlow) ?_
    rw [placeHold_requested (requestedHoldOf_fields hr).1 (requestedHoldOf_fields hr).2.2.1]
  · exact row_refused (request := fun s => holdRequest c r m s) hs (holdRequest_class hc hx hb)
  · exact row_refused (request := fun s => holdRequest c r m s) hs (holdRequest_range hc hb hr)
  · exact row_refused (request := fun s => holdRequest c r m s) hs ((holdRequest_carried hc hb hr).trans (placeRequested_clock hx hset))
  · exact row_refused (request := fun s => holdRequest c r m s) hs
      ((holdRequest_carried hc hb hr).trans (placeRequested_range (checkedAt_eq hat) hx hset hle))
  · exact row_refused (request := fun s => holdRequest c r m s) hs
      ((holdRequest_carried hc hb hr).trans (placeRequested_duplicate (checkedAt_eq hat) he (requestedHoldAt_isSome hd)))
  · exact row_refused (request := fun s => holdRequest c r m s) hs ((holdRequest_carried hc hb hr).trans
      (placeRequested_full (checkedAt_eq hat) he (requestedHoldAt_none hd) (freeRequestedSlot_none hf)))
  · rw [exec_lift_lifted hs hc h0 hat hh (mayLift_true hp), liftHold, afterLift, if_pos hst]; rfl
  · rw [exec_lift_lifted hs hc h0 hat hh (mayLift_true hp), liftHold, afterLift, if_neg (by simp [hst])]; rfl
  · refine row_refused (request := liftRequest c tag) hs ?_
    rw [liftRequest_found hc h0 hat hh, if_neg (by simp [mayLift_false hp ha])]
  · rintro rfl
    exact row_refused (request := liftRequest c 0) hs (liftRequest_zero hc)
  · exact row_refused (request := liftRequest c tag) hs (liftRequest_missing hc h0 (requestedHoldAt_none hn))

end Sys2Proof.Machine
end

section
/-! PROOF. The second and the minute arrival, and the counts that run out within a second: the clock's step, which arrivals it hands
out, and the rows of the events that are due. -/

namespace Sys2Proof.Machine

/-! ## The clock's step -/

theorem clock_step_eq (c : Clock) : c.step =
    if c.second < 59 then { c with second := c.second + 1 }
    else if c.minute < 2147483647 then { c with second := 0, minute := c.minute + 1 }
    else { c with second := 0 } := by
  unfold Clock.step Clock.rollsOver Config.topMinute
  grind

theorem minuteRises_iff (c : Clock) : c.minuteRises = true ↔ 59 ≤ c.second ∧ c.minute < 2147483647 := by
  unfold Clock.minuteRises Clock.rollsOver Config.topMinute
  simp

theorem minuteRises_iff_step (c : Clock) : c.minuteRises = true ↔ c.step.minute ≠ c.minute := by
  rw [minuteRises_iff, clock_step_eq]
  grind

theorem clock_step_of_rises {c : Clock} (h : c.minuteRises = true) : c.step = { c with second := 0, minute := c.minute + 1 } := by
  obtain ⟨h1, h2⟩ := (minuteRises_iff c).mp h
  rw [clock_step_eq, if_neg (Nat.not_lt.mpr h1), if_pos h2]

/-! ## The arrivals -/

theorem secondArrival_stopped {s : State} (hs : s.phase ≠ .running) : secondArrival s = stepClock s := by
  unfold secondArrival
  rw [whenRunning_discarded (s := stepClock s) hs]
  dsimp only
  rw [whenRunning_discarded (s := stepClock s) hs, ite_self]

theorem secondHanded_phase (s : State) : (secondHanded s).phase = s.phase := congrArg ViewFixed.phase (secondHanded_fixed s)

theorem secondArrival_running {s : State} (hs : s.phase = .running) : secondArrival s =
    if s.clock.minuteRises then minuteHanded (secondHanded (stepClock s)) else secondHanded (stepClock s) := by
  unfold secondArrival
  rw [whenRunning_eq (s := stepClock s) hs]
  dsimp only
  rw [whenRunning_eq (s := secondHanded (stepClock s)) ((secondHanded_phase _).trans hs)]

/-- Settles O31: the second's and the minute's contracts, by whether the step raises the minute. -/
theorem secondArrival_settled : Obligations.SecondArrival := by
  unfold Obligations.SecondArrival
  intro s c hc
  have hstep : s.clock.step = c := (clock_step_eq s.clock).trans hc.symm
  subst hstep
  refine ⟨fun hs => congrArg Host.Outcome.next (secondArrival_stopped hs), fun hs => ?_⟩
  have hsec : SecondHanded (stepClock s) (secondHanded (stepClock s)) := secondHanded_spec _
  by_cases hm : s.clock.minuteRises = true
  · refine ⟨_, _, hsec, fun h => absurd h ((minuteRises_iff_step _).mp hm), fun _ => minuteHanded_spec _,
      congrArg Host.Outcome.next ((secondArrival_running hs).trans (if_pos hm)), ?_⟩
    exact restKept_of_clocked ((minuteHanded_fixed _).trans (secondHanded_fixed _))
      ((minuteHanded_reports _).trans (secondHanded_reports _))
  · refine ⟨_, _, hsec, fun _ => rfl, fun h => absurd ((minuteRises_iff_step _).mpr h) hm,
      congrArg Host.Outcome.next ((secondArrival_running hs).trans (if_neg hm)), ?_⟩
    exact restKept_of_clocked (secondHanded_fixed _) (secondHanded_reports _)

/-- Settles O32: the minute's contract where the step raises the minute. -/
theorem minuteArrival_settled : Obligations.MinuteArrival := by
  unfold Obligations.MinuteArrival
  intro s
  refine ⟨fun h1 h2 => ?_, fun h => congrArg Host.Outcome.next (if_neg fun hm => ?_)⟩
  · have hm := (minuteRises_iff s.clock).mpr ⟨h1, h2⟩
    have hc := clock_step_of_rises hm
    have hrow : exec .minuteArrival s = .next (whenRunning minuteHanded (stepClock s)) := congrArg Host.Outcome.next (if_pos hm)
    rw [hrow, stepClock, hc]
    refine ⟨fun hs => congrArg Host.Outcome.next (whenRunning_discarded hs), fun hs => ?_⟩
    exact ⟨_, minuteHanded_spec _, row_running hs rfl, restKept_of_clocked (minuteHanded_fixed _) (minuteHanded_reports _)⟩
  · obtain ⟨h1, h2⟩ := (minuteRises_iff s.clock).mp hm
    omega

/-! ## The counts of a LIT lamp -/

/-- Settles O33: the rows that are due, and what marking a lamp record leaves. -/
theorem litCounts : Obligations.LitCounts := by
  unfold Obligations.LitCounts
  intro p s hs hl
  refine ⟨fun hu => ?_, fun hc => row_due hs (by simp [continuousDue, hl, hc, Config.provedLitSeconds])⟩
  refine ⟨finish (unstoredWraps p s), row_due hs (by simp [unstoredDue, hl, hu]), ?_, ?_⟩
  · rw [unstoredWraps, markLampDirty_eq]
  · refine markedDirty_marked (x := s) rfl ?_
    rw [unstoredWraps, markLampDirty_eq]; simp

/-! ## The strike window and the cooldown -/

theorem mem_markLampDirty (p : Pos) (s : State) : lampNo p ∈ (markLampDirty p s).store.dirty := by
  rw [markLampDirty_eq, State.setLamp_store]
  exact (mem_dirtyWith _ _ _).mpr (.inl rfl)

theorem mem_cool {m n : Nat} {p : Pos} {s : State} (h : m ∈ s.store.dirty) : m ∈ (cool p n s).store.dirty := by
  unfold cool markIfLit; dsimp only
  split
  · rw [State.setLamp_store, markLampDirty_eq, State.setLamp_store]
    exact (mem_dirtyWith _ _ _).mpr (.inr h)
  · rw [State.setLamp_store]; exact h

theorem mem_enterFailed {m : Nat} {p : Pos} {s : State} (h : m ∈ s.store.dirty) : m ∈ (enterFailed p s).store.dirty := by
  refine ((moves_gapExit p _).trans (moves_usabilityChanged _)).dirty m ?_
  show m ∈ (s.setLamp p _).store.dirty
  rw [State.setLamp_store]; exact h

/-- A lamp that cools with a notice and leaves the kept set keeps what was dirty. -/
theorem mem_cooled {m n k : Nat} {p : Pos} {arg : BitVec 32} {s : State} (h : m ∈ s.store.dirty) :
    m ∈ (gapExit p (raiseNotice .lamp k arg (cool p n s))).store.dirty :=
  (moves_gapExit p _).dirty m (mem_cool h)

theorem mem_windowRunsOut (p : Pos) (s : State) : lampNo p ∈ (windowRunsOut p s).store.dirty := by
  have hmark : ∀ t, lampNo p ∈ (offerLamp p .douse (markLampDirty p t)).store.dirty := fun t =>
    (moves_offerLamp p _ _).dirty _ (mem_markLampDirty p t)
  unfold windowRunsOut; dsimp only; split
  · exact mem_cooled (hmark _)
  · exact mem_enterFailed (hmark _)

/-- What an operation on the lamps has marked by its end is marked in the event. -/
theorem markedDirty_of_mem {n : Nat} {s u : State} (h : n ∈ u.store.dirty) (hm : u.medium = s.medium) : MarkedDirty n s (finish u) :=
  markedDirty_finish h (congrArg ViewMedium.writing hm)

/-- Settles O34: the rows that are due, with the contracts of the window's end and of the cooldown's. -/
theorem windowAndCooldown : Obligations.WindowAndCooldown := by
  unfold Obligations.WindowAndCooldown
  intro p s hs
  refine ⟨fun n hst hw hn => ?_, fun hst hc => ?_⟩
  · exact ⟨_, windowRunsOut_spec p s hst, row_due hs (by simp [windowDue, hst, hw, hn]),
      markedDirty_of_mem (mem_windowRunsOut p s) (windowRunsOut_medium p s)⟩
  · exact ⟨_, cooldownEnds_spec p s, row_due hs (by simp [cooldownDue, hst, hc])⟩

/-! ## The unattended count and the grace count -/

/-- Settles O35: the session's end with the notice of its limit, and the contract of the grace count's end. -/
theorem unattendedAndGrace : Obligations.UnattendedAndGrace := by
  unfold Obligations.UnattendedAndGrace
  refine ⟨fun s hs hon hsh hlim => ?_, fun g s hs hst hg hle => ?_⟩
  · have hdue : unattendedDue s = true := by simp [unattendedDue, unattendedLimit, unattendedNext, hon, hsh, hlim]
    have heq : unattendedEnds s = { endSession s with notices := (raiseNotice .schedule 5 0 s).notices } := by
      unfold unattendedEnds unattendedNotice raiseNotice
      rw [endSession_notices]
    refine ⟨_, row_due hs hdue, ?_, ?_⟩
    · rw [heq]; exact endSession_ended s _
    · rw [finish_notices, heq]
  · exact ⟨_, graceRanOut_spec s hst, row_due hs (by simp [graceDue, hst, hg, hle])⟩

end Sys2Proof.Machine
end

section
/-! PROOF. The messages of the switch, the settle timer and the sync meter (`Obligations.TakeAckAndSettleTimeout`,
`Obligations.PresenceTaken`, `Obligations.SyncMeter`): what stands in the latch decides the row, the pending slot decides the exit
from TAKING and from SETTLING, and the meter's state and the frame's range decide what an edge does. -/

namespace Sys2Proof.Machine

/-! ## The pending slot at an exit (R125) -/

theorem examinePending_empty {exit : State → State} {s : State} (h : s.switch.pendingSel = none) :
    examinePending exit s = exit s := by
  rw [examinePending, h]

theorem examinePending_open {exit : State → State} {s : State} {sel : Selection} (h : s.switch.pendingSel = some sel)
    (hh : ¬ Held sel.origin .source (some sel.target) s) :
    examinePending exit s = takeSelection sel (s.setSwitch { s.switch with pendingSel := none }) := by
  rw [examinePending, h]; dsimp only
  rw [State.selectionHeld, held_false hh]; rfl

theorem examinePending_held {exit : State → State} {s : State} {sel : Selection} (h : s.switch.pendingSel = some sel)
    (hh : Held sel.origin .source (some sel.target) s) :
    examinePending exit s = exit (droppedNotice sel (s.setSwitch { s.switch with pendingSel := none })) := by
  rw [examinePending, h]; dsimp only
  rw [State.selectionHeld, (held_iff s _ _ _).mpr hh, if_pos rfl]

/-! ## TAKE ACK and the settle timer -/

theorem row_takeAck {i : Input} {s : State} (hs : s.phase = .running) (hl : s.switch.latch = some (.takeAck i)) :
    exec .takeAck s = .next (finish (takeAckTaken i (emptyMatrixLatch s))) :=
  row_running (f := takeAckRow) hs (by rw [takeAckRow, hl])

/-- The latch emptied and the take in flight ended. -/
def State.takeEnded (s : State) : State :=
  s.setSwitch { s.switch with latch := none, takeInFlight := none, takeTimer := false }

theorem takeAckTaken_right {i : Input} {s : State} (ht : s.switch.state = .taking) (hi : s.switch.takeInFlight = some i) :
    takeAckTaken i (emptyMatrixLatch s) = examinePending enterSettling s.takeEnded :=
  if_pos ⟨ht, hi⟩

theorem takeAckTaken_stray {i : Input} {s : State} (h : s.switch.state ≠ .taking ∨ s.switch.takeInFlight ≠ some i) :
    takeAckTaken i (emptyMatrixLatch s) = strayTakeAckNotice i (emptyMatrixLatch s) :=
  if_neg fun ⟨ht, hi⟩ => h.elim (fun h => h ht) (fun h => h hi)

theorem row_settleTimeout {s : State} (hs : s.phase = .running) (ht : s.switch.state = .settling)
    (hr : s.switch.settleTimer = true) : exec .settleTimeout s = .next (finish (settleTimesOut s)) :=
  row_due (due := settleTimerDue) (act := settleTimesOut) hs (by simp [settleTimerDue, ht, hr])

/-- Settles O37: the latch, the flight and the pending slot decide. -/
theorem takeAckAndSettleTimeout : Obligations.TakeAckAndSettleTimeout := by
  unfold Obligations.TakeAckAndSettleTimeout
  refine ⟨fun i s hs hl => ?_, fun s hs ht hr => ?_⟩
  · rw [row_takeAck hs hl]
    refine ⟨fun ht hi hp => ?_, fun sel ht hi hp hh => ?_, fun sel ht hi hp hh => ?_, fun h => ?_⟩
    · rw [takeAckTaken_right ht hi, examinePending_empty (s := s.takeEnded) hp]; rfl
    · rw [takeAckTaken_right ht hi, examinePending_open (s := s.takeEnded) hp hh]; rfl
    · rw [takeAckTaken_right ht hi, examinePending_held (s := s.takeEnded) hp hh]; rfl
    · rw [takeAckTaken_stray h]; rfl
  · rw [row_settleTimeout hs ht hr, settleTimesOut]
    refine ⟨fun hp => ?_, fun sel hp hh => ?_, fun sel hp hh => ?_⟩
    · rw [examinePending_empty hp]; rfl
    · rw [examinePending_open hp hh]; rfl
    · rw [examinePending_held hp hh]; rfl

/-! ## PRESENCE (R134) -/

theorem find_allInputs {p : Input → Bool} {i : Input} (h1 : p i = true) (h2 : ∀ j, j < i → p j = false) :
    allInputs.find? p = some i := by
  have split : ∀ i : Input, allInputs = allInputs.take i.val ++ i :: allInputs.drop (i.val + 1)
      ∧ ∀ j ∈ allInputs.take i.val, j < i := by decide
  obtain ⟨hall, hlt⟩ := split i
  rw [hall, List.find?_append, List.find?_eq_none.mpr fun j hj => by simp [h2 j (hlt j hj)]]
  simp [h1]

theorem arrivalInput_none {set : InputSet} {s : State}
    (h : ∀ i : Input, ¬ LectureOrSession s ∨ hasInput set i = false ∨ hasInput s.switch.presence i = true
      ∨ s.profiles[i].takeOnArrival = false ∨ s.switch.current = some i) : arrivalInput set s = none := by
  unfold arrivalInput
  split
  · next hl =>
    refine List.find?_eq_none.mpr fun i _ => ?_
    rcases h i with h | h | h | h | h
    · exact absurd ((lecture_iff s).mp hl) h
    all_goals simp [-Fin.getElem_fin, h]
  · rfl

theorem arrivalInput_some {set : InputSet} {s : State} {i : Input} (hl : LectureOrSession s) (hi : hasInput set i = true)
    (hold : hasInput s.switch.presence i = false) (ht : s.profiles[i].takeOnArrival = true) (hc : s.switch.current ≠ some i)
    (hlow : ∀ j, j < i → hasInput set j = false ∨ hasInput s.switch.presence j = true ∨ s.profiles[j].takeOnArrival = false
      ∨ s.switch.current = some j) : arrivalInput set s = some i := by
  rw [arrivalInput, if_pos ((lecture_iff s).mpr hl)]
  refine find_allInputs (by simp [-Fin.getElem_fin, hi, hold, ht, hc]) fun j hj => ?_
  rcases hlow j hj with h | h | h | h <;> simp [-Fin.getElem_fin, h]

/-- The presence set replaced, before the arrival is dealt with. -/
def State.withPresence (s : State) (set : InputSet) : State :=
  { s with switch := { s.switch with presence := set, latch := none } }

theorem row_presence {set : InputSet} {s : State} (hs : s.phase = .running) (hl : s.switch.latch = some (.presence set)) :
    exec .presence s = .next (finish (presenceTaken set (emptyMatrixLatch s))) :=
  row_running (f := presenceRow) hs (by rw [presenceRow, hl])

theorem presenceTaken_none {set : InputSet} {s : State} (h : arrivalInput set s = none) :
    presenceTaken set (emptyMatrixLatch s) = s.withPresence set := by
  have h' : arrivalInput set (emptyMatrixLatch s) = none := h
  rw [presenceTaken, h']; rfl

theorem presenceTaken_some {set : InputSet} {s : State} {i : Input} (h : arrivalInput set s = some i) :
    presenceTaken set (emptyMatrixLatch s) = autoSelection i .arrival (s.withPresence set) := by
  have h' : arrivalInput set (emptyMatrixLatch s) = some i := h
  rw [presenceTaken, h']; rfl

/-- Settles O38: which input is the lowest to be taken, and whether its selection is held. -/
theorem presenceTaken_settled : Obligations.PresenceTaken := by
  unfold Obligations.PresenceTaken
  intro set s hs hl
  rw [row_presence hs hl]
  refine ⟨fun h => ?_, fun i hlect hi hold ht hc hlow => ?_⟩
  · rw [presenceTaken_none (arrivalInput_none h)]; rfl
  · rw [presenceTaken_some (arrivalInput_some hlect hi hold ht hc hlow)]
    refine ⟨fun hh => ⟨_, rfl, fun h => absurd h.2 hc, fun _ => ⟨_, dealSelection_spec _ _, ?_⟩⟩, fun hh => ?_⟩
    · rw [autoSelection_open (s := s.withPresence set) hh]; rfl
    · rw [autoSelection_held (s := s.withPresence set) hh]; rfl

/-! ## The sync meter -/

theorem frame_inRange_iff (f : Frame) : f.inRange = true ↔ 8000 ≤ f.period ∧ f.period ≤ 50000 := by
  rw [Frame.inRange, Bool.and_eq_true, decide_eq_true_iff, decide_eq_true_iff]; rfl

theorem frame_inRange_false {f : Frame} (h : f.period < 8000 ∨ 50000 < f.period) : f.inRange = false := by
  rw [← Bool.not_eq_true, frame_inRange_iff]
  omega

theorem stableFrames_iff (f g : Frame) : stableFrames f g = true ↔ StablePair f g := by
  simp only [stableFrames, Bool.and_eq_true, frame_inRange_iff, decide_eq_true_eq]
  unfold distance StablePair
  omega

theorem lineEdgeTaken_of {s : State} (h : s.meter.state ≠ .idle) :
    lineEdgeTaken s = s.setMeter { s.meter with tally := min 65535 (s.meter.tally + 1) } := by
  unfold lineEdgeTaken
  cases hm : s.meter.state with
  | idle => exact absurd hm h
  | seeking => simp [Config.top16, State.setMeter, hm]
  | locked => simp [Config.top16, State.setMeter, hm]

/-- The meter after an edge that set the reference anew, and before the frame is judged. -/
def Meter.edgeAt (m : Meter) (time : Nat) : Meter := { m with refEdge := some time, tally := 0, lossTimer := true }

/-- The frame that an edge measures. -/
def Meter.measured (m : Meter) (ref time : Nat) : Frame := { period := time - ref, lines := m.tally }

section frameEdge

variable {time ref : Nat} {s : State}

theorem frameEdgeTaken_idle (h : s.meter.state = .idle) : frameEdgeTaken time s = s := by
  unfold frameEdgeTaken; dsimp only; rw [h]

theorem frameEdgeTaken_first (hm : s.meter.state ≠ .idle) (hr : s.meter.refEdge = none) :
    frameEdgeTaken time s = s.setMeter (s.meter.edgeAt time) := by
  unfold frameEdgeTaken
  cases h : s.meter.state with
  | idle => exact absurd h hm
  | seeking => simp [hr, h, Meter.edgeAt]
  | locked => simp [hr, h, Meter.edgeAt]

variable (hm : s.meter.state ≠ .idle) (hr : s.meter.refEdge = some ref)

include hm hr

theorem frameEdgeTaken_inRange (h1 : 8000 ≤ time - ref) (h2 : time - ref ≤ 50000) :
    frameEdgeTaken time s = stableTest (s.setMeter { s.meter.edgeAt time with
      previous := s.meter.last, last := some (s.meter.measured ref time) }) := by
  have hf : (s.meter.measured ref time).inRange = true := (frame_inRange_iff _).mpr ⟨h1, h2⟩
  unfold Meter.measured at hf
  unfold frameEdgeTaken
  cases h : s.meter.state with
  | idle => exact absurd h hm
  | seeking => simp [hr, h, hf, Meter.edgeAt, Meter.measured]
  | locked => simp [hr, h, hf, Meter.edgeAt, Meter.measured]

theorem frameEdgeTaken_outOfRange (h : time - ref < 8000 ∨ 50000 < time - ref) :
    frameEdgeTaken time s = meterLoss { s.meter.edgeAt time with previous := none, last := none } s := by
  have hf : (s.meter.measured ref time).inRange = false := frame_inRange_false h
  unfold Meter.measured at hf
  unfold frameEdgeTaken
  cases h : s.meter.state with
  | idle => exact absurd h hm
  | seeking => simp [hr, h, hf, Meter.edgeAt]
  | locked => simp [hr, h, hf, Meter.edgeAt]

end frameEdge

theorem meterLoss_seeking {m : Meter} {s : State} (h : s.meter.state = .seeking) :
    meterLoss m s = s.setMeter { m with state := .seeking } := by
  unfold meterLoss; simp [h]

theorem meterLoss_unshown {m : Meter} {s : State} (h : s.switch.state ≠ .shown) :
    meterLoss m s = s.setMeter { m with state := .seeking } := by
  unfold meterLoss; dsimp only
  split
  · exact if_neg h
  · rfl

theorem meterLoss_shown {m : Meter} {s : State} (h : s.meter.state = .locked) (hs : s.switch.state = .shown) :
    meterLoss m s = enterNoSignal (s.setMeter { m with state := .seeking }) := by
  unfold meterLoss; dsimp only
  rw [if_pos h]; exact if_pos hs

theorem stableTest_unready {s : State} (h : s.meter.state = .locked ∨ s.meter.previous = none) : stableTest s = s := by
  unfold stableTest
  grind

theorem stableTest_seeking {s : State} {p l : Frame} (hm : s.meter.state = .seeking) (hp : s.meter.previous = some p)
    (hl : s.meter.last = some l) : stableTest s = if stableFrames p l then lockMeter s else s := by
  unfold stableTest
  rw [hm, hp, hl]

theorem row_frameEdge (time : Nat) {s : State} (hs : s.phase = .running) :
    exec (.frameEdge time) s = .next (finish (frameEdgeTaken time s)) :=
  row_running (f := fun s => finish (frameEdgeTaken time s)) hs rfl

theorem row_lossTimer {s : State} (hs : s.phase = .running) (hm : s.meter.state ≠ .idle) (hr : s.meter.lossTimer = true) :
    exec .lossTimerRunsOut s = .next (finish (lossTimesOut s)) :=
  row_due (due := lossTimerDue) (act := lossTimesOut) hs (by simp [lossTimerDue, hm, hr])

theorem stableReport_elsewhere {s : State} (h : s.switch.state = .idle ∨ s.switch.state = .taking ∨ s.switch.state = .shown) :
    stableReport s = s := by
  unfold stableReport
  rcases h with h | h | h <;> rw [h]

theorem lockMeter_elsewhere {s : State} (h : s.switch.state = .idle ∨ s.switch.state = .taking ∨ s.switch.state = .shown) :
    lockMeter s = s.setMeter { s.meter with state := .locked } :=
  stableReport_elsewhere (s := s.setMeter { s.meter with state := .locked }) h

theorem lineEdges (s : State) (hs : s.phase = .running) :
    (s.meter.state = .idle → exec .lineEdge s = .next s)
    ∧ (s.meter.state ≠ .idle →
        exec .lineEdge s = .next { s with meter := { s.meter with tally := min 65535 (s.meter.tally + 1) } }) :=
  ⟨fun h => row_running (f := lineEdgeTaken) hs (by rw [lineEdgeTaken, h]),
    fun h => row_running (f := lineEdgeTaken) hs (lineEdgeTaken_of h)⟩

/-- Settles O39: what each edge does by the meter's state, the frame's range and the stable pair. -/
theorem syncMeter : Obligations.SyncMeter := by
  unfold Obligations.SyncMeter
  refine ⟨lineEdges, fun time s hs => ?_, fun s hs hr => ?_⟩
  · rw [row_frameEdge time hs]
    refine ⟨fun hm => ?_, fun hm hr => ?_, fun ref hm hr hf => ?_, fun ref hl hm hr h1 h2 => ?_,
      fun ref hm hr hf => ⟨fun hsw => ?_, fun hsw => ?_⟩, fun ref f hm hr hl h1 h2 => ?_⟩
    · rw [frameEdgeTaken_idle hm]
    · rw [frameEdgeTaken_first hm hr]; rfl
    · rw [frameEdgeTaken_outOfRange (by simp [hm]) hr hf, meterLoss_seeking hm, ← hm]; rfl
    · rw [frameEdgeTaken_inRange hm hr h1 h2, stableTest_unready hl]; rfl
    · rw [frameEdgeTaken_outOfRange (by simp [hm]) hr hf, meterLoss_shown hm hsw]; rfl
    · rw [frameEdgeTaken_outOfRange (by simp [hm]) hr hf, meterLoss_unshown hsw]; rfl
    · rw [(frameEdgeTaken_inRange (by simp [hm]) hr h1 h2).trans
        (stableTest_seeking (p := f) (l := s.meter.measured ref time) hm hl rfl)]
      have hpair := stableFrames_iff f (s.meter.measured ref time)
      refine ⟨fun hp => ?_, fun hp _ _ => ?_, fun hp hsw => ?_⟩
      · rw [if_neg (fun h => hp (hpair.mp h)), hl, ← hm]; rfl
      · rw [if_pos (hpair.mpr hp), hl]
        exact ⟨_, stableReport_spec _, rfl⟩
      · rw [if_pos (hpair.mpr hp), hl]
        exact congrArg (fun u => Host.Outcome.next (finish u)) (lockMeter_elsewhere hsw)
  · refine ⟨fun hm => ?_, fun hm hsw => ?_⟩
    · have hidle : s.meter.state ≠ .idle := by rcases hm with h | ⟨h, _⟩ <;> simp [h]
      have hloss : lossTimesOut s = s.setMeter { s.meter with
          state := .seeking, refEdge := none, last := none, previous := none, lossTimer := true } := by
        rcases hm with h | ⟨_, h⟩
        · exact meterLoss_seeking h
        · exact meterLoss_unshown h
      rw [row_lossTimer hs hidle hr, hloss, ← hr]; rfl
    · rw [row_lossTimer hs (by simp [hm]) hr, lossTimesOut, meterLoss_shown hm hsw, ← hr]; rfl

end Sys2Proof.Machine
end

section
/-! PROOF. The engine's acknowledge and the messages LAMP SENSE, DOOR and THERMAL, with the fire line (`Obligations.Acknowledge`,
`Obligations.AcknowledgeTimeout`, `Obligations.LampSenseTaken`, `Obligations.DoorThermalAndFire`). -/

namespace Sys2Proof.Machine

/-! ## The acknowledge (R164) -/

/-- The channel of a state READY again, with nothing in flight. -/
def State.withReady (s : State) : State := s.setEngine { s.engine with inFlight := none, ackTimer := false, state := .ready }

theorem row_acknowledge {s : State} (hp : s.phase ≠ .flush) (hs : s.engine.state = .sending) :
    exec .engineAcknowledge s = .next (finish (deliver s.engine.inFlight s.withReady)) := by
  have h : acknowledged s = finish (messageDelivered s) := if_pos hs
  exact congrArg Host.Outcome.next ((if_neg hp).trans h)

theorem strikeWaits_false {e : Engine} {p : Pos} (h : ∀ x, e.lampSlot p ≠ some (.strike x)) : e.strikeWaits p = false := by
  unfold Engine.strikeWaits
  grind

theorem strikeWaits_true {e : Engine} {p : Pos} {x : Power} (h : e.lampSlot p = some (.strike x)) : e.strikeWaits p = true := by
  unfold Engine.strikeWaits
  rw [h]

theorem withReady_lampSlot (s : State) (p : Pos) : s.withReady.engine.lampSlot p = s.engine.lampSlot p := by cases p <;> rfl

theorem strikeDelivered_starts {s : State} {p : Pos} (hst : (s.lamp p).state = .striking)
    (hw : ∀ x, s.engine.lampSlot p ≠ some (.strike x)) :
    strikeDelivered p s.withReady = s.withReady.setLamp p { s.lamp p with window := some 20 } := by
  have hw' : s.withReady.engine.strikeWaits p = false := strikeWaits_false fun x => by rw [withReady_lampSlot]; exact hw x
  have hl : s.withReady.lamp p = s.lamp p := by cases p <;> rfl
  rw [strikeDelivered, hl, if_pos ⟨hst, hw'⟩]; rfl

theorem strikeDelivered_not {s : State} {p : Pos} (h : (s.lamp p).state ≠ .striking ∨ ∃ x, s.engine.lampSlot p = some (.strike x)) :
    strikeDelivered p s.withReady = s.withReady := by
  have hl : s.withReady.lamp p = s.lamp p := by cases p <;> rfl
  refine if_neg ?_
  rintro ⟨hst, hw⟩
  rcases h with h | ⟨x, hx⟩
  · exact h (hl ▸ hst)
  · rw [strikeWaits_true ((withReady_lampSlot s p).trans hx)] at hw
    exact Bool.noConfusion hw

/-- A message that only ends its flight. -/
theorem deliver_plain {m : Option OutMsg} {s : State} (hw : ∀ w, m ≠ some (.warp w))
    (hs : ∀ p w, m = some (.lamp p (.strike w)) → (s.lamp p).state ≠ .striking ∨ ∃ x, s.engine.lampSlot p = some (.strike x)) :
    deliver m s.withReady = s.withReady := by
  match m with
  | some (.lamp p (.strike w)) => exact strikeDelivered_not (hs p w rfl)
  | some (.warp w) => exact absurd rfl (hw w)
  | some (.lamp _ (.power _)) => rfl
  | some (.lamp _ .douse) => rfl
  | some (.shutter _) => rfl
  | none => rfl

/-- Settles O41: what the message in flight is decides the delivery. -/
theorem acknowledge : Obligations.Acknowledge := by
  unfold Obligations.Acknowledge
  intro s
  refine ⟨fun hp hs => ?_, fun hp hs => congrArg Host.Outcome.next ((if_neg hp).trans (if_neg hs)),
    fun hp => congrArg Host.Outcome.next (if_pos hp)⟩
  rw [row_acknowledge hp hs]
  refine ⟨fun p w hf hst hw => ?_, fun w hf => ?_, fun ⟨hw, hst⟩ => ?_⟩
  · rw [hf, deliver, strikeDelivered_starts hst hw]; rfl
  · rw [hf]; rfl
  · rw [deliver_plain hw hst]; rfl

/-! ## The acknowledge timer (R165) -/

/-- In FAULT the shutter is CLOSED at the end of every event (R158). -/
theorem finish_gate_fault {s : State} (h : s.engine.state = .fault) : (finish s).gate = { s.gate with shutterOpen := false } := by
  have hopen : (finish s).gate.shutterOpen = false := by rw [finish_shutter, gateCondition, h]; simp
  have hmute : (finish s).gate.mute = s.gate.mute := finish_mute s
  generalize (finish s).gate = g at hopen hmute
  cases g
  cases hopen; cases hmute; rfl

theorem row_acknowledgeTimeout {s : State} (hs : s.phase = .running) (he : s.engine.state = .sending)
    (ha : s.engine.ackTimer = true) : exec .acknowledgeTimeout s = .next (finish (channelFaults s)) :=
  row_running (f := fun s => if s.engine.state = .sending ∧ s.engine.ackTimer = true then finish (channelFaults s) else s) hs
    (if_pos ⟨he, ha⟩)

/-- The channel in FAULT and the lamps cooled, before the corners are withdrawn. -/
def State.faultCooled (s : State) : State :=
  faultCoolAll (acknowledgeTimeoutNotice s.engine.inFlight (s.setEngine s.engine.faulted))

theorem channelFaults_eq (s : State) :
    channelFaults s = { s.faultCooled with geom := { s.geom with applied := none, appliedFor := none } } := by
  have hg : s.faultCooled.geom = s.geom := by simp [State.faultCooled]
  rw [← hg]; rfl

/-- Settles O42: the contract of the channel's FAULT, and the gate at the event's end. -/
theorem acknowledgeTimeout : Obligations.AcknowledgeTimeout := by
  unfold Obligations.AcknowledgeTimeout
  intro s hs he ha
  have hcool := faultCoolAll_spec (acknowledgeTimeoutNotice s.engine.inFlight (s.setEngine s.engine.faulted)) rfl
  have hslot : (fun p => s.engine.faulted.lampSlot p) = fun _ => none := by funext p; cases p <;> rfl
  have hf : s.faultCooled.engine.state = .fault := (moves_faultCoolAll _).engine.state
  have hg : s.faultCooled.gate = s.gate := by simp [State.faultCooled]
  refine ⟨s.faultCooled, hslot ▸ hcool, ?_, ?_⟩
  · rw [row_acknowledgeTimeout hs he ha, channelFaults_eq]
  · refine (finish_gate_fault ?_).trans (congrArg (fun g : Gate => { g with shutterOpen := false }) hg)
    exact hf

/-! ## LAMP SENSE (R169) -/

theorem row_lampSense {p : Pos} {lit : Bool} {s : State} (hs : s.phase = .running) (hl : s.engine.latch = some (.lampSense p lit)) :
    exec .lampSense s = .next (finish (lampReport p lit (emptyEngineLatch s))) :=
  row_running (f := lampSenseTaken) hs (by rw [lampSenseTaken, hl])

theorem mem_enterLit (p : Pos) (s : State) : lampNo p ∈ (enterLit p s).store.dirty := by
  unfold enterLit
  exact (moves_evalPower p _).dirty _ (mem_markLampDirty p _)

theorem mem_dropLamp (p : Pos) (s : State) : lampNo p ∈ (dropLamp p s).store.dirty := by
  unfold dropLamp; dsimp only; split
  · exact mem_cooled (mem_markLampDirty p _)
  · exact mem_enterFailed (mem_markLampDirty p _)

theorem mem_lampReport {p : Pos} {lit : Bool} {s : State}
    (h : (lit = true ∧ (s.lamp p).state = .striking) ∨ (lit = false ∧ (s.lamp p).state = .lit)) :
    lampNo p ∈ (lampReport p lit s).store.dirty := by
  rcases h with ⟨rfl, h⟩ | ⟨rfl, h⟩
  · have hr : lampReport p true s = enterLit p s := by unfold lampReport; rw [h]
    exact hr ▸ mem_enterLit p s
  · have hr : lampReport p false s = dropLamp p s := by unfold lampReport; rw [h]
    exact hr ▸ mem_dropLamp p s

/-- Settles O43: the contracts of the lamp report and of the writing of a demand. -/
theorem lampSenseTaken_settled : Obligations.LampSenseTaken := by
  unfold Obligations.LampSenseTaken
  refine ⟨fun p lit s hs hl => ⟨_, lampReport_spec p lit _, row_lampSense hs hl, fun h => ?_⟩, writeDemand_spec,
    usabilityChanged_spec, gapExit_spec⟩
  have h' : (lit = true ∧ ((emptyEngineLatch s).lamp p).state = .striking)
      ∨ (lit = false ∧ ((emptyEngineLatch s).lamp p).state = .lit) := by cases p <;> exact h
  exact markedDirty_of_mem (mem_lampReport h') (lampReport_medium p lit _)

/-! ## DOOR, THERMAL and the fire line -/

theorem row_door {o : Bool} {s : State} (hs : s.phase = .running) (hl : s.engine.latch = some (.door o)) :
    exec .door s = .next (finish (doorReport o (emptyEngineLatch s))) :=
  row_running (f := doorTaken) hs (by rw [doorTaken, hl])

theorem row_thermal {x : Thermal} {s : State} (hs : s.phase = .running) (hl : s.engine.latch = some (.thermal x)) :
    exec .thermal s = .next (finish (thermalReport x (emptyEngineLatch s))) :=
  row_running (f := thermalTaken) hs (by rw [thermalTaken, hl])

theorem doorReport_spec (o : Bool) (s : State) : ReportTaken doorSlot (lampHold .door) o s (doorReport o s) :=
  reportHold_spec _ _ _ _ rfl rfl

theorem thermalReport_spec (x : Thermal) (s : State) :
    ThermalTaken x s (takeThermal x s)
      ∧ ReportTaken thermalSlot (lampHold .thermal) (x == .over) (takeThermal x s) (thermalReport x s) :=
  ⟨takeThermal_spec x s, reportHold_spec _ _ _ _ rfl rfl⟩

theorem fireReport_spec (active : Bool) (s : State) :
    ReportTaken fireSlot fireHold active (s.setFire { s.fire with seen := active }) (fireReport active s) :=
  reportHold_spec _ _ _ _ rfl rfl

/-- Settles O44: the contracts of the reports, by the message in the latch and by the level last seen. -/
theorem doorThermalAndFire : Obligations.DoorThermalAndFire := by
  unfold Obligations.DoorThermalAndFire
  refine ⟨fun p s => wantedPower_eco_iff s p, fun o s hs hl => ⟨_, doorReport_spec o _, row_door hs hl⟩,
    fun x s hs hl => ?_, fun active s => ⟨fun hs hne => ?_, fun h => ?_⟩⟩
  · obtain ⟨hx, hh⟩ := thermalReport_spec x (emptyEngineLatch s)
    exact ⟨_, _, hx, hh, row_thermal hs hl⟩
  · refine ⟨_, fireReport_spec active (s.setFire { s.fire with level := active }), ?_⟩
    exact row_running (f := fireLineSeen active) hs (if_neg hne)
  · by_cases hs : s.phase = .running
    · exact row_running (f := fireLineSeen active) hs (if_pos (h.resolve_left fun hn => hn hs))
    · exact congrArg Host.Outcome.next (whenRunning_discarded hs)

end Sys2Proof.Machine
end

section
/-! PROOF. STATUS REPORT (`Obligations.StatusReportTaken`): outside FAULT the four reports in order, and in FAULT the recovery of the
channel, whose first message is the gate's. -/

namespace Sys2Proof.Machine

/-! ## The hold table after a report -/

theorem getElem_set_self (v : Vector (Option Hold) 16) (i : Fin 16) (x : Option Hold) : (v.set i x)[i] = x := by
  simp

theorem getElem_set_other (v : Vector (Option Hold) 16) {i j : Fin 16} (x : Option Hold) (h : i ≠ j) : (v.set i x)[j] = v[j] := by
  simp [Fin.val_inj, h]

theorem placeHold_holds (i : Fin 16) (h : Hold) (s : State) : (placeHold i h s).holds = s.holds.set i (some h) := by
  unfold placeHold; dsimp only
  split
  · rw [holdDouseAll_holds]; rfl
  · rfl

/-- The slot of a report agrees with the report. -/
theorem reportOnly_slot (i : Fin 16) (h : Hold) (r : Bool) (s : State) : (reportOnly i h r s).holds[i].isSome = r := by
  unfold reportOnly
  split
  · rw [placeHold_holds, getElem_set_self]; rfl
  · exact congrArg Option.isSome (getElem_set_self s.holds i none)
  · next hs => rw [hs]; rfl
  · next hs => rw [hs]; rfl

theorem reportOnly_otherSlot {i j : Fin 16} (hij : i ≠ j) (h : Hold) (r : Bool) (s : State) :
    (reportOnly i h r s).holds[j] = s.holds[j] := by
  unfold reportOnly
  split
  · rw [placeHold_holds, getElem_set_other _ _ hij]
  · exact getElem_set_other s.holds none hij
  · rfl
  · rfl

/-! ## The recovery -/

/-- The computation of the recovery is that for the current input, while SHOWN (R154). -/
theorem computeIfShown_shown {s : State} {i : Input} (hs : s.switch.state = .shown) (hc : s.switch.current = some i) :
    ComputedFor i s (computeIfShown s) := by
  rw [computeIfShown, if_pos hs, hc]; exact compute_spec i s

theorem computeIfShown_hidden {s : State} (hs : s.switch.state ≠ .shown) : computeIfShown s = s := if_neg hs

theorem computeIfShown_none {s : State} (hc : s.switch.current = none) : computeIfShown s = s := by
  rw [computeIfShown, hc, ite_self]

theorem computeIfShown_keeps (s : State) : (computeIfShown s).reports = s.reports ∧ (computeIfShown s).holds = s.holds
    ∧ (computeIfShown s).geom.appliedFor = s.geom.appliedFor := by
  unfold computeIfShown; split
  · split
    · exact ⟨compute_reports _ s, compute_holds _ s, compute_geom_appliedFor _ s⟩
    · exact ⟨rfl, rfl, rfl⟩
  · exact ⟨rfl, rfl, rfl⟩

/-- The gate evaluated and its state in the SHUTTER slot (R167). -/
def State.gateOffered (s : State) : State :=
  { s with gate := { s.gate with shutterOpen := gateCondition s }
           engine := { s.engine with shutterSlot := some (gateCondition s) } }

theorem offerGate_ready {s : State} (h : s.engine.state = .ready) : offerGate s = s.gateOffered := by
  have hf : s.engine.state ≠ .fault := by rw [h]; exact fun h => nomatch h
  unfold offerGate evalGate State.gateOffered
  dsimp only
  split
  · next hg => simp [offer, Engine.place, hf, State.setEngine, hg]
  · simp [offer, Engine.place, hf, State.setEngine, State.setGate]

/-- An event that ends with the gate's state offered sends it first (R163). -/
theorem finish_gateOffered {s t : State} (h : s.engine.state = .ready) (ht : t = finish (raiseNotice .engine 4 0 s.gateOffered)) :
    t.engine.state = .sending ∧ t.engine.inFlight = some (.shutter t.gate.shutterOpen) ∧ t.engine.ackTimer = true
      ∧ t.gate.shutterOpen = gateCondition s ∧ t.thermal = s.thermal ∧ t.holds = s.holds := by
  have hg : evalGate (raiseNotice .engine 4 0 s.gateOffered) = raiseNotice .engine 4 0 s.gateOffered := if_pos rfl
  have he : (raiseNotice .engine 4 0 s.gateOffered).engine = { s.engine with shutterSlot := some (gateCondition s) } := rfl
  have hsend : t.engine = Engine.send (.shutter (gateCondition s)) { s.engine with shutterSlot := none } := by
    rw [ht, finish_engine, hg, he, Engine.arbitrate, if_pos h]
  have hopen : t.gate.shutterOpen = gateCondition s := by rw [ht]; exact finish_shutter _
  rw [hopen, hsend]
  exact ⟨rfl, rfl, rfl, rfl, by rw [ht, finish_thermal]; rfl, by rw [ht, finish_holds]; rfl⟩

theorem gateCondition_unapplied {s : State} (h : s.geom.appliedFor = none) : gateCondition s = false := by
  simp [gateCondition, h]

/-- The parts of the recovery before the gate, from the channel READY again. -/
def State.recoveredTo (s : State) (x : Thermal) (o : Bool) : State := computeIfShown (recoveryHolds x o s)

theorem recoveryHolds_sources (x : Thermal) (o : Bool) (s : State) : (recoveryHolds x o s).sources = s.sources := by
  simp [recoveryHolds]

theorem recoveryHolds_keeps (x : Thermal) (o : Bool) (s : State) :
    (recoveryHolds x o s).thermal = x ∧ (recoveryHolds x o s).holds[doorSlot].isSome = o
      ∧ (recoveryHolds x o s).holds[thermalSlot].isSome = (x == .over) ∧ (recoveryHolds x o s).geom = s.geom
      ∧ (recoveryHolds x o s).switch = s.switch := by
  have hh : (recoveryHolds x o s).holds = (reportOnly doorSlot (lampHold .door) o
      (reportOnly thermalSlot (lampHold .thermal) (x == .over) (takeThermal x s))).holds := by simp [recoveryHolds]
  refine ⟨?_, ?_, ?_, by simp [recoveryHolds], (congrArg ViewSources.switch (recoveryHolds_sources x o s) :)⟩
  · have hr : (recoveryHolds x o s).reports = (takeThermal x s).reports := by simp [recoveryHolds]
    have ht : (takeThermal x s).reports = (s.setThermal x).reports := by simp [takeThermal]
    exact congrArg ViewReports.thermal (hr.trans ht)
  · rw [hh, reportOnly_slot]
  · rw [hh, reportOnly_otherSlot (by decide), reportOnly_slot]

theorem lampReports_keep (a b : Bool) (s : State) : (lampReport .b b (lampReport .a a s)).geom = s.geom
    ∧ (lampReport .b b (lampReport .a a s)).switch = s.switch :=
  ⟨by simp, (congrArg ViewSources.switch ((lampReport_sources .b b _).trans (lampReport_sources .a a s)) :)⟩

/-! ## STATUS REPORT -/

section row

variable {a b : Bool} {x : Thermal} {o : Bool} {s : State} (hs : s.phase = .running)
  (hl : s.engine.latch = some (.statusReport a b x o))

include hs hl

theorem row_statusReport (h : s.engine.state ≠ .fault) :
    exec .statusReport s = .next (finish (statusTaken a b x o (emptyEngineLatch s))) :=
  row_running (f := statusReportTaken) hs (by rw [statusReportTaken, hl]; exact if_neg h)

theorem row_recovery (h : s.engine.state = .fault) :
    exec .statusReport s = .next (finish (recover a b x o (emptyEngineLatch s))) :=
  row_running (f := statusReportTaken) hs (by rw [statusReportTaken, hl]; exact if_pos h)

end row

/-- The state of the recovery with the channel READY and both lamps reported. -/
def State.recoveredLamps (s : State) (a b : Bool) : State :=
  lampReport .b b (lampReport .a a { s with engine := { s.engine with latch := none, state := .ready } })

theorem recoveredTo_ready (a b : Bool) (x : Thermal) (o : Bool) (s : State) :
    ((s.recoveredLamps a b).recoveredTo x o).engine.state = .ready :=
  ((channel_lampReport .a a _).trans ((channel_lampReport .b b _).trans
    ((moves_recoveryHolds x o _).trans (moves_computeIfShown _)).channel)).engine.state

theorem recover_eq (a b : Bool) (x : Thermal) (o : Bool) (s : State) :
    recover a b x o (emptyEngineLatch s) = raiseNotice .engine 4 0 ((s.recoveredLamps a b).recoveredTo x o).gateOffered := by
  rw [← offerGate_ready (recoveredTo_ready a b x o s)]; rfl

/-- Settles O45: the contracts of the parts in their order, and the gate's message first at the event's end. -/
theorem statusReportTaken_settled : Obligations.StatusReportTaken := by
  unfold Obligations.StatusReportTaken
  intro a b x o s hs hl
  refine ⟨fun h => ?_, fun h => ?_⟩
  · obtain ⟨hx, hh⟩ := thermalReport_spec x (doorReport o (emptyEngineLatch s))
    exact ⟨_, _, _, _, _, doorReport_spec o _, hx, hh, lampReport_spec .a a _, lampReport_spec .b b _, row_statusReport hs hl h⟩
  · obtain ⟨v2, hv2⟩ : ∃ v2, v2 = s.recoveredLamps a b := ⟨_, rfl⟩
    obtain ⟨v6, hv6⟩ : ∃ v6, v6 = v2.recoveredTo x o := ⟨_, rfl⟩
    obtain ⟨t, ht⟩ : ∃ t, t = finish (raiseNotice .engine 4 0 v6.gateOffered) := ⟨_, rfl⟩
    have hrow : exec .statusReport s = .next t := by rw [row_recovery hs hl h, recover_eq, ht, hv6, hv2]
    obtain ⟨hg2, hsw2⟩ : v2.geom = s.geom ∧ v2.switch = s.switch := hv2 ▸ lampReports_keep a b _
    obtain ⟨hth, hdoor, hover, hg5, hsw5⟩ := recoveryHolds_keeps x o v2
    obtain ⟨hr6, hh6, ha6⟩ := computeIfShown_keeps (recoveryHolds x o v2)
    have hsw : (recoveryHolds x o v2).switch = s.switch := hsw5.trans hsw2
    have hready : v6.engine.state = .ready := by rw [hv6, hv2]; exact recoveredTo_ready a b x o s
    obtain ⟨hsend, hflight, htimer, hopen, hthermal, hholds⟩ := finish_gateOffered hready ht
    replace hv6 : v6 = computeIfShown (recoveryHolds x o v2) := hv6
    rw [← hv6] at hr6 hh6 ha6
    refine ⟨_, v2, _, _, _, v6, gateCondition v6, t, lampReport_spec .a a _, ?_, takeThermal_spec x v2,
      reportOnly_spec _ _ _ _ rfl rfl, reportOnly_spec _ _ _ _ rfl rfl, fun i hi hc => ?_, fun hn => ?_, fun hc => ?_,
      gateCondition_iff v6, hrow, ht, hsend, hflight, htimer, fun hn => ?_, ?_, ?_, ?_⟩
    · rw [hv2]; exact lampReport_spec .b b _
    · rw [hv6]; exact computeIfShown_shown (s := recoveryHolds x o v2) (hsw ▸ hi) (hsw ▸ hc)
    · rw [hv6]; exact computeIfShown_hidden (s := recoveryHolds x o v2) (hsw ▸ hn)
    · rw [hv6]; exact computeIfShown_none (s := recoveryHolds x o v2) (hsw ▸ hc)
    · rw [hopen]; exact gateCondition_unapplied (ha6.trans ((congrArg Geometry.appliedFor (hg5.trans hg2)).trans hn))
    · exact hthermal.trans ((congrArg ViewReports.thermal hr6 :).trans hth)
    · rw [hholds, hh6, hdoor]
    · rw [hholds, hh6, hover, beq_iff_eq]

end Sys2Proof.Machine
end

section
/-! PROOF. The control link (`Obligations.FramesAndStaging`, `Obligations.RequestFrame`, `Obligations.OtherFrames`): what a frame's
beginning, its bytes and its end do, and how a frame is sorted. -/

namespace Sys2Proof.Machine

/-! ## The sorting of a frame (R182) -/

theorem ofLetters_letters (n : ReqName) : ReqName.ofLetters n.letters = some n := by cases n <;> decide

theorem ofLetters_eq_none {bs : List Byte} (h : ∀ n : ReqName, n.letters ≠ bs) : ReqName.ofLetters bs = none :=
  List.find?_eq_none.mpr fun n _ => by simpa using h n

theorem letters_head_ne_zero (n : ReqName) : n.letters.getD 0 0 ≠ 0 := by cases n <;> decide

theorem head_ne_zero_of_letters {bs : List Byte} {n : ReqName} (h : bs.take 4 = n.letters) : u8 bs 0 ≠ 0 := by
  have hne := letters_head_ne_zero n
  rw [← h] at hne
  cases bs with
  | nil => exact absurd rfl hne
  | cons b bs => exact hne

theorem frameSort_bytes {l : Link} (h0 : l.byteCount ≠ 0) (ho : l.overrun = false) : frameSort l = sortBytes l := by
  rw [frameSort, if_neg h0, ho]; exact if_neg Bool.false_ne_true

theorem sortBytes_tooLong {l : Link} (h : 64 < l.byteCount) : sortBytes l = .malformed .tooLong := if_pos h

theorem sortBytes_single {l : Link} (h : l.byteCount = 1) : sortBytes l = .malformed .tooShort := by
  have hk : ¬ Config.keptBytes < l.byteCount := by rw [h]; decide
  rw [sortBytes, if_neg hk, if_pos h]

section counted

variable {l : Link} (h2 : 2 ≤ l.byteCount) (h64 : l.byteCount ≤ 64)

include h2 h64

theorem sortBytes_fetch (h : u8 l.bytes 0 = 0) : sortBytes l = .fetch := by
  have hk : ¬ Config.keptBytes < l.byteCount := Nat.not_lt.mpr h64
  rw [sortBytes, if_neg hk, if_neg (by omega), if_pos h]

theorem sortBytes_short (h : u8 l.bytes 0 ≠ 0) (h4 : l.byteCount ≤ 4) : sortBytes l = .malformed .tooShort := by
  have hk : ¬ Config.keptBytes < l.byteCount := Nat.not_lt.mpr h64
  rw [sortBytes, if_neg hk, if_neg (by omega), if_neg h, if_pos h4]

end counted

theorem sortBytes_unknown {l : Link} (h5 : 5 ≤ l.byteCount) (h64 : l.byteCount ≤ 64) (h : u8 l.bytes 0 ≠ 0)
    (hn : ∀ n : ReqName, n.letters ≠ l.bytes.take 4) : sortBytes l = .malformed .unknownName := by
  have hk : ¬ Config.keptBytes < l.byteCount := Nat.not_lt.mpr h64
  rw [sortBytes, if_neg hk, if_neg (by omega), if_neg h, if_neg (by omega), ofLetters_eq_none hn]

theorem sortBytes_named {l : Link} {n : ReqName} (h5 : 5 ≤ l.byteCount) (h64 : l.byteCount ≤ 64) (hn : l.bytes.take 4 = n.letters) :
    sortBytes l = sortNamed n l := by
  have hk : ¬ Config.keptBytes < l.byteCount := Nat.not_lt.mpr h64
  rw [sortBytes, if_neg hk, if_neg (by omega), if_neg (head_ne_zero_of_letters hn), if_neg (by omega), hn, ofLetters_letters]

theorem sortNamed_request {l : Link} {n : ReqName} (h1 : (u8 l.bytes 4).toNat = n.length) (h2 : 5 + n.length ≤ l.byteCount) :
    sortNamed n l = .request n := if_pos ⟨h1, h2⟩

theorem sortNamed_wrongLength {l : Link} {n : ReqName} (h : (u8 l.bytes 4).toNat ≠ n.length ∨ l.byteCount < 5 + n.length) :
    sortNamed n l = .malformed .wrongLength := by
  refine if_neg ?_
  rintro ⟨h1, h2⟩
  exact h.elim (fun h => h h1) (fun h => by omega)

/-! ## The end of a frame (R180) -/

section ends

variable {takes : FrameSort → Bool} {act : FrameSort → State → State} {s : State}

theorem frameEnds_idle (h : s.link.receiving = false) : frameEnds takes act s = s.setLink s.link.paid :=
  if_pos (by rw [h]; rfl)

theorem frameEnds_stopped (h : s.link.receiving = true) (hs : s.phase ≠ .running) : frameEnds takes act s = endFrame s := by
  rw [frameEnds, if_neg (by simp [h]), if_pos hs]

theorem frameEnds_empty (h : s.link.receiving = true) (h0 : s.link.byteCount = 0) : frameEnds takes act s = endFrame s := by
  by_cases hs : s.phase = .running
  · have hsort : frameSort s.link = .empty := if_pos h0
    rw [frameEnds, if_neg (by simp [h]), if_neg (not_not_intro hs), hsort]; exact if_pos rfl
  · exact frameEnds_stopped h hs

theorem frameEnds_taken {sort : FrameSort} (h : s.link.receiving = true) (hs : s.phase = .running)
    (hsort : frameSort s.link = sort) (hne : sort ≠ .empty) (ht : takes sort = true) :
    frameEnds takes act s = act sort (endFrame s) := by
  rw [frameEnds, if_neg (by simp [h]), if_neg (not_not_intro hs), hsort]
  exact (if_neg hne).trans (if_pos ht)

end ends

/-- Settles O47: the frame is sorted as its request, and the row of the request is taken by the same answer. -/
theorem requestFrame : Obligations.RequestFrame := by
  unfold Obligations.RequestFrame
  intro serviceKey m n s hs hr ho h64 hlen hname hn
  have hsort : frameSort s.link = .request n := by
    rw [frameSort_bytes (by omega) ho, sortBytes_named (by omega) h64 hname, sortNamed_request hn hlen]
  refine ⟨_, congrArg Host.Outcome.next (frameEnds_taken hr hs hsort (fun h => nomatch h) rfl), ?_⟩
  rw [exec_rowOf]
  exact row_running (f := fun s => reply n (handRequest n _ m _ s)) hs rfl

/-- The four rows that end a frame. -/
def EndsFrame (i : Instr) : Prop := i = .fetchFrame ∨ i = .malformedFrame ∨ i = .overrunFrame ∨ ∃ e, i = .requestFrameEnd e

theorem exec_endsFrame {i : Instr} {s t : State} (h : EndsFrame i)
    (hf : ∀ (takes : FrameSort → Bool) (act : FrameSort → State → State), frameEnds takes act s = t) : exec i s = .next t := by
  rcases h with rfl | rfl | rfl | ⟨e, rfl⟩ <;> exact congrArg Host.Outcome.next (hf _ _)

/-- Settles O48: the sorting of the frame decides which row takes it. -/
theorem otherFrames : Obligations.OtherFrames := by
  unfold Obligations.OtherFrames
  refine ⟨fun s i hr h => exec_endsFrame h fun _ _ => frameEnds_idle hr, fun s hr => ⟨fun hs ho h2 h64 h0 => ?_,
    fun m hs ho hm => ?_, fun hc ho => ⟨fun h => ?_, fun h => ?_, fun h2 h4 h0 => ?_, fun h5 h64 h0 hn => ?_,
      fun n h5 h64 hn h => ?_⟩, fun hs hc ho => ?_, fun h i hi => exec_endsFrame hi fun _ _ => ?_⟩⟩
  · have hsort : frameSort s.link = .fetch := by rw [frameSort_bytes (by omega) ho, sortBytes_fetch h2 h64 h0]
    exact congrArg Host.Outcome.next (frameEnds_taken hr hs hsort (fun h => nomatch h) rfl)
  · exact congrArg Host.Outcome.next (frameEnds_taken hr hs hm (fun h => nomatch h) rfl)
  · rw [frameSort_bytes hc ho, sortBytes_tooLong h]
  · rw [frameSort_bytes hc ho, sortBytes_single h]
  · rw [frameSort_bytes hc ho, sortBytes_short h2 (by omega) h0 h4]
  · rw [frameSort_bytes hc ho, sortBytes_unknown h5 h64 h0 hn]
  · rw [frameSort_bytes hc ho, sortBytes_named h5 h64 hn, sortNamed_wrongLength h]
  · have hsort : frameSort s.link = .overrun := by rw [frameSort, if_neg hc, if_pos ho]
    exact congrArg Host.Outcome.next (frameEnds_taken hr hs hsort (fun h => nomatch h) rfl)
  · exact h.elim (frameEnds_stopped hr) (frameEnds_empty hr)

/-! ## The bytes of a frame (R181, R184) -/

theorem getD_beyond {bs : List Byte} {k : Nat} (h : bs.length ≤ k) : bs.getD k 0 = 0 := by
  rw [List.getD_eq_getElem?_getD, List.getElem?_eq_none h]; rfl

theorem byteOut_owed {l : Link} (h : l.owed = true) : l.byteOut = 2 := if_pos h

section paid

variable {l : Link} (h : l.owed = false)

include h

theorem byteOut_status (h0 : l.byteCount = 0) : l.byteOut = l.status.byte := by
  rw [Link.byteOut, h]; exact (if_neg Bool.false_ne_true).trans (if_pos h0)

theorem byteOut_body (h0 : l.byteCount ≠ 0) (hst : l.status = .ready) : l.byteOut = l.buffer.getD l.readPos 0 := by
  rw [Link.byteOut, h]; exact (if_neg Bool.false_ne_true).trans ((if_neg h0).trans (if_pos hst))

theorem byteOut_fill (h0 : l.byteCount ≠ 0) (hst : l.status ≠ .ready ∨ l.buffer.length ≤ l.readPos) : l.byteOut = 0 := by
  by_cases hr : l.status = .ready
  · rw [byteOut_body h h0 hr, getD_beyond (hst.resolve_left fun hn => hn hr)]
  · rw [Link.byteOut, h]; exact (if_neg Bool.false_ne_true).trans ((if_neg h0).trans (if_neg hr))

end paid

theorem bodyByteOut_iff (l : Link) :
    l.bodyByteOut = true ↔ l.status = .ready ∧ l.byteCount ≠ 0 ∧ l.readPos < l.buffer.length := by
  simp [Link.bodyByteOut, and_assoc]

theorem statusNow_busy {l : Link} (h : l.decoder ≠ none) : l.statusNow = .notReady :=
  if_pos (Option.isSome_iff_ne_none.mpr h)

theorem statusNow_free {l : Link} (h : l.decoder = none) :
    l.statusNow = if l.readPos < l.buffer.length then .ready else .none := by
  rw [Link.statusNow, h]; exact if_neg Bool.false_ne_true

theorem beginFrame_overrun (l : Link) : (beginFrame true l).overrun = true ↔ l.decoder ≠ none := by
  simp [beginFrame, Option.isSome_iff_ne_none]

theorem frameBegins {s : State} (hr : s.link.receiving = false) : ∃ l, exec .frameBegin s = .next { s with link := l }
    ∧ l.receiving = true ∧ l.byteCount = 0 ∧ l.bytes = [] ∧ l.decoder = s.link.decoder ∧ l.buffer = s.link.buffer
    ∧ l.readPos = s.link.readPos ∧ l.owed = false
    ∧ (s.phase = .running → (l.overrun = true ↔ s.link.decoder ≠ none)
        ∧ (s.link.decoder ≠ none → l.status = .notReady)
        ∧ (s.link.decoder = none → s.link.readPos < s.link.buffer.length → l.status = .ready)
        ∧ (s.link.decoder = none → s.link.buffer.length ≤ s.link.readPos → l.status = .none))
    ∧ (s.phase ≠ .running → l.status = .notReady) := by
  refine ⟨beginFrame (s.phase == .running) s.link, congrArg Host.Outcome.next (if_neg (by simp [hr])), rfl, rfl, rfl, rfl, rfl,
    rfl, rfl, fun hs => ?_, fun hs => ?_⟩
  · have hrun : (s.phase == .running) = true := by rw [hs]; rfl
    have hstatus : (beginFrame true s.link).status = s.link.statusNow := rfl
    rw [hrun, hstatus]
    refine ⟨beginFrame_overrun _, statusNow_busy, fun hd hb => ?_, fun hd hb => ?_⟩
    · rw [statusNow_free hd, if_pos hb]
    · rw [statusNow_free hd, if_neg (Nat.not_lt.mpr hb)]
  · exact if_neg (by simpa using hs)

theorem byteCompletes (b : Byte) {s : State} (hr : s.link.receiving = true) :
    ∃ l, exec (.byteCompletion b) s = .next { s with link := l }
    ∧ l.byteCount = min 65535 (s.link.byteCount + 1)
    ∧ (s.link.byteCount < 64 → l.bytes = s.link.bytes ++ [b]) ∧ (64 ≤ s.link.byteCount → l.bytes = s.link.bytes)
    ∧ (s.link.byteCount = 0 ∨ s.link.status ≠ .ready ∨ s.link.buffer.length ≤ s.link.readPos → l.readPos = s.link.readPos)
    ∧ (s.link.byteCount ≠ 0 → s.link.status = .ready → s.link.readPos < s.link.buffer.length →
        l.readPos = s.link.readPos + 1)
    ∧ { l with byteCount := s.link.byteCount, bytes := s.link.bytes, readPos := s.link.readPos } = s.link := by
  refine ⟨completeByte b s.link, ?_, rfl, fun h => if_pos h, fun h => if_neg (Nat.not_lt.mpr h), fun h => if_neg fun hb => ?_,
    fun h0 hst hlt => if_pos ((bodyByteOut_iff _).mpr ⟨hst, h0, hlt⟩), rfl⟩
  · exact congrArg (fun l => Host.Outcome.next (s.setLink l)) (if_pos hr)
  · obtain ⟨hst, h0, hlt⟩ := (bodyByteOut_iff _).mp hb
    rcases h with h | h | h
    · exact h0 h
    · exact h hst
    · omega

theorem byteIgnored (b : Byte) {s : State} (hr : s.link.receiving = false) :
    exec (.byteCompletion b) s = .next (s.setLink s.link.paid) :=
  congrArg (fun l => Host.Outcome.next (s.setLink l)) (if_neg (by simp [hr]))

/-- Settles O46: the link at each of its events. -/
theorem framesAndStaging : Obligations.FramesAndStaging := by
  unfold Obligations.FramesAndStaging
  refine ⟨fun s hr => frameBegins hr, fun l h => byteOut_owed h,
    fun l h => ⟨fun h0 => ?_, fun pre b post h0 hst hbuf hpos => ?_, fun h0 hst => byteOut_fill h h0 hst⟩,
    fun b s hr => byteCompletes b hr, fun b s hr => ⟨fun hp => ?_, fun hp => ?_⟩, fun s => ⟨fun body hs hd => ?_, fun h => ?_⟩⟩
  · rw [byteOut_status h h0]; cases l.status <;> rfl
  · rw [byteOut_body h h0 hst, hbuf, ← hpos]; simp
  · rw [byteIgnored b hr, Link.paid, ← hp]; rfl
  · rw [byteIgnored b hr]; rfl
  · refine row_running (f := fun s => s.setLink (stageReply s.link)) hs ?_
    rw [stageReply, hd]; rfl
  · by_cases hs : s.phase = .running
    · refine row_running (f := fun s => s.setLink (stageReply s.link)) hs ?_
      rw [stageReply, h.resolve_left fun hn => hn hs]; rfl
    · exact congrArg Host.Outcome.next (whenRunning_discarded hs)

end Sys2Proof.Machine
end

section
/-! PROOF. The store's writes (`Obligations.WritesAndRetries`), the restart and the power reset
(`Obligations.RestartAndPowerReset`) and the end of start-up (`Obligations.StartUpEnds`). -/

namespace Sys2Proof.Machine

/-! ## The writes (R199, R201) -/

/-- The record that a write leaves in its place. -/
def State.writtenAs (s : State) (r : ReadBack) (w : Writing) : StoredRecord :=
  afterWrite r (storedAt s.store.records w.number) w.record

theorem row_writeEnd {r : ReadBack} {w : Writing} {s : State} (hs : s.phase ≠ .flush) (hw : s.store.writing = some w) :
    exec (.writeEnd r) s = .next (writeEnds r w s) := by
  refine congrArg Host.Outcome.next ?_
  rw [writeEndTaken, hw]; exact if_neg hs

theorem row_flushWriteEnd {r : ReadBack} {w : Writing} {s : State} (hs : s.phase = .flush) (hw : s.store.writing = some w) :
    exec (.writeEnd r) s = .next (flushWriteEnds r w s) := by
  refine congrArg Host.Outcome.next ?_
  rw [writeEndTaken, hw]; exact if_pos hs

theorem writeEnds_matched {r : ReadBack} {w : Writing} {s : State} (h : r = .matched) : writeEnds r w s = startWrite (endWrite r w s) :=
  congrArg startWrite (if_pos h)

theorem writeEnds_failed {r : ReadBack} {w : Writing} {s : State} (h : r ≠ .matched) :
    writeEnds r w s = startWrite (queueRetry w.number (writeFailedNotice w.number (endWrite r w s))) :=
  congrArg startWrite (if_neg h)

theorem endWrite_eq {r : ReadBack} {w : Writing} {s : State} {x : StoredRecord} (h : s.writtenAs r w = x) :
    endWrite r w s = { s with store := { s.store with records := s.store.records.set w.number x, writing := none } } := by
  rw [← h]; rfl

theorem set_storedAt {rs : List StoredRecord} {n : Nat} (h : n < rs.length) : rs.set n (storedAt rs n) = rs := by
  rw [storedAt, List.getD_eq_getElem?_getD, List.getElem?_eq_getElem h, Option.getD_some, List.set_getElem_self]

/-- The flush's writer takes the oldest dirty record, even one that waits (R201). -/
theorem startFlushWrite_takes {s : State} {n : Nat} {rest : List Nat} (hw : s.store.writing = none)
    (hd : s.store.dirty = n :: rest) :
    startFlushWrite s = { s with store := { s.store with
      dirty := rest, waiting := s.store.waiting.erase n,
      writing := some { number := n, record := { content := recordContent n s, check := crc8 (recordContent n s) } } } } := by
  rw [startFlushWrite, hw, hd]; rfl

theorem startFlushWrite_rests {s : State} (h : s.store.writing ≠ none ∨ s.store.dirty = []) : startFlushWrite s = s := by
  unfold startFlushWrite
  split
  · next hw hd => exact absurd hd (by simp [h.resolve_left (fun hn => hn hw)])
  · rfl

/-- Settles O49: the read-back decides what is stored and whether a retry is queued; the oldest ready record is taken. -/
theorem writesAndRetries : Obligations.WritesAndRetries := by
  unfold Obligations.WritesAndRetries
  refine ⟨fun r w s hs hw => ?_, fun r w s hs hw => ?_, fun r s hw => ?_, fun n s hs hn => ?_,
    fun s hw pre n post hd hpre hn => startWrite_takes hw hd hpre hn⟩
  · refine ⟨s.writtenAs r w, afterWrite_spec r _ _, ?_⟩
    rw [row_flushWriteEnd hs hw, flushWriteEnds, endWrite_eq rfl]
    refine ⟨fun hd => congrArg Host.Outcome.next (startFlushWrite_rests (.inr hd)), fun n rest hd => ?_⟩
    exact congrArg Host.Outcome.next (startFlushWrite_takes rfl hd)
  · rw [row_writeEnd hs hw]
    obtain ⟨hmatched, hkept, hdamaged⟩ := afterWrite_spec r (storedAt s.store.records w.number) w.record
    refine ⟨fun h => ?_, fun h hlt => ?_, fun d h hd => ?_⟩
    · rw [writeEnds_matched h, endWrite_eq (hmatched h)]
    · rw [writeEnds_failed (h ▸ fun h => nomatch h), endWrite_eq (hkept h), set_storedAt hlt]; rfl
    · rw [writeEnds_failed (h ▸ fun h => nomatch h), endWrite_eq (hdamaged d h hd)]; rfl
  · exact congrArg Host.Outcome.next (by rw [writeEndTaken, hw])
  · exact congrArg Host.Outcome.next (if_pos ⟨hs, hn⟩)

/-! ## The restart and the power reset (R200, R201) -/

theorem rstrRequest_service (s : State) : rstrRequest .service s = done (beginFlush s) := by
  rw [rstrRequest, needClass_service]

theorem cutOffWrite_none (d : Damage) {st : Store} (h : st.writing = none) : cutOffWrite d st = st.records := by
  rw [cutOffWrite, h]

theorem cutOffWrite_some {d : Damage} {st : Store} {w : Writing} (h : st.writing = some w) (hd : d.error ≠ 0) :
    cutOffWrite d st = st.records.set w.number { content := d.content, check := crc8 d.content ^^^ d.error } := by
  rw [cutOffWrite, h]; dsimp only; rw [damagedRecord, if_neg hd]

/-- Settles O50: the flush begins by its writer's rule, and both starts are boots, over their clock and their records. -/
theorem restartAndPowerReset : Obligations.RestartAndPowerReset := by
  unfold Obligations.RestartAndPowerReset
  refine ⟨fun s hs => ⟨fun h => ?_, fun n rest hw hd => ?_⟩, fun failed s hs => ?_,
    fun failed s hs => congrArg Host.Outcome.next (if_neg hs), fun d s => ?_⟩
  · refine row_answered (request := rstrRequest .service) hs ?_
    rw [rstrRequest_service, beginFlush, startFlushWrite_rests (s := { s with phase := .flush, panel := none }) h]; rfl
  · refine row_answered (request := rstrRequest .service) hs ?_
    rw [rstrRequest_service, beginFlush, startFlushWrite_takes (s := { s with phase := .flush, panel := none }) hw hd]; rfl
  · obtain ⟨hstart, hclock, hrecords⟩ := boot_spec s.clock (flushedRecords failed s) s
    exact ⟨_, congrArg Host.Outcome.next (if_pos hs), hclock, hstart, hrecords ▸ flushedRecords_spec failed s⟩
  · obtain ⟨hstart, hclock, hrecords⟩ := boot_spec { minute := 0, second := 0, isSet := false } (cutOffWrite d s.store) s
    exact ⟨_, rfl, hclock, hstart, fun h => hrecords.trans (cutOffWrite_none d h),
      fun w h hd => hrecords.trans (cutOffWrite_some h hd)⟩

/-! ## The end of start-up (R200) -/

/-- FIRE in its slot with its notice, before the lamps are doused (R105, R115). -/
def State.fireSeen (s : State) : State :=
  raiseNotice .hold 1 (noticeArg 0 255 0 0)
    { s with fire := { level := true, seen := true }, holds := s.holds.set fireSlot (some fireHold) }

theorem sampleFire_douses {s : State} (h : s.fire.level = true) : sampleFire s = holdDouseAll s.fireSeen := by
  unfold sampleFire; dsimp only
  rw [h, if_pos rfl]; rfl

theorem sampleFire_active {s : State} (h : s.fire.level = true) :
    BurningCooled (fun p => if s.engine.state = .fault then s.engine.lampSlot p else some .douse) s.fireSeen (sampleFire s) := by
  rw [sampleFire_douses h]
  exact holdDouseAll_spec s.fireSeen (strikeHeld_set (s := s) (slot := fireSlot) (h := fireHold) rfl)

theorem sampleFire_idle {s : State} (h : s.fire.level = false) : sampleFire s = { s with fire := { level := false, seen := false } } := by
  unfold sampleFire
  rw [h]; dsimp only
  rw [if_neg Bool.false_ne_true, ← h]; rfl

/-- The room as start-up leaves it, before its schedule check. -/
def State.startedUp (s : State) : State := { sampleFire s with phase := .running, link := s.link.started, panel := none }

theorem moves_sampleFire (s : State) : Moves s (sampleFire s) := by
  unfold sampleFire; dsimp only; split
  · exact (moves_setFire s _).trans (moves_placeHold _ _ _)
  · exact moves_setFire s _

theorem arbitrate_latch (e : Engine) : e.arbitrate.latch = e.latch := by
  unfold Engine.arbitrate
  split
  · split <;> rfl
  · rfl

theorem finish_latch (s : State) : (finish s).engine.latch = s.engine.latch := by
  rw [finish_engine, arbitrate_latch]
  exact (moves_evalGate s).engine.latch

theorem startedUp_latch (s : State) : (scheduleCheck s.startedUp).engine.latch = s.engine.latch :=
  (moves_scheduleCheck s.startedUp).engine.latch.trans (moves_sampleFire s).engine.latch

theorem startedUp_clock (s : State) : (scheduleCheck s.startedUp).clock = s.clock :=
  (congrArg ViewFixed.clock (scheduleCheck_fixed s.startedUp) :).trans (congrArg ViewFixed.clock (sampleFire_fixed s) :)

/-- Settles O51: the sampling of the fire line, then the schedule check. -/
theorem startUpEnds : Obligations.StartUpEnds := by
  unfold Obligations.StartUpEnds
  intro s
  refine ⟨fun hs => ⟨sampleFire s, s.startedUp, scheduleCheck s.startedUp, sampleFire_active, sampleFire_idle, rfl,
    scheduleCheckFrom_spec _ _, congrArg Host.Outcome.next (if_pos hs), ?_, ?_⟩, fun hs => congrArg Host.Outcome.next (if_neg hs)⟩
  · rw [finish_latch, startedUp_latch]
  · rw [finish_clock, startedUp_clock]

end Sys2Proof.Machine
end

section
/-! PROOF. The state after a power reset (`Obligations.ResetMeetsAll`): its table of holds, its bookings and its lamp positions are
empty, its channel is READY and idle, and its switch machine and store rest. -/

namespace Sys2Proof.Machine

theorem reset_holds (i : Fin 16) : State.reset.holds[i] = none := by revert i; decide +kernel

/-- No hold stands after a reset, whatever is asked of one. -/
theorem reset_noHold {i : Fin 16} {h : Hold} {P : Prop} (hi : State.reset.holds[i] = some h) : P := by
  rw [reset_holds] at hi; cases hi

theorem reset_bookings : State.reset.bookings = [] := rfl

theorem reset_noBooking {b : Booking} {P : Prop} (hb : b ∈ State.reset.bookings) : P := by
  rw [reset_bookings] at hb; cases hb

theorem reset_lamp (p : Pos) : (State.reset.lamp p).state = .empty := by cases p <;> rfl

theorem reset_gateAgrees : GateAgrees State.reset := by
  rw [GateAgrees, ← gateCondition_iff]; decide +kernel

theorem reset_corners : CornersInRaster State.reset :=
  ⟨fun _ h => (nomatch h), fun _ h => (nomatch h), fun _ h => (nomatch h), fun _ h => (nomatch h)⟩

theorem reset_switchShape : SwitchShape State.reset := by unfold SwitchShape; decide +kernel

theorem reset_lampShape : LampShape State.reset := by unfold LampShape Lamp.Shape; decide +kernel

theorem reset_holdShapes : SystemHolds State.reset ∧ HoldTableShape State.reset :=
  ⟨⟨fun _ h => reset_noHold h, fun _ h => reset_noHold h, fun _ h => reset_noHold h⟩,
    fun _ _ h => reset_noHold h, fun _ _ h => reset_noHold h, fun _ _ _ _ h => reset_noHold h⟩

theorem reset_dark : DarkUnderHold State.reset := fun _ p => by
  rw [reset_lamp]; exact ⟨fun h => (nomatch h), fun h => (nomatch h)⟩

theorem reset_strikesNone : StrikingBelowSpent State.reset := fun p h => by
  rw [reset_lamp] at h; cases h

theorem reset_tableShape : TableShape State.reset := by
  rw [TableShape, reset_bookings]
  exact ⟨List.Pairwise.nil, fun _ h => (nomatch h), Nat.zero_le _, fun _ h => (nomatch h)⟩

theorem reset_activeAgrees : ActiveAgrees State.reset :=
  ⟨fun _ hb => reset_noBooking hb, fun _ h => (nomatch h), fun h => absurd rfl h, fun ⟨_, hb, _⟩ => reset_noBooking hb⟩

theorem reset_storeShape : StoreShape State.reset :=
  ⟨by decide +kernel, List.nodup_nil, List.nodup_nil, fun _ h => (nomatch h), fun _ h => (nomatch h), fun _ h => (nomatch h)⟩

theorem reset_ranges : ClockAndConfigInRange State.reset := by
  unfold ClockAndConfigInRange ConfigInRange; decide +kernel

/-- Settles O60: each part of the state after a reset meets its shape. -/
theorem resetMeetsAll : Obligations.ResetMeetsAll :=
  ⟨reset_gateAgrees, ⟨rfl, rfl⟩, ⟨rfl, rfl, rfl, rfl, rfl, rfl⟩, reset_corners, reset_switchShape, reset_lampShape,
    reset_strikesNone, reset_holdShapes.1, reset_dark, reset_holdShapes.2, reset_tableShape,
    fun _ _ hb => reset_noBooking hb, ⟨fun _ hb => reset_noBooking hb, fun _ h => reset_noHold h⟩, reset_activeAgrees,
    reset_storeShape, ⟨List.nodup_nil, fun _ hb => reset_noBooking hb⟩, reset_ranges⟩

end Sys2Proof.Machine
end
